-- ==== Sys2Proof/Word.lean ====
section
/-! DEFINITION. The two word types of the ports: a byte of a link or of an 8-bit access, and a 16-bit word of a window. -/

namespace Sys2Proof

/-- A byte of a serial link, a record or an 8-bit bench access. -/
abbrev Byte := BitVec 8

/-- A 16-bit word of a bench window, a plan image or a readout. -/
abbrev Word := BitVec 16

end Sys2Proof
end

