-- ==== Sys2Proof/Syntax.lean ====
section
/-! DEFINITION. The commands of the 4620: one constructor of `Instr` per row of spec/opcode_table.json, with the row's operands. -/

namespace Sys2Proof

/-- The two test positions of the station (00_scope.md, Numbering). -/
inductive Nest where
  | n0
  | n1
deriving DecidableEq, Repr

/-- The two sealed volumes of an axle: the carrier housing (0) and the through-drive chamber (1) (00_scope.md). -/
inductive Chamber where
  | c0
  | c1
deriving DecidableEq, Repr

/-- The two serial links (R184, R186). -/
inductive Link where
  | cell
  | plant
deriving DecidableEq, Repr

/-- The two ports an ABORT may come from (R14). -/
inductive AbortPort where
  | cellLink
  | benchPort
deriving DecidableEq, Repr

/-- The five windows of the bench port (R177); `Window.number` gives each its w, `windowOfAddress` the window of an address. -/
inductive Window where
  | command
  | reply
  | data
  | pointer
  | flags
deriving DecidableEq, Repr

/-- The two windows that ignore a write (R177). -/
inductive ReadOnlyWindow where
  | reply
  | flags
deriving DecidableEq, Repr

/-- The two byte addresses of a window in 8-bit mode (R177). -/
inductive Half where
  | low
  | high
deriving DecidableEq, Repr

/-- What one byte access of 8-bit mode does (R178). -/
inductive ByteOp where
  | read
  | write (b : Byte)
deriving DecidableEq, Repr

/-- One byte access of 8-bit mode: the window and the half that its address names (R177, `byteAccessAt`), and a read or a write
(R178). -/
structure ByteAccess where
  window : Window
  half : Half
  op : ByteOp
deriving DecidableEq, Repr

/-- What RESET reads from the outside: the two straps (R177, R184) and the levels of the e-stop, guard and
drive-fault inputs (R163, R171). -/
structure ResetPins where
  width16 : Bool
  fastLinks : Bool
  estop : Bool
  guardOpen0 : Bool
  guardOpen1 : Bool
  driveFault0 : Bool
  driveFault1 : Bool
deriving DecidableEq, Repr

/-- The inputs of one drive update of one nest: the raw torque in N·m and the coupling-seated input (R61, R164). -/
structure UpdateInput where
  nest : Nest
  rawTorque : Int
  seated : Bool
deriving DecidableEq, Repr

/-- The input of one pressure sample of one leak circuit: the raw chamber pressure in Pa (R100, R165). -/
structure PressureInput where
  nest : Nest
  chamber : Chamber
  raw : Int
deriving DecidableEq, Repr

/-- A change of the two quadrature inputs: one channel in the drive-forward or the reverse direction, or both at once (R67). -/
inductive Quadrature where
  | forward
  | reverse
  | illegal
deriving DecidableEq, Repr

/-- One change of a nest's quadrature inputs (R67). -/
structure EncoderInput where
  nest : Nest
  change : Quadrature
deriving DecidableEq, Repr

/-- The sample that a ZERO takes: a drive update's or a pressure sample's (R167). -/
inductive ZeroSample where
  | torque (u : UpdateInput)
  | pressure (p : PressureInput)
deriving DecidableEq, Repr

/-- What reveals that a frame is to be discarded: a byte (bad length, end byte or CRC) or a missing stop bit (R184). -/
inductive DiscardCause where
  | byte (b : Byte)
  | missingStopBit
deriving DecidableEq, Repr

/-- The commands of the 4620, in the order of spec/opcode_table.json. A nest, slot, variant or position that a master sends
is the byte it sends, so that a value out of range can be sent too. -/
inductive Instr where
  /-- RESET (R2). -/
  | reset (pins : ResetPins)
  /-- ARRIVE (R9), kind 0x10 on the cell link: nest, variant, serial. -/
  | arrive (nest variant : Byte) (serial : List Byte)
  /-- CLAMPED (R10), kind 0x11. -/
  | clamped (nest : Byte)
  /-- RELEASE (R15), kind 0x12. -/
  | release (nest : Byte)
  /-- ABORT (R14), kind 0x13 on the cell link or code 0x02 on the bench port. -/
  | abort (port : AbortPort) (nest : Byte)
  /-- PERMIT (R172), kind 0x14. -/
  | permit
  /-- ASK (R187), kind 0x15. -/
  | ask (nest : Byte)
  /-- FETCH (R156), kind 0x20 on the plant link. -/
  | fetch
  /-- TAKE (R157), kind 0x21. -/
  | take (number : Word)
  /-- COUNT (R158), kind 0x22. -/
  | count
  /-- UNKNOWN_KIND (R186): a complete frame of a kind that is not one of its link's. -/
  | unknownKind (link : Link) (kind : Byte) (payload : List Byte)
  /-- FRAME_DISCARDED (R184). -/
  | frameDiscarded (link : Link) (cause : DiscardCause)
  /-- FRAME_GAP_TIMEOUT (R184). -/
  | frameGapTimeout (link : Link)
  /-- FRAME_WHILE_PENDING (R186). -/
  | frameWhilePending (link : Link) (kind : Byte) (payload : List Byte)
  /-- REPLY_TRANSMITTED (R186). -/
  | replyTransmitted (link : Link)
  /-- START (R12), code 0x01. -/
  | start (nest : Byte)
  /-- RETEST (R21), code 0x03. -/
  | retest (nest : Byte)
  /-- FILE (R17), code 0x04. -/
  | file (nest : Byte)
  /-- QUARANTINE (R18), code 0x05. -/
  | quarantine (nest : Byte)
  /-- CLEAR_FAULTS (R176), code 0x06. -/
  | clearFaults (nest : Byte)
  /-- READ_DOSSIER (R183), code 0x07. -/
  | readDossier (nest : Byte)
  /-- READ_TEMP (R54), code 0x08. -/
  | readTemp (nest : Byte)
  /-- ZERO (R166), code 0x09: nest, target code, length code. -/
  | zero (nest : Byte) (target length : Word)
  /-- ZERO_COMPLETE (R167). -/
  | zeroComplete (sample : ZeroSample)
  /-- LOAD_PLAN (R44), code 0x10: variant, length in words. -/
  | loadPlan (variant : Byte) (length : Word)
  /-- CLEAR_PLAN (R45), code 0x11. -/
  | clearPlan (variant : Byte)
  /-- READ_PLAN (R46), code 0x12. -/
  | readPlan (variant : Byte)
  /-- PIN (R121), code 0x18. -/
  | pin (slot : Byte)
  /-- UNPIN (R122), code 0x19. -/
  | unpin (slot : Byte)
  /-- VIEW_SLOT (R123), code 0x1A. -/
  | viewSlot (slot : Byte)
  /-- READ_REPORT (R159), code 0x20. -/
  | readReport (position : Byte)
  /-- SET_REPORT_BASE (R160), code 0x21. -/
  | setReportBase (number : Word)
  /-- SET_STATION (R161), code 0x22. -/
  | setStation (number : Byte)
  /-- SET_CLOCK (R162), code 0x23: the high and the low half of the value. -/
  | setClock (high low : Word)
  /-- READ_ATTENTION (R182), code 0x28. -/
  | readAttention
  /-- ENABLE_ATTENTION (R182), code 0x29. -/
  | enableAttention (mask : Word)
  /-- READ_STATION (R183), code 0x2A. -/
  | readStation
  /-- UNKNOWN_COMMAND (R179): a first command word whose code is not in the table. -/
  | unknownCommand (word : Word)
  /-- COMMAND_WORD_COLLECT (R179): a word written to the command window. -/
  | commandWordCollect (word : Word)
  /-- COMMAND_WORD_OVERRUN (R179): a word written to the command window while COMMAND_HELD is set. -/
  | commandWordOverrun (word : Word)
  /-- REPLY_WINDOW_READ (R179). -/
  | replyWindowRead
  /-- DATA_WINDOW_READ (R180). -/
  | dataWindowRead
  /-- DATA_WINDOW_WRITE (R180). -/
  | dataWindowWrite (word : Word)
  /-- POINTER_WINDOW_WRITE (R180). -/
  | pointerWindowWrite (word : Word)
  /-- BYTE_HALF_ACCESS (R178). -/
  | byteHalfAccess (access : ByteAccess)
  /-- REGISTER_WRITE (R177): a write to the reply or the flags window. -/
  | registerWrite (window : ReadOnlyWindow) (word : Word)
  /-- DRIVE_UPDATE (R60). -/
  | driveUpdate (input : UpdateInput)
  /-- CONTROLLED_STOP_COMPLETE (R63). -/
  | controlledStopComplete (input : UpdateInput)
  /-- PERMIT_WAIT_EXPIRY (R69). -/
  | permitWaitExpiry (input : UpdateInput)
  /-- ENGAGE_SUCCESS (R71). -/
  | engageSuccess (input : UpdateInput)
  /-- JAM_ABANDON (R72). -/
  | jamAbandon (input : UpdateInput)
  /-- ENGAGE_ATTEMPT_TIMEOUT (R72). -/
  | engageAttemptTimeout (input : UpdateInput)
  /-- REF_TORQUE_TRIP (R74). -/
  | refTorqueTrip (input : UpdateInput)
  /-- REF_SEARCH_LIMIT (R74). -/
  | refSearchLimit (input : EncoderInput)
  /-- REF_REVERSE_LIMIT (R76). -/
  | refReverseLimit (input : EncoderInput)
  /-- REF_CREEP_LIMIT (R77). -/
  | refCreepLimit (input : EncoderInput)
  /-- TORQUE_TRIP (R92). -/
  | torqueTrip (input : UpdateInput)
  /-- RAMP_END (R83). -/
  | rampEnd (input : UpdateInput)
  /-- HOLD_LIMIT (R85). -/
  | holdLimit (input : UpdateInput)
  /-- DWELL_END (R86). -/
  | dwellEnd (input : UpdateInput)
  /-- ENCODER_CHANGE (R67). -/
  | encoderChange (input : EncoderInput)
  /-- MARK_EDGE (R75). -/
  | markEdge (nest : Nest)
  /-- INDEX_PULSE (R77). -/
  | indexPulse (nest : Nest)
  /-- PRESSURE_SAMPLE (R100). -/
  | pressureSample (input : PressureInput)
  /-- AIR_WAIT_LIMIT (R109). -/
  | airWaitLimit (input : PressureInput)
  /-- FILL_TIMEOUT (R110). -/
  | fillTimeout (input : PressureInput)
  /-- SETTLE_END (R111). -/
  | settleEnd (input : PressureInput)
  /-- MEASURE_END (R112). -/
  | measureEnd (input : PressureInput)
  /-- VENT_LIMIT (R114). -/
  | ventLimit (input : PressureInput)
  /-- SUPPLY_SAMPLE (R104): the supply pressure in Pa. -/
  | supplySample (pressure : Int)
  /-- TEMP_SAMPLE (R49): the temperature input in 0.1 °C. -/
  | tempSample (nest : Nest) (input : Int)
  /-- CLOCK_TICK (R162). -/
  | clockTick
  /-- PERMIT_EXPIRY (R173). -/
  | permitExpiry
  /-- ESTOP_ACTIVATE (R168). -/
  | estopActivate
  /-- ESTOP_CLEAR (R169). -/
  | estopClear
  /-- GUARD_OPEN (R170). -/
  | guardOpen (nest : Nest)
  /-- GUARD_CLOSE (R170). -/
  | guardClose (nest : Nest)
  /-- DRIVE_FAULT_ACTIVATE (R171). -/
  | driveFaultActivate (nest : Nest)
  /-- DRIVE_FAULT_CLEAR (R171). -/
  | driveFaultClear (nest : Nest)
  /-- JOB_COMPLETE (R138). -/
  | jobComplete
  /-- RECEIVED_BYTE (R184). -/
  | receivedByte (link : Link) (byte : Byte)
  /-- VIBRATION_CONVERSION (R124): the vibration input in ADC counts. -/
  | vibrationConversion (nest : Nest) (input : Int)
deriving DecidableEq, Repr

end Sys2Proof
end

