-- ==== Sys2Proof/Config.lean ====
section
/-! DEFINITION. What an installation fixes outside the spec (the strap and input levels at `State.reset`) and the one free value. -/

namespace Sys2Proof

/-- DESIGN CHOICE (notes/assumptions/1.md), unsafe: the levels that `State.reset` takes from the straps and inputs, which
the spec leaves to the installation (R163, R177, R184). RESET itself carries the levels. -/
def Config.defaultPins : ResetPins where
  width16 := true
  fastLinks := false
  estop := false
  guardOpen0 := false
  guardOpen1 := false
  driveFault0 := false
  driveFault1 := false

/-- Free value (notes/assumptions/3.md), safe: the mean that READ_STATION shows for a circuit whose mean window is empty.
R100 defines the mean over the samples taken and R194 gives no code for none. -/
opaque Config.emptyMean : Nat → BitVec 32

end Sys2Proof
end

