-- ==== Sys2Proof/Machine/State.lean ====
section
/-! DEFINITION. The state of the 4620 as plain data: every piece of state the chapters of spec/ give its blocks, and `State.reset`. -/

namespace Sys2Proof.Machine

/-- One value for each nest. -/
structure PerNest (α : Type) where
  n0 : α
  n1 : α
deriving DecidableEq, Repr

/-- One value for each chamber of a nest. -/
structure PerChamber (α : Type) where
  c0 : α
  c1 : α
deriving DecidableEq, Repr

/-- One value for each serial link. -/
structure PerLink (α : Type) where
  cell : α
  plant : α
deriving DecidableEq, Repr

/-! ### Plans (Chapter 2) -/

/-- A set of chambers: the mask of a LEAK stage (R36), the measured chambers of a stage (R106), the leak scope (R20). -/
structure ChamberSet where
  c0 : Bool
  c1 : Bool
deriving DecidableEq, Repr

/-- The two leak sets of a plan (R38). -/
inductive LeakSetIx where
  | set0
  | set1
deriving DecidableEq, Repr

/-- One entry of a plan's stage list (R36). -/
inductive Stage where
  | leak (chambers : ChamberSet) (set : LeakSetIx)
  | engage
  | reference
  | profile
deriving DecidableEq, Repr

/-- The flank that carries the load at a step (R37). -/
inductive LoadSide where
  | drive
  | coast
deriving DecidableEq, Repr

/-- One step of a profile (R37). -/
structure Step where
  target : Int
  rampUpdates : Nat
  dwellUpdates : Nat
  torqueLimit : Nat
  capture : Option Nat
  side : LoadSide
deriving DecidableEq, Repr

/-- What a circuit does after measuring (R38). -/
inductive AfterMeasure where
  | autoVent
  | hold
deriving DecidableEq, Repr

/-- One leak set (R38); `compensation` holds the values of classes 1 to 6 in that order. -/
structure LeakSet where
  fillTarget : Nat
  fillTimeout : Nat
  settleTime : Nat
  measureTime : Nat
  decayLimit : Nat
  compensation : List Int
  afterMeasure : AfterMeasure
deriving DecidableEq, Repr

/-- One order line of a capture definition (R39). -/
structure OrderLine where
  q : Nat
  driveLimit : Nat
  coastLimit : Nat
deriving DecidableEq, Repr

/-- One impact window of a capture definition (R39, R133): from `start` up to but not including `stop`. -/
structure ImpactWindow where
  start : Nat
  stop : Nat
  peakLimit : Nat
deriving DecidableEq, Repr

/-- One capture definition (R39). -/
structure CaptureDef where
  revolutions : Nat
  blocks : Nat
  overallLimit : Nat
  lines : List OrderLine
  windows : List ImpactWindow
deriving DecidableEq, Repr

/-- The reference mode of a plan (R35). -/
inductive RefMode where
  | a
  | b
deriving DecidableEq, Repr

/-- The contents of a VALID plan (R35 to R39). The counts of the header are the lengths of the lists. -/
structure Plan where
  label : List Byte
  autoStart : Bool
  autoFile : Bool
  cycles : Nat
  attemptsMask : Nat
  jamTorque : Nat
  searchSpeed : Nat
  refMode : RefMode
  indexCount : Nat
  stages : List Stage
  steps : List Step
  leakSet0 : LeakSet
  leakSet1 : LeakSet
  captures : List CaptureDef
deriving DecidableEq, Repr

/-- One entry of the plan store: the plan, absent while EMPTY, and the variant's in-use count (R33). -/
structure PlanEntry where
  plan : Option Plan
  inUse : Nat
deriving DecidableEq, Repr

/-! ### Dossiers (Chapter 1) -/

/-- The six states of a dossier (R1). -/
inductive DossierState where
  | vacant
  | opened
  | testing
  | stopping
  | judged
  | filed
deriving DecidableEq, Repr

/-- The four verdicts (R29). -/
inductive Verdict where
  | pass
  | fail
  | incomplete
  | aborted
deriving DecidableEq, Repr

/-- The result of a section record (R4); a pending record has none. -/
inductive SectionResult where
  | pass
  | fail
  | notMeasured
deriving DecidableEq, Repr

/-- The causes of results and verdicts (R195). -/
inductive Cause where
  | none
  | releasedUntested
  | aborted
  | estop
  | guard
  | engageFail
  | refFail
  | torqueTrip
  | overheat
  | driveFault
  | encoderFault
  | permitLapse
  | tempHold
  | skipped
  | noAir
  | grossLeak
  | tempMoved
  | decay
  | sensor
  | unsteady
  | noSlot
  | overload
  | orderLimit
  | overallLimit
  | windowLimit
deriving DecidableEq, Repr

/-- A given result: a result always comes with a cause (R4). -/
structure Given where
  result : SectionResult
  cause : Cause
deriving DecidableEq, Repr

/-- The run-in record (R5). -/
structure RunInRecord where
  given : Option Given
  stepsCompleted : Nat
  peakTorque : Nat
  attemptUsed : Nat
deriving DecidableEq, Repr

/-- A leak section record (R6). -/
structure LeakRecord where
  chamber : Chamber
  given : Option Given
  classAtStart : Option Nat
  pStart : Option Int
  deltaP : Option Int
  deltaPc : Option Int
deriving DecidableEq, Repr

/-- The entry of one order line in a capture record (R7). -/
structure LineEntry where
  q : Nat
  maximum : Nat
  saturated : Bool
  exceeded : Bool
deriving DecidableEq, Repr

/-- A capture record (R7). `windows` holds each window's maximum peak; a window reads NOT_MEASURED while `unmeasured` is set
or no block is analysed (R153). -/
structure CaptureRecord where
  number : Nat
  side : Option LoadSide
  setPoint : Option Int
  blocksRequested : Nat
  blocksAnalysed : Nat
  restarts : Nat
  overallMax : Option Nat
  lines : List LineEntry
  windows : List Nat
  overload : Bool
  unmeasured : Bool
  given : Option Given
deriving DecidableEq, Repr

/-- The dossier of one nest with its section records (R3, R4) and its stage engine: the skip marks (R13, R20, R25), the
last stage begun (R25) and the leak scope of the run (R20, R106). -/
structure Dossier where
  state : DossierState
  serial : Option (List Byte)
  variant : Option (Fin 32)
  clamped : Bool
  stageIndex : Option Nat
  verdict : Option Verdict
  verdictCause : Option Cause
  firstVerdict : Option Verdict
  retestCount : Option Nat
  repeatFlag : Bool
  quarantine : Bool
  stoppingCause : Option Cause
  stopped : Bool
  arrivalTime : Option (BitVec 32)
  judgedTime : Option (BitVec 32)
  classAtStart : Option Nat
  classAtJudgment : Option Nat
  filingPending : Bool
  reportNumber : Option Nat
  runIn : Option RunInRecord
  leaks : List LeakRecord
  captures : List CaptureRecord
  skipped : List Nat
  lastBegun : Option Nat
  leakScope : ChamberSet
deriving DecidableEq, Repr

/-! ### Temperature monitors (Chapter 3) -/

/-- The temperature monitor of one nest (R48). -/
structure Monitor where
  temperature : Option Int
  tempClass : Nat
  changed : Bool
  sensorFault : Bool
  sampled : Bool
deriving DecidableEq, Repr

/-! ### Drive channels (Chapters 4 and 5) -/

/-- The three engagement attempts (R70). -/
inductive Attempt where
  | forwardCreep
  | reverseCreep
  | oscillation
deriving DecidableEq, Repr

/-- The stage counters of an ENGAGE stage in ENGAGING (R70 to R72). `begun` is false while the attempt waits for the
next drive update; `failed` is set once a run-in failure has been given in the stage (R23). -/
structure EngageCounters where
  attempt : Attempt
  begun : Bool
  updates : Nat
  seatedRun : Nat
  jamRun : Nat
  failed : Bool
deriving DecidableEq, Repr

/-- The stage counters of a REFERENCE stage (R73). -/
structure RefCounters where
  travel : Int
  reverse : Bool
  pulses : Nat
  torqueRun : Nat
deriving DecidableEq, Repr

/-- The two phases of a profile step (R79). -/
inductive Phase where
  | ramp
  | dwell
deriving DecidableEq, Repr

/-- The state of a step's capture request (R79). -/
inductive StepCapture where
  | none
  | active
  | ended
deriving DecidableEq, Repr

/-- The stage counters of a PROFILE stage (R79). -/
structure ProfileCounters where
  stepIndex : Nat
  cycle : Nat
  phase : Phase
  rampStart : Int
  rampCount : Nat
  computed : Int
  dwellCount : Nat
  holdCount : Nat
  stepCapture : StepCapture
  torqueRun : Nat
  endPending : Bool
deriving DecidableEq, Repr

/-- The activity of a drive channel with the stage counters of the stage in progress (R59); IDLE holds none.
`permitWait` counts the updates of the wait (R69). -/
inductive Activity where
  | idle
  | permitWait (updates : Nat)
  | engaging (e : EngageCounters)
  | searching (r : RefCounters)
  | reversing (r : RefCounters)
  | creeping (r : RefCounters)
  | profiling (p : ProfileCounters)
deriving DecidableEq, Repr

/-- A drive channel (R59). `reference` holds the reference index angle and is present exactly while the reference is
PRESENT; `stopping` is the stop in progress CONTROLLED. -/
structure Channel where
  setPoint : Int
  enable : Bool
  engaged : Bool
  reference : Option (BitVec 12)
  angle : BitVec 12
  activity : Activity
  stopping : Bool
deriving DecidableEq, Repr

/-! ### Leak circuits and air supply (Chapter 6) -/

/-- The states of a leak circuit (R98). -/
inductive CircuitState where
  | idle
  | waitingAir
  | filling
  | settling
  | measuring
  | holding
  | venting
deriving DecidableEq, Repr

/-- A leak circuit (R98). `latest` and `latestFault` are the latest conditioned sample and whether it was a sensor fault
(R98, R176). -/
structure Circuit where
  state : CircuitState
  leakSet : Option LeakSetIx
  count : Nat
  window : List Int
  pStart : Option Int
  classAtStart : Option Nat
  resultGiven : Bool
  ventReported : Bool
  latest : Int
  latestFault : Bool
deriving DecidableEq, Repr

/-- The LEAK stage in progress of one nest (R106). -/
structure LeakStage where
  measured : ChamberSet
  set : LeakSetIx
  next : Option Chamber
deriving DecidableEq, Repr

/-- The name of a leak circuit: its nest and chamber (R98). -/
structure CircuitId where
  nest : Nest
  chamber : Chamber
deriving DecidableEq, Repr

/-- The air supply arbiter (R101, R102, R104). -/
structure Arbiter where
  holder : Option CircuitId
  waiting : List CircuitId
  supplyLow : Bool
deriving DecidableEq, Repr

/-! ### Capture memory, capture units and the analysis engine (Chapters 7 and 8) -/

/-- The states of a capture slot (R119). -/
inductive SlotState where
  | free
  | filling
  | ready
  | analysing
  | pinned
deriving DecidableEq, Repr

/-- The descriptor of a slot (R119); the block length is N = 256 × `revolutions`. -/
structure Descriptor where
  owner : Nest
  number : Nat
  revolutions : Nat
  side : LoadSide
deriving DecidableEq, Repr

/-- A capture slot (R119). `samples` holds the samples written, position 0 first; their number is the samples-written field. -/
structure Slot where
  state : SlotState
  pinMark : Bool
  descriptor : Option Descriptor
  samples : List Int
deriving DecidableEq, Repr

/-- The direction of a sample point (R124). -/
inductive Direction where
  | forward
  | reverse
deriving DecidableEq, Repr

/-- The fields of a capture in progress that do not depend on a slot (R125). -/
structure Capture where
  number : Nat
  revolutions : Nat
  blocks : Nat
  windows : List ImpactWindow
  side : LoadSide
  direction : Option Direction
  blocksDone : Nat
  restarts : Nat
  windowsValid : Bool
deriving DecidableEq, Repr

/-- The fields of the block in progress (R125). -/
structure BlockInProgress where
  slot : Fin 4
  clipped : Nat
  peaks : List Nat
deriving DecidableEq, Repr

/-- A capture unit (R125): IDLE, WAITING_SLOT or SAMPLING, with the fields each state holds. -/
inductive CaptureUnit where
  | idle
  | waitingSlot (c : Capture)
  | sampling (c : Capture) (b : BlockInProgress)
deriving DecidableEq, Repr

/-- An analysis job: the slot, its descriptor's fields and the window peaks sent with the block (R135). -/
structure Job where
  slot : Fin 4
  owner : Nest
  number : Nat
  revolutions : Nat
  side : LoadSide
  peaks : Option (List Nat)
deriving DecidableEq, Repr

/-- The order analysis engine (R135); it is COMPUTING while a job is in progress. -/
structure Engine where
  queue : List Job
  current : Option Job
  discard : Bool
deriving DecidableEq, Repr

/-! ### Reports (Chapter 9) -/

/-- A report (R152, R153). The same fields, some of them absent, form the dossier readout (R193). -/
structure Report where
  number : Option Nat
  station : Byte
  nest : Nest
  variant : Option (Fin 32)
  verdict : Option Verdict
  verdictCause : Option Cause
  firstVerdict : Option Verdict
  quarantine : Bool
  repeatFlag : Bool
  retestCount : Nat
  serial : List Byte
  arrivalTime : BitVec 32
  judgedTime : BitVec 32
  classAtStart : Option Nat
  classAtJudgment : Option Nat
  runIn : Option RunInRecord
  leaks : List LeakRecord
  captures : List CaptureRecord
deriving DecidableEq, Repr

/-- The report queue (R149). -/
structure ReportQueue where
  reports : List Report
  nextNumber : Nat
  filingPending : List Nest
  station : Byte
  clock : BitVec 32
deriving DecidableEq, Repr

/-! ### Interlock unit (Chapter 10) -/

/-- The causes of a fault list (R175). -/
inductive FaultCause where
  | sensorTemp
  | sensorPressure
  | encoderFault
  | driveFault
  | ventFail
deriving DecidableEq, Repr

/-- A nest's fault list, in order of first occurrence, with its more flag (R163, R175). -/
structure FaultList where
  causes : List FaultCause
  more : Bool
deriving DecidableEq, Repr

/-- The target of a ZERO (R166). -/
inductive ZeroTarget where
  | torque
  | chamber (c : Chamber)
deriving DecidableEq, Repr

/-- The length of a ZERO: SHORT or LONG (R166). -/
inductive ZeroLength where
  | short
  | long
deriving DecidableEq, Repr

/-- The ZERO in progress (R163). -/
structure ZeroInProgress where
  nest : Nest
  target : ZeroTarget
  length : ZeroLength
  taken : Nat
  sum : Int
deriving DecidableEq, Repr

/-- The interlock unit (R163). `permitLeft` is the time left on the permit timer in ms. -/
structure Interlock where
  torqueOffset : PerNest Int
  pressureOffset : PerNest (PerChamber Int)
  estop : Bool
  guardOpen : PerNest Bool
  driveFault : PerNest Bool
  permitLive : Bool
  permitLeft : Nat
  faults : PerNest FaultList
  zero : Option ZeroInProgress
deriving DecidableEq, Repr

/-! ### Bench port and links (Chapter 11) -/

/-- A reply with its read index (R177). -/
structure BenchReply where
  words : List Word
  index : Nat
deriving DecidableEq, Repr

/-- A read latched at its first half: the half read and the whole word (R178). -/
structure ReadLatch where
  half : Half
  word : Word
deriving DecidableEq, Repr

/-- A write held at its first half: the half and the byte (R178). -/
structure WriteLatch where
  half : Half
  byte : Byte
deriving DecidableEq, Repr

/-- The byte latches of one direction, one per window that pairs its halves (R177, R178). -/
structure Latches (α : Type) where
  command : Option α
  reply : Option α
  data : Option α
  pointer : Option α
deriving DecidableEq, Repr

/-- The bench port (R177). COMMAND_HELD is the presence of `held`; the content length of the output buffer is the length
of `output`; `intake` is in the canonical form of `WordMem`; `driven` is the word last driven on the data lines by a read. -/
structure Bench where
  width16 : Bool
  collected : List Word
  held : Option (List Word)
  reply : Option BenchReply
  output : List Word
  intake : List (Nat × Word)
  pointer : BitVec 13
  view : Option (Fin 4)
  replyReady : Bool
  dataReady : Bool
  overrun : Bool
  pastEnd : Bool
  readLatches : Latches ReadLatch
  writeLatches : Latches WriteLatch
  causes : BitVec 9
  enableMask : BitVec 9
  driven : Word
deriving DecidableEq, Repr

/-- A link's receiver: hunting, or the bytes taken after the SOH of the frame in progress (R184). -/
inductive Receiver where
  | hunting
  | inFrame (bytes : List Byte)
deriving DecidableEq, Repr

/-- The pending request of a link with the reply frame that is being transmitted for it (R186). -/
structure PendingRequest where
  kind : Byte
  payload : List Byte
  reply : List Byte
deriving DecidableEq, Repr

/-- A serial link (R184, R186). -/
structure LinkState where
  receiver : Receiver
  request : Option PendingRequest
deriving DecidableEq, Repr

/-! ### The machine -/

/-- The whole state of the 4620, and the queue of the commands that wait (`pending`, first in, first out). `freeCount`
picks the next free value of `Config.emptyMean` and is the model's own. -/
structure State where
  dossiers : PerNest Dossier
  plans : Vector PlanEntry 32
  monitors : PerNest Monitor
  channels : PerNest Channel
  circuits : PerNest (PerChamber Circuit)
  leakStages : PerNest (Option LeakStage)
  arbiter : Arbiter
  slots : Vector Slot 4
  units : PerNest CaptureUnit
  vibration : PerNest Int
  engine : Engine
  reports : ReportQueue
  interlock : Interlock
  bench : Bench
  links : PerLink LinkState
  fastLinks : Bool
  freeCount : Nat
  pending : List Instr
deriving DecidableEq, Repr

/-- Reasons a step can stop with a fault: none. The spec gives every command an effect in every state, so no meaning raises a
fault (safe). -/
inductive Fault where
deriving DecidableEq, Repr

/-- Reasons a step can be refused. -/
inductive Refusal where
  /-- Raised by a refused arm of `exec` alone, for a row without a meaning yet (safe); no arm is refused. -/
  | notModelled (mnemonic : String)
deriving DecidableEq, Repr

/-- A VACANT entry: every field other than the state absent, every flag clear (R1, R2). -/
def Dossier.vacant : Dossier where
  state := .vacant
  serial := none
  variant := none
  clamped := false
  stageIndex := none
  verdict := none
  verdictCause := none
  firstVerdict := none
  retestCount := none
  repeatFlag := false
  quarantine := false
  stoppingCause := none
  stopped := false
  arrivalTime := none
  judgedTime := none
  classAtStart := none
  classAtJudgment := none
  filingPending := false
  reportNumber := none
  runIn := none
  leaks := []
  captures := []
  skipped := []
  lastBegun := none
  leakScope := ⟨false, false⟩

/-- A monitor after reset (R48). -/
def Monitor.afterReset : Monitor := ⟨none, 7, false, false, false⟩

/-- A drive channel after reset (R59). -/
def Channel.afterReset : Channel := ⟨0, false, false, none, 0, .idle, false⟩

/-- A leak circuit after reset (R98). DESIGN CHOICE (notes/assumptions/2.md): `latest` 0, `latestFault` false. -/
def Circuit.afterReset : Circuit := ⟨.idle, none, 0, [], none, none, false, false, 0, false⟩

/-- A capture slot after reset (R119). -/
def Slot.afterReset : Slot := ⟨.free, false, none, []⟩

/-- A serial link after reset (R184, R186). -/
def LinkState.afterReset : LinkState := ⟨.hunting, none⟩

/-- The bench port after reset, with the width strap as read (R177). DESIGN CHOICE (notes/assumptions/2.md): `driven` 0. -/
def Bench.afterReset (width16 : Bool) : Bench where
  width16 := width16
  collected := []
  held := none
  reply := none
  output := []
  intake := []
  pointer := 0
  view := none
  replyReady := false
  dataReady := false
  overrun := false
  pastEnd := false
  readLatches := ⟨none, none, none, none⟩
  writeLatches := ⟨none, none, none, none⟩
  causes := 0
  enableMask := BitVec.allOnes 9
  driven := 0

/-- The interlock unit after reset with the levels of its inputs; the drive-fault levels are taken as inactive (R163, R171). -/
def Interlock.afterReset (pins : ResetPins) : Interlock where
  torqueOffset := ⟨0, 0⟩
  pressureOffset := ⟨⟨0, 0⟩, ⟨0, 0⟩⟩
  estop := pins.estop
  guardOpen := ⟨pins.guardOpen0, pins.guardOpen1⟩
  driveFault := ⟨false, false⟩
  permitLive := false
  permitLeft := 0
  faults := ⟨⟨[], false⟩, ⟨[], false⟩⟩
  zero := none

/-- Every block at its reset value (the reset columns of R2, R33, R48, R59, R98, R101, R119, R125, R135, R149, R163, R177,
R184, R186), before an active drive-fault input is taken as an activation (R171). -/
def State.afterReset (pins : ResetPins) (freeCount : Nat) (pending : List Instr) : State where
  dossiers := ⟨Dossier.vacant, Dossier.vacant⟩
  plans := Vector.replicate 32 ⟨none, 0⟩
  monitors := ⟨Monitor.afterReset, Monitor.afterReset⟩
  channels := ⟨Channel.afterReset, Channel.afterReset⟩
  circuits := ⟨⟨Circuit.afterReset, Circuit.afterReset⟩, ⟨Circuit.afterReset, Circuit.afterReset⟩⟩
  leakStages := ⟨none, none⟩
  arbiter := ⟨none, [], true⟩
  slots := Vector.replicate 4 Slot.afterReset
  units := ⟨.idle, .idle⟩
  vibration := ⟨0, 0⟩
  engine := ⟨[], none, false⟩
  reports := ⟨[], 1, [], 0, 0⟩
  interlock := Interlock.afterReset pins
  bench := Bench.afterReset pins.width16
  links := ⟨LinkState.afterReset, LinkState.afterReset⟩
  fastLinks := pins.fastLinks
  freeCount := freeCount
  pending := pending

/-- The machine right after reset, with the levels of `Config.defaultPins`, no command waiting. -/
def State.reset : State := State.afterReset Config.defaultPins 0 []

end Sys2Proof.Machine
end

