-- ==== Sys2Proof/Machine/Operands.lean ====
section
/-! DEFINITION. The operands of requests and commands: which nest, slot, variant or ZERO target a byte or word names, the
kinds and codes of the two ports, and the code values of R195. -/

namespace Sys2Proof

/-- The number of a nest (00_scope.md). -/
def Nest.number : Nest → Nat
  | .n0 => 0
  | .n1 => 1

/-- The other nest. -/
def Nest.other : Nest → Nest
  | .n0 => .n1
  | .n1 => .n0

/-- The number of a chamber (00_scope.md). -/
def Chamber.number : Chamber → Nat
  | .c0 => 0
  | .c1 => 1

/-- The other chamber of a nest. -/
def Chamber.other : Chamber → Chamber
  | .c0 => .c1
  | .c1 => .c0

/-! ### The address lines of the bench port (R177) -/

/-- The number w of a window (R177). -/
def Window.number : Window → Nat
  | .command => 0
  | .reply => 1
  | .data => 2
  | .pointer => 3
  | .flags => 4

/-- The window of a number, none beyond 4 (R177). -/
def windowOf (w : Nat) : Option Window :=
  match w with
  | 0 => some .command
  | 1 => some .reply
  | 2 => some .data
  | 3 => some .pointer
  | 4 => some .flags
  | _ => none

/-- The address of a window's whole word in 16-bit mode: window w has address w (R177). -/
def Window.wordAddress (w : Window) : Nat := w.number

/-- The address of one half of a window in 8-bit mode: 2w for the low byte, 2w + 1 for the high byte (R177). -/
def Window.byteAddress (w : Window) : Half → Nat
  | .low => 2 * w.number
  | .high => 2 * w.number + 1

/-- The window that the address lines choose, by the width of the port (R177). -/
def windowOfAddress (width16 : Bool) (address : Nat) : Option Window := windowOf (if width16 then address else address / 2)

/-- The half that an address of 8-bit mode names: the low byte at an even address, the high byte at an odd one (R177). -/
def halfOfAddress (address : Nat) : Half := if address % 2 = 0 then .low else .high

/-- The byte access that a read or a write at an address of 8-bit mode is, none at an address of no window (R177, R178). -/
def byteAccessAt (address : Nat) (op : ByteOp) : Option ByteAccess :=
  (windowOfAddress false address).map fun w => ⟨w, halfOfAddress address, op⟩

end Sys2Proof

namespace Sys2Proof.Machine

/-- The reply codes shared by the bench port and both links (R195). -/
inductive ReplyCode where
  | accepted
  | ignored
  | empty
  | badNest
  | badSerial
  | badLength
  | unknownKind
  | unknownCommand
  | nestBusy
  | nestFault
  | noPlan
  | duplicate
  | notClamped
  | wrongState
  | estopActive
  | notFiled
  | chambersActive
  | queueFull
  | retestLimit
  | planInUse
  | badPlan
  | pinLimit
  | wrongReport
  | zeroRange
deriving DecidableEq, Repr

/-- The value of a reply code (R195). -/
def ReplyCode.code : ReplyCode → Byte
  | .accepted => 0
  | .ignored => 1
  | .empty => 2
  | .badNest => 3
  | .badSerial => 4
  | .badLength => 5
  | .unknownKind => 6
  | .unknownCommand => 7
  | .nestBusy => 8
  | .nestFault => 9
  | .noPlan => 10
  | .duplicate => 11
  | .notClamped => 12
  | .wrongState => 13
  | .estopActive => 14
  | .notFiled => 15
  | .chambersActive => 16
  | .queueFull => 17
  | .retestLimit => 18
  | .planInUse => 19
  | .badPlan => 20
  | .pinLimit => 21
  | .wrongReport => 22
  | .zeroRange => 23

/-- The nest that a byte names, none for a byte other than 0 and 1 (R1). -/
def nestOf (b : Byte) : Option Nest :=
  if b = 0 then some .n0 else if b = 1 then some .n1 else none

/-- The variant that a byte names, none outside 0 to 31 (R44). -/
def variantOf (b : Byte) : Option (Fin 32) :=
  if h : b.toNat < 32 then some ⟨b.toNat, h⟩ else none

/-- The slot that a byte names, none outside 0 to 3 (R121). -/
def slotOf (b : Byte) : Option (Fin 4) :=
  if h : b.toNat < 4 then some ⟨b.toNat, h⟩ else none

/-- The ZERO target that a word codes (R195). -/
def zeroTargetOf (w : Word) : Option ZeroTarget :=
  if w = 0 then some .torque
  else if w = 1 then some (.chamber .c0)
  else if w = 2 then some (.chamber .c1)
  else none

/-- The ZERO length that a word codes (R195). -/
def zeroLengthOf (w : Word) : Option ZeroLength :=
  if w = 0 then some .short else if w = 1 then some .long else none

/-- The number of samples a ZERO takes (R166). -/
def ZeroLength.samples : ZeroLength → Nat
  | .short => 16
  | .long => 256

/-- A serial that ARRIVE accepts: 1 to 20 characters, each 0x21 to 0x7E (R8). -/
def serialOk (serial : List Byte) : Bool :=
  (1 ≤ serial.length) && (serial.length ≤ 20) &&
    serial.all fun c => (0x21 ≤ c.toNat) && (c.toNat ≤ 0x7E)

/-! ### Bench commands (R196) -/

/-- The number of words that the command of a code takes; none for a code not in the table (R179, R196). -/
def commandWords (code : Byte) : Option Nat :=
  if code ∈ ([0x01, 0x02, 0x03, 0x04, 0x05, 0x06, 0x07, 0x08] : List Byte) then some 1
  else if code ∈ ([0x09, 0x23] : List Byte) then some 3
  else if code ∈ ([0x10, 0x21, 0x29] : List Byte) then some 2
  else if code ∈ ([0x11, 0x12, 0x18, 0x19, 0x1A, 0x20, 0x22, 0x28, 0x2A] : List Byte) then some 1
  else none

/-- The command code of a first command word: its high byte (R179). -/
def codeOf (w : Word) : Byte := w.extractLsb' 8 8

/-- Argument A of a first command word: its low byte (R179). -/
def argumentA (w : Word) : Byte := w.extractLsb' 0 8

/-- A first word of a command or of a reply: a code in the high byte, argument A or the reply code in the low byte (R179). -/
def firstWord (code low : Byte) : Word := code ++ low

/-! ### Link requests (R190) -/

/-- The kinds of a link (R186, R190). -/
def linkKinds : Link → List Byte
  | .cell => [0x10, 0x11, 0x12, 0x13, 0x14, 0x15]
  | .plant => [0x20, 0x21, 0x22]

/-- The greatest payload a frame can carry: the length counts the kind too and is at most 1,025 (R184). -/
def maxPayload : Nat := 1024

/-! ### Code values (R195) -/

/-- The code of a dossier state (R195). -/
def DossierState.code : DossierState → Nat
  | .vacant => 0
  | .opened => 1
  | .testing => 2
  | .stopping => 3
  | .judged => 4
  | .filed => 5

/-- The code of a verdict (R195). -/
def Verdict.code : Verdict → Nat
  | .pass => 0
  | .fail => 1
  | .incomplete => 2
  | .aborted => 3

/-- The code of a section result in bits 7 and 6 of a result byte (R188). -/
def SectionResult.code : SectionResult → Nat
  | .pass => 0
  | .fail => 1
  | .notMeasured => 2

/-- The code of a cause (R195). -/
def Cause.code : Cause → Nat
  | .none => 0
  | .releasedUntested => 1
  | .aborted => 2
  | .estop => 3
  | .guard => 4
  | .engageFail => 5
  | .refFail => 6
  | .torqueTrip => 7
  | .overheat => 8
  | .driveFault => 9
  | .encoderFault => 10
  | .permitLapse => 11
  | .tempHold => 12
  | .skipped => 13
  | .noAir => 14
  | .grossLeak => 15
  | .tempMoved => 16
  | .decay => 17
  | .sensor => 18
  | .unsteady => 19
  | .noSlot => 20
  | .overload => 21
  | .orderLimit => 22
  | .overallLimit => 23
  | .windowLimit => 24

/-- The code of a drive activity (R195). -/
def Activity.code : Activity → Nat
  | .idle => 0
  | .permitWait _ => 1
  | .engaging _ => 2
  | .searching _ => 3
  | .reversing _ => 4
  | .creeping _ => 5
  | .profiling _ => 6

/-- The code of a circuit state (R195). -/
def CircuitState.code : CircuitState → Nat
  | .idle => 0
  | .waitingAir => 1
  | .filling => 2
  | .settling => 3
  | .measuring => 4
  | .holding => 5
  | .venting => 6

/-- The code of a slot state (R195). -/
def SlotState.code : SlotState → Nat
  | .free => 0
  | .filling => 1
  | .ready => 2
  | .analysing => 3
  | .pinned => 4

/-- The code of a fault cause (R195). -/
def FaultCause.code : FaultCause → Nat
  | .sensorTemp => 1
  | .sensorPressure => 2
  | .encoderFault => 3
  | .driveFault => 4
  | .ventFail => 5

/-- The code of a ZERO target (R195). -/
def ZeroTarget.code : ZeroTarget → Nat
  | .torque => 0
  | .chamber .c0 => 1
  | .chamber .c1 => 2

/-- The code of a ZERO length (R195). -/
def ZeroLength.code : ZeroLength → Nat
  | .short => 0
  | .long => 1

/-- The code of a load side (R191, R192). -/
def LoadSide.code : LoadSide → Nat
  | .drive => 0
  | .coast => 1

/-- The number of an engagement attempt (R70). -/
def Attempt.number : Attempt → Nat
  | .forwardCreep => 1
  | .reverseCreep => 2
  | .oscillation => 3

end Sys2Proof.Machine
end

