-- ==== Sys2Proof/WellFormed.lean ====
section
/-! DEFINITION. Which commands are well formed: what a master or a field line can send as the row it is sent as. -/

namespace Sys2Proof

open Machine

/-- A frame's payload fits the length field: kind and payload are 1 to 1,025 bytes (R184, R189). -/
def payloadFits (payload : List Byte) : Bool := payload.length ≤ maxPayload

/-- A command is well formed when its operands are of the row they are sent as: a frame that fits its length field (R189), an
UNKNOWN_KIND of a kind the link does not have (R186), an UNKNOWN_COMMAND of a code the table does not have (R179), and
inputs within the spans the spec states for the converters (R49, R124). -/
def Instr.wellFormed : Instr → Bool
  | .arrive n v serial => payloadFits (n :: v :: serial)
  | .unknownKind link kind payload => !(linkKinds link).contains kind && payloadFits payload
  | .frameWhilePending _ _ payload => payloadFits payload
  | .unknownCommand word => (commandWords (codeOf word)).isNone
  | .tempSample _ input => (-600 ≤ input) && (input ≤ 2000)
  | .vibrationConversion _ input => (-32768 ≤ input) && (input ≤ 32767)
  | .reset _ => true
  | .clamped _ => true
  | .release _ => true
  | .abort _ _ => true
  | .permit => true
  | .ask _ => true
  | .fetch => true
  | .take _ => true
  | .count => true
  | .frameDiscarded _ _ => true
  | .frameGapTimeout _ => true
  | .replyTransmitted _ => true
  | .start _ => true
  | .retest _ => true
  | .file _ => true
  | .quarantine _ => true
  | .clearFaults _ => true
  | .readDossier _ => true
  | .readTemp _ => true
  | .zero _ _ _ => true
  | .zeroComplete _ => true
  | .loadPlan _ _ => true
  | .clearPlan _ => true
  | .readPlan _ => true
  | .pin _ => true
  | .unpin _ => true
  | .viewSlot _ => true
  | .readReport _ => true
  | .setReportBase _ => true
  | .setStation _ => true
  | .setClock _ _ => true
  | .readAttention => true
  | .enableAttention _ => true
  | .readStation => true
  | .commandWordCollect _ => true
  | .commandWordOverrun _ => true
  | .replyWindowRead => true
  | .dataWindowRead => true
  | .dataWindowWrite _ => true
  | .pointerWindowWrite _ => true
  | .byteHalfAccess _ => true
  | .registerWrite _ _ => true
  | .driveUpdate _ => true
  | .controlledStopComplete _ => true
  | .permitWaitExpiry _ => true
  | .engageSuccess _ => true
  | .jamAbandon _ => true
  | .engageAttemptTimeout _ => true
  | .refTorqueTrip _ => true
  | .refSearchLimit _ => true
  | .refReverseLimit _ => true
  | .refCreepLimit _ => true
  | .torqueTrip _ => true
  | .rampEnd _ => true
  | .holdLimit _ => true
  | .dwellEnd _ => true
  | .encoderChange _ => true
  | .markEdge _ => true
  | .indexPulse _ => true
  | .pressureSample _ => true
  | .airWaitLimit _ => true
  | .fillTimeout _ => true
  | .settleEnd _ => true
  | .measureEnd _ => true
  | .ventLimit _ => true
  | .supplySample _ => true
  | .clockTick => true
  | .permitExpiry => true
  | .estopActivate => true
  | .estopClear => true
  | .guardOpen _ => true
  | .guardClose _ => true
  | .driveFaultActivate _ => true
  | .driveFaultClear _ => true
  | .jobComplete => true
  | .receivedByte _ _ => true

end Sys2Proof
end

