-- ==== Sys2Proof/Decode.lean ====
section
/-! DEFINITION. The command that a word of spec/opcode_table.json's bits spells. No row of the table has bits (98_reader.md: no
row with fixed bits or fields), so no word spells a command. The words and bytes that the ports take are decoded where they
are received: a command window word by Machine/Bench.lean (R179, R196), a link's bytes by Machine/Link.lean (R184, R190). -/

namespace Sys2Proof

/-- The command that the `nbits` low bits of `w` spell by the table: none, since no row of the table has bits. -/
def decodeTableWord (_nbits _w : Nat) : Option Instr := none

end Sys2Proof
end

