-- ==== Sys2Proof/Machine/Flags.lean ====
section
/-! DEFINITION. The attention causes, the ATTENTION flag, the flags word and the attention line (R178, R181). -/

namespace Sys2Proof.Machine

/-- The nine attention causes (R181). -/
inductive AttentionCause where
  | estopChange
  | nestFault (n : Nest)
  | judged (n : Nest)
  | filingBlocked
  | classChanged (n : Nest)
  | pinnedReady
deriving DecidableEq, Repr

/-- The nine causes from the highest priority to the lowest (R181). -/
def AttentionCause.all : List AttentionCause :=
  [.estopChange, .nestFault .n0, .nestFault .n1, .judged .n0, .judged .n1, .filingBlocked,
    .classChanged .n0, .classChanged .n1, .pinnedReady]

/-- The number of a cause, 1 the highest priority (R181). -/
def AttentionCause.number : AttentionCause → Nat
  | .estopChange => 1
  | .nestFault n => 2 + n.number
  | .judged n => 4 + n.number
  | .filingBlocked => 6
  | .classChanged n => 7 + n.number
  | .pinnedReady => 9

/-- Bit k − 1 stands for cause k in the enable mask and in the readout of the pending causes (R182, R194). -/
def AttentionCause.bit (k : AttentionCause) : BitVec 9 := 1#9 <<< (k.number - 1)

/-- Whether a cause is pending (R181). -/
def Bench.isPending (b : Bench) (k : AttentionCause) : Bool := (b.causes &&& k.bit) != 0

/-- Whether a cause is enabled (R181, R182). -/
def Bench.isEnabled (b : Bench) (k : AttentionCause) : Bool := (b.enableMask &&& k.bit) != 0

/-- ATTENTION: set while a cause stands that is both pending and enabled (R181). -/
def Bench.attention (b : Bench) : Bool := (b.causes &&& b.enableMask) != 0

/-- The enabled pending cause of highest priority (R182). -/
def Bench.highestCause (b : Bench) : Option AttentionCause :=
  AttentionCause.all.find? fun k => b.isPending k && b.isEnabled k

/-- COMMAND_HELD: set while a command is held (R179). -/
def Bench.commandHeld (b : Bench) : Bool := b.held.isSome

/-- The flags word: REPLY_READY, DATA_READY, COMMAND_HELD, OVERRUN, PAST_END and ATTENTION in bits 0 to 5 (R178). -/
def Bench.flagsWord (b : Bench) : Word :=
  BitVec.ofNat 16
    (b.replyReady.toNat + 2 * b.dataReady.toNat + 4 * b.commandHeld.toNat + 8 * b.overrun.toNat
      + 16 * b.pastEnd.toNat + 32 * b.attention.toNat)

/-- The attention line: asserted while REPLY_READY or ATTENTION is set (R181). -/
def Bench.attentionLine (b : Bench) : Bool := b.replyReady || b.attention

end Sys2Proof.Machine
end

