-- ==== Sys2Proof/Machine/Ops.lean ====
section
/-! DEFINITION. The named operations over the parts of State: per-nest access, the intake buffer, conditioning arithmetic,
attention causes, fault lists, bench answers, the output buffer and the end of a ZERO. -/

namespace Sys2Proof.Machine

/-! ### Access to the parts of State -/

/-- The value of a nest. -/
def PerNest.get {α : Type} (p : PerNest α) : Nest → α
  | .n0 => p.n0
  | .n1 => p.n1

/-- Replace the value of one nest. -/
def PerNest.set {α : Type} (p : PerNest α) (n : Nest) (a : α) : PerNest α :=
  match n with
  | .n0 => { p with n0 := a }
  | .n1 => { p with n1 := a }

/-- Change the value of one nest. -/
def PerNest.mod {α : Type} (p : PerNest α) (n : Nest) (f : α → α) : PerNest α := p.set n (f (p.get n))

/-- The value of a chamber. -/
def PerChamber.get {α : Type} (p : PerChamber α) : Chamber → α
  | .c0 => p.c0
  | .c1 => p.c1

/-- Replace the value of one chamber. -/
def PerChamber.set {α : Type} (p : PerChamber α) (c : Chamber) (a : α) : PerChamber α :=
  match c with
  | .c0 => { p with c0 := a }
  | .c1 => { p with c1 := a }

/-- The value of a link. -/
def PerLink.get {α : Type} (p : PerLink α) : Link → α
  | .cell => p.cell
  | .plant => p.plant

/-- Replace the value of one link. -/
def PerLink.set {α : Type} (p : PerLink α) (l : Link) (a : α) : PerLink α :=
  match l with
  | .cell => { p with cell := a }
  | .plant => { p with plant := a }

/-- The dossier of a nest. -/
def State.dossier (s : State) (n : Nest) : Dossier := s.dossiers.get n

/-- Change the dossier of a nest. -/
def State.modDossier (s : State) (n : Nest) (f : Dossier → Dossier) : State :=
  { s with dossiers := s.dossiers.mod n f }

/-- The plan-store entry of a variant. -/
def State.planEntry (s : State) (v : Fin 32) : PlanEntry := s.plans[v]

/-- Change the plan-store entry of a variant. -/
def State.modPlan (s : State) (v : Fin 32) (f : PlanEntry → PlanEntry) : State :=
  { s with plans := s.plans.set v (f s.plans[v]) }

/-- The plan that a nest's dossier names, none in VACANT (R47). -/
def State.planOf (s : State) (n : Nest) : Option Plan :=
  (s.dossier n).variant.bind fun v => (s.planEntry v).plan

/-- The temperature monitor of a nest. -/
def State.monitor (s : State) (n : Nest) : Monitor := s.monitors.get n

/-- Change the temperature monitor of a nest. -/
def State.modMonitor (s : State) (n : Nest) (f : Monitor → Monitor) : State :=
  { s with monitors := s.monitors.mod n f }

/-- The temperature class of a nest (R48, R58). -/
def State.classOf (s : State) (n : Nest) : Nat := (s.monitor n).tempClass

/-- The drive channel of a nest. -/
def State.channel (s : State) (n : Nest) : Channel := s.channels.get n

/-- Change the drive channel of a nest. -/
def State.modChannel (s : State) (n : Nest) (f : Channel → Channel) : State :=
  { s with channels := s.channels.mod n f }

/-- The leak circuit of a nest and chamber. -/
def State.circuit (s : State) (n : Nest) (c : Chamber) : Circuit := (s.circuits.get n).get c

/-- Change a leak circuit. -/
def State.modCircuit (s : State) (n : Nest) (c : Chamber) (f : Circuit → Circuit) : State :=
  { s with circuits := s.circuits.mod n fun p => p.set c (f (p.get c)) }

/-- The LEAK stage in progress of a nest. -/
def State.leakStage (s : State) (n : Nest) : Option LeakStage := s.leakStages.get n

/-- Replace the LEAK stage of a nest. -/
def State.setLeakStage (s : State) (n : Nest) (l : Option LeakStage) : State :=
  { s with leakStages := s.leakStages.set n l }

/-- Change the air supply arbiter. -/
def State.modArbiter (s : State) (f : Arbiter → Arbiter) : State := { s with arbiter := f s.arbiter }

/-- A capture slot. -/
def State.slot (s : State) (i : Fin 4) : Slot := s.slots[i]

/-- Change a capture slot. -/
def State.modSlot (s : State) (i : Fin 4) (f : Slot → Slot) : State :=
  { s with slots := s.slots.set i (f s.slots[i]) }

/-- The capture unit of a nest. -/
def State.captureUnit (s : State) (n : Nest) : CaptureUnit := s.units.get n

/-- Replace the capture unit of a nest. -/
def State.setUnit (s : State) (n : Nest) (u : CaptureUnit) : State := { s with units := s.units.set n u }

/-- Replace the most recent conversion of a nest (R124). -/
def State.setVibration (s : State) (n : Nest) (x : Int) : State := { s with vibration := s.vibration.set n x }

/-- Change the order analysis engine. -/
def State.modEngine (s : State) (f : Engine → Engine) : State := { s with engine := f s.engine }

/-- Change the report queue. -/
def State.modReports (s : State) (f : ReportQueue → ReportQueue) : State := { s with reports := f s.reports }

/-- Change the interlock unit. -/
def State.modInterlock (s : State) (f : Interlock → Interlock) : State := { s with interlock := f s.interlock }

/-- Change the bench port. -/
def State.modBench (s : State) (f : Bench → Bench) : State := { s with bench := f s.bench }

/-- A serial link. -/
def State.link (s : State) (l : Link) : LinkState := s.links.get l

/-- Change a serial link. -/
def State.modLink (s : State) (l : Link) (f : LinkState → LinkState) : State :=
  { s with links := s.links.set l (f (s.links.get l)) }

/-! ### The intake buffer (R177, R180) -/

/-- The word at an address of the intake buffer; an unlisted address reads 0 (R44, R177). -/
def WordMem.read : List (Nat × Word) → Nat → Word
  | [], _ => 0
  | (b, w) :: rest, a => if a = b then w else WordMem.read rest a

/-- Store a word in the intake buffer, keeping the canonical form: addresses rising, no word 0 listed. -/
def WordMem.write : List (Nat × Word) → Nat → Word → List (Nat × Word)
  | [], a, w => if w = 0 then [] else [(a, w)]
  | (b, x) :: rest, a, w =>
    if a < b then (if w = 0 then (b, x) :: rest else (a, w) :: (b, x) :: rest)
    else if a = b then (if w = 0 then rest else (a, w) :: rest)
    else (b, x) :: WordMem.write rest a w

/-- The canonical form from address `lo` on: addresses strictly rising and below 1,024, no listed word 0. -/
def WordMem.wfFrom : Nat → List (Nat × Word) → Bool
  | _, [] => true
  | lo, (b, x) :: rest => (lo ≤ b) && (b < 1024) && (x != 0) && WordMem.wfFrom (b + 1) rest

/-- The canonical form of the intake buffer. -/
def WordMem.wf (m : List (Nat × Word)) : Bool := WordMem.wfFrom 0 m

/-! ### Arithmetic -/

/-- `x` clamped to the range `lo` to `hi` (R164, R165). -/
def clamp (lo hi x : Int) : Int := max lo (min hi x)

/-- The set-point moved `step` rpm toward a goal; a move that would pass the goal ends at it (R63, R73, R75, R76). -/
def moveToward (goal step x : Int) : Int :=
  if x < goal then min goal (x + step) else max goal (x - step)

/-- The conditioned torque (R164). -/
def conditionTorque (offset raw : Int) : Int := clamp (-4000) 4000 (raw - offset)

/-- The conditioned pressure (R165). -/
def conditionPressure (offset raw : Int) : Int := clamp (-1000) 200000 (raw - offset)

/-- A raw pressure outside −2,000 to 210,000 Pa is a pressure sensor fault (R165). -/
def pressureFault (raw : Int) : Bool := (raw < -2000) || (210000 < raw)

/-- The mean of a circuit's window: the sum divided by the number of samples, truncated toward zero (R100). -/
def meanOf (window : List Int) : Int := window.sum.tdiv window.length

/-- The integer square root by successive bits: the greatest r with r² ≤ n, for n below 4 ^ bits (00_scope.md, R143, R144). -/
def isqrtBits (n : Nat) : Nat → Nat → Nat
  | 0, r => r
  | b + 1, r => if (r + 2 ^ b) * (r + 2 ^ b) ≤ n then isqrtBits n b (r + 2 ^ b) else isqrtBits n b r

/-- The integer square root of a number below 4²⁴ (R143, R144 stay below 2³⁴). -/
def isqrt (n : Nat) : Nat := isqrtBits n 24 0

/-! ### Results of section records -/

/-- Give a record a result (R4, R97): a FAIL stands; a FAIL replaces any other result; PASS and NOT_MEASURED are given only
to a pending record. -/
def giveResult (old : Option Given) (new : Given) : Option Given :=
  match old with
  | none => some new
  | some g => if g.result ≠ .fail ∧ new.result = .fail then some new else some g

/-- A FAIL with its cause. -/
def failed (cause : Cause) : Given := ⟨.fail, cause⟩

/-- A NOT_MEASURED with its cause. -/
def notMeasured (cause : Cause) : Given := ⟨.notMeasured, cause⟩

/-- A PASS, which carries the cause NONE (R4). -/
def passed : Given := ⟨.pass, .none⟩

/-- Give the run-in record of a nest a result (R97). -/
def State.giveRunIn (s : State) (n : Nest) (g : Given) : State :=
  s.modDossier n fun d => { d with runIn := d.runIn.map fun r => { r with given := giveResult r.given g } }

/-- Change the leak record of one chamber of a nest (R6). -/
def State.modLeakRecord (s : State) (n : Nest) (c : Chamber) (f : LeakRecord → LeakRecord) : State :=
  s.modDossier n fun d => { d with leaks := d.leaks.map fun r => if r.chamber = c then f r else r }

/-- The leak record of one chamber of a nest. -/
def State.leakRecord (s : State) (n : Nest) (c : Chamber) : Option LeakRecord :=
  (s.dossier n).leaks.find? fun r => r.chamber = c

/-- Change the capture record of one number of a nest (R7). -/
def State.modCaptureRecord (s : State) (n : Nest) (number : Nat) (f : CaptureRecord → CaptureRecord) : State :=
  s.modDossier n fun d => { d with captures := d.captures.map fun r => if r.number = number then f r else r }

/-- The capture record of one number of a nest. -/
def State.captureRecord (s : State) (n : Nest) (number : Nat) : Option CaptureRecord :=
  (s.dossier n).captures.find? fun r => r.number = number

/-! ### Attention and fault lists -/

/-- Make an attention cause pending; one that is pending stays pending (R181). -/
def State.raise (s : State) (k : AttentionCause) : State :=
  s.modBench fun b => { b with causes := b.causes ||| k.bit }

/-- The fault list of a nest. -/
def State.faultList (s : State) (n : Nest) : FaultList := s.interlock.faults.get n

/-- Replace the fault list of a nest. -/
def State.setFaultList (s : State) (n : Nest) (l : FaultList) : State :=
  s.modInterlock fun i => { i with faults := i.faults.set n l }

/-- Handle a reported fault cause (R175). -/
def State.reportFault (s : State) (n : Nest) (f : FaultCause) : State :=
  let l := s.faultList n
  if f ∈ l.causes then s
  else if l.causes.length < 4 then
    (s.setFaultList n { l with causes := l.causes ++ [f] }).raise (.nestFault n)
  else if l.more then s
  else (s.setFaultList n { l with more := true }).raise (.nestFault n)

/-! ### Bench answers, the output buffer, ZERO -/

/-- Answer the held command: the reply replaces any reply not yet read, REPLY_READY sets, COMMAND_HELD clears (R179). -/
def Bench.answer (b : Bench) (code : Byte) (reply : ReplyCode) (extra : List Word) : Bench :=
  { b with reply := some ⟨firstWord code reply.code :: extra, 0⟩, replyReady := true, held := none }

/-- Answer a bench command (R179). -/
def State.answer (s : State) (code : Byte) (reply : ReplyCode) (extra : List Word) : State :=
  s.modBench fun b => b.answer code reply extra

/-- Replace the output buffer: its whole content and content length, pointer 0, DATA_READY set, any view ended (R180). -/
def State.fillOutput (s : State) (words : List Word) : State :=
  s.modBench fun b => { b with output := words, pointer := 0, dataReady := true, view := none }

/-- The code of the ZERO command (R196). -/
def zeroCode : Byte := 0x09

/-- End the ZERO in progress with a reply and release the command window (R167). -/
def State.endZero (s : State) (reply : ReplyCode) : State :=
  (s.modInterlock fun i => { i with zero := none }).answer zeroCode reply []

/-- Whether the ZERO in progress has this nest and target (R167). -/
def State.zeroTargets (s : State) (n : Nest) (t : ZeroTarget) : Bool :=
  match s.interlock.zero with
  | some z => (z.nest == n) && (z.target == t)
  | none => false

/-- The nest's drive enable turns on: a ZERO of its torque ends with WRONG_STATE (R167). -/
def State.endZeroOnEnable (s : State) (n : Nest) : State :=
  if s.zeroTargets n .torque then s.endZero .wrongState else s

/-- A circuit leaves IDLE: a ZERO of its chamber ends with WRONG_STATE (R167). -/
def State.endZeroOnLeavingIdle (s : State) (n : Nest) (c : Chamber) : State :=
  if s.zeroTargets n (.chamber c) then s.endZero .wrongState else s

/-- The offset of a ZERO target (R163). -/
def State.setOffset (s : State) (n : Nest) (t : ZeroTarget) (x : Int) : State :=
  match t with
  | .torque => s.modInterlock fun i => { i with torqueOffset := i.torqueOffset.set n x }
  | .chamber c =>
    s.modInterlock fun i => { i with pressureOffset := i.pressureOffset.mod n fun p => p.set c x }

/-- The greatest magnitude an offset may have (R167). -/
def ZeroTarget.limit : ZeroTarget → Int
  | .torque => 2000
  | .chamber _ => 5000

/-- The last sample of a ZERO is in: the sum over the length, truncated toward zero, becomes the offset when it lies within
its range, else the reply is ZERO_RANGE (R167). -/
def State.completeZero (s : State) (z : ZeroInProgress) : State :=
  let x := z.sum.tdiv z.length.samples
  if -z.target.limit ≤ x ∧ x ≤ z.target.limit then (s.setOffset z.nest z.target x).endZero .accepted
  else s.endZero .zeroRange

/-- A raw sample of a target reaches the ZERO in progress, if it is the one that takes it (R167). -/
def State.zeroSample (s : State) (n : Nest) (t : ZeroTarget) (raw : Int) (fault : Bool) : State :=
  match s.interlock.zero with
  | none => s
  | some z =>
    if z.nest = n ∧ z.target = t then
      if fault then s.endZero .zeroRange
      else
        let z' := { z with taken := z.taken + 1, sum := z.sum + raw }
        if z.length.samples ≤ z'.taken then s.completeZero z'
        else s.modInterlock fun i => { i with zero := some z' }
    else s

/-! ### Bytes and words of records (R188) -/

/-- The two bytes of a 16-bit value, high byte first. -/
def bytes16 (w : BitVec 16) : List Byte := [w.extractLsb' 8 8, w.extractLsb' 0 8]

/-- The four bytes of a 32-bit value, high byte first. -/
def bytes32 (w : BitVec 32) : List Byte :=
  [w.extractLsb' 24 8, w.extractLsb' 16 8, w.extractLsb' 8 8, w.extractLsb' 0 8]

/-- A byte field. -/
def natByte (n : Nat) : Byte := BitVec.ofNat 8 n

/-- A two-byte unsigned field. -/
def natBytes16 (n : Nat) : List Byte := bytes16 (BitVec.ofNat 16 n)

/-- A two-byte signed field, two's complement. -/
def intBytes16 (x : Int) : List Byte := bytes16 (BitVec.ofInt 16 x)

/-- A four-byte signed field, two's complement. -/
def intBytes32 (x : Int) : List Byte := bytes32 (BitVec.ofInt 32 x)

/-- A record packed two bytes to a word, byte 2k the high half of word k; an odd length ends with a low half of 0 (R188). -/
def packWords : List Byte → List Word
  | [] => []
  | [h] => [h ++ (0 : Byte)]
  | h :: l :: rest => (h ++ l) :: packWords rest

end Sys2Proof.Machine
end

