-- ==== Sys2Proof/Machine/Analysis.lean ====
section
/-! DEFINITION. The arithmetic of the order analysis engine (R140 to R144): the sine table, the sums of an order line, their
scaling, the amplitude and the overall level. -/

namespace Sys2Proof.Machine

/-- T[0] to T[64] of the sine table (R140). -/
def sineQuarter0 : List Nat :=
  [0, 201, 402, 603, 804, 1005, 1206, 1407, 1608, 1809, 2009, 2210, 2410, 2611, 2811, 3012, 3212,
    3412, 3612, 3811, 4011, 4210, 4410, 4609, 4808, 5007, 5205, 5404, 5602, 5800, 5998, 6195, 6393,
    6590, 6786, 6983, 7179, 7375, 7571, 7767, 7962, 8157, 8351, 8545, 8739, 8933, 9126, 9319, 9512,
    9704, 9896, 10087, 10278, 10469, 10659, 10849, 11039, 11228, 11417, 11605, 11793, 11980, 12167,
    12353, 12539]

/-- T[65] to T[128] of the sine table (R140). -/
def sineQuarter1 : List Nat :=
  [12725, 12910, 13094, 13279, 13462, 13645, 13828, 14010, 14191, 14372, 14553, 14732, 14912, 15090,
    15269, 15446, 15623, 15800, 15976, 16151, 16325, 16499, 16673, 16846, 17018, 17189, 17360, 17530,
    17700, 17869, 18037, 18204, 18371, 18537, 18703, 18868, 19032, 19195, 19357, 19519, 19680, 19841,
    20000, 20159, 20317, 20475, 20631, 20787, 20942, 21096, 21250, 21403, 21554, 21705, 21856, 22005,
    22154, 22301, 22448, 22594, 22739, 22884, 23027, 23170]

/-- T[129] to T[192] of the sine table (R140). -/
def sineQuarter2 : List Nat :=
  [23311, 23452, 23592, 23731, 23870, 24007, 24143, 24279, 24413, 24547, 24680, 24811, 24942, 25072,
    25201, 25329, 25456, 25582, 25708, 25832, 25955, 26077, 26198, 26319, 26438, 26556, 26674, 26790,
    26905, 27019, 27133, 27245, 27356, 27466, 27575, 27683, 27790, 27896, 28001, 28105, 28208, 28310,
    28411, 28510, 28609, 28706, 28803, 28898, 28992, 29085, 29177, 29268, 29358, 29447, 29534, 29621,
    29706, 29791, 29874, 29956, 30037, 30117, 30195, 30273]

/-- T[193] to T[256] of the sine table (R140). -/
def sineQuarter3 : List Nat :=
  [30349, 30424, 30498, 30571, 30643, 30714, 30783, 30852, 30919, 30985, 31050, 31113, 31176, 31237,
    31297, 31356, 31414, 31470, 31526, 31580, 31633, 31685, 31736, 31785, 31833, 31880, 31926, 31971,
    32014, 32057, 32098, 32137, 32176, 32213, 32250, 32285, 32318, 32351, 32382, 32412, 32441, 32469,
    32495, 32521, 32545, 32567, 32589, 32609, 32628, 32646, 32663, 32678, 32692, 32705, 32717, 32728,
    32737, 32745, 32752, 32757, 32761, 32765, 32766, 32767]

/-- T[i] for i from 0 to 256: 32767 × sin(2πi/1024), rounded to the nearest whole number (R140). -/
def sineQuarter (i : Nat) : Nat :=
  if i ≤ 64 then sineQuarter0.getD i 0
  else if i ≤ 128 then sineQuarter1.getD (i - 65) 0
  else if i ≤ 192 then sineQuarter2.getD (i - 129) 0
  else sineQuarter3.getD (i - 193) 0

/-- T[i] for i from 0 to 1023, by the symmetries T[512 − i] = T[i] and T[1024 − i] = −T[i] (R140). -/
def sineTable (i : Nat) : Int :=
  if i ≤ 256 then (sineQuarter i : Int)
  else if i ≤ 512 then (sineQuarter (512 - i) : Int)
  else if i ≤ 768 then -(sineQuarter (i - 512) : Int)
  else -(sineQuarter (1024 - i) : Int)

/-- The table index of sample n for an order line q: φ / 64 for the phase φ = (64 × q × n) mod 65536, that is (q × n) mod
1024 (R141). -/
def phaseIndex (q n : Nat) : Nat := (64 * q * n) % 65536 / 64

/-- The two sums I and Q of a line over the samples from position n on (R141). -/
def lineSums (q : Nat) : Nat → List Int → Int × Int
  | _, [] => (0, 0)
  | n, x :: xs =>
    let i := phaseIndex q n
    let r := lineSums q (n + 1) xs
    (x * sineTable ((i + 256) % 1024) + r.1, x * sineTable i + r.2)

/-- The shift s = 22 + log2 R (R142). -/
def amplitudeShift (revolutions : Nat) : Nat :=
  if revolutions ≤ 4 then 24 else if revolutions ≤ 8 then 25 else if revolutions ≤ 16 then 26 else 27

/-- I′: the sum plus 2^(s − 1), divided by 2^s, rounded down (R142). -/
def scaleSum (shift : Nat) (x : Int) : Int := (x + 2 ^ (shift - 1)) / 2 ^ shift

/-- M: the integer square root of I′² + Q′² (R143). -/
def lineAmplitude (revolutions q : Nat) (samples : List Int) : Nat :=
  let r := lineSums q 0 samples
  let i := scaleSum (amplitudeShift revolutions) r.1
  let p := scaleSum (amplitudeShift revolutions) r.2
  isqrt (i * i + p * p).toNat

/-- The reported amplitude: the lesser of 65535 and M (R143). -/
def reportedAmplitude (m : Nat) : Nat := min 65535 m

/-- The block's amplitude for a line is saturated when M exceeds 65535 (R143). -/
def amplitudeSaturated (m : Nat) : Bool := 65535 < m

/-- The sum of the squares of the samples (R144). -/
def sumSquares : List Int → Nat
  | [] => 0
  | x :: xs => x.natAbs * x.natAbs + sumSquares xs

/-- The overall level of a block of N samples (R144). -/
def overallLevel (n : Nat) (samples : List Int) : Nat := isqrt (sumSquares samples / n)

end Sys2Proof.Machine
end

