-- ==== Sys2Proof/Machine/Capture.lean ====
section
/-! DEFINITION. Capture memory, the capture units and the order analysis engine's queue, merge and judgment (Chapters 7 and 8). -/

namespace Sys2Proof.Machine

/-! ### Slots (R119, R120) -/

/-- The block length N = 256 × R (R39). -/
def blockLength (revolutions : Nat) : Nat := 256 * revolutions

/-- A slot becomes FREE: no pin mark, no descriptor (R120). -/
def Slot.freed (_ : Slot) : Slot := ⟨.free, false, none, []⟩

/-- A slot that holds a completed block leaves READY or ANALYSING: FREE, or PINNED with the pinned-slot-ready cause if its
mark is set (R120). -/
def State.giveBackSlot (s : State) (i : Fin 4) : State :=
  if (s.slot i).pinMark then
    (s.modSlot i fun t => { t with state := .pinned, pinMark := false }).raise .pinnedReady
  else s.modSlot i Slot.freed

/-- The slots in order of number. -/
def allSlots : List (Fin 4) := [0, 1, 2, 3]

/-- The lowest-numbered FREE slot (R127). -/
def State.lowestFree (s : State) : Option (Fin 4) := allSlots.find? fun i => (s.slot i).state == .free

/-- How many slots are PINNED or marked (R119, R121). -/
def State.pinnedOrMarked (s : State) : Nat :=
  allSlots.countP fun i => ((s.slot i).state == .pinned) || (s.slot i).pinMark

/-! ### The analysis engine's queue (R136, R139) -/

/-- The idle engine takes the head of the queue (R136). -/
def State.takeJob (s : State) : State :=
  match s.engine.current, s.engine.queue with
  | none, j :: rest =>
    (s.modEngine fun _ => ⟨rest, some j, false⟩).modSlot j.slot fun t => { t with state := .analysing }
  | _, _ => s

/-- Give back the slots of a list of jobs. -/
def State.giveBackJobs (s : State) : List Job → State
  | [] => s
  | j :: rest => (s.giveBackSlot j.slot).giveBackJobs rest

/-- A stop of a nest: its queued jobs leave the queue and their slots are given back; its job in progress is marked
discarded (R139). -/
def State.dropJobs (s : State) (n : Nest) : State :=
  let dropped := s.engine.queue.filter fun j => j.owner = n
  let s :=
    s.modEngine fun e =>
      { e with
        queue := e.queue.filter fun j => j.owner ≠ n
        discard := e.discard || (e.current.any fun j => j.owner = n) }
  s.giveBackJobs dropped

/-- Whether an analysis job of a nest is queued or running; a discarded job counts for none (R28, R138). -/
def State.hasJob (s : State) (n : Nest) : Bool :=
  (s.engine.queue.any fun j => j.owner = n) ||
    (!s.engine.discard && s.engine.current.any fun j => j.owner = n)

/-! ### Judgment of a capture record (R146, R147) -/

/-- The capture definition of a number in the plan of a nest's dossier (R39, R47). -/
def State.captureDef (s : State) (n : Nest) (number : Nat) : Option CaptureDef :=
  (s.planOf n).bind fun p => p.captures[number]?

/-- Whether a measured window's maximum exceeds its peak limit (R147 check 4). -/
def windowExceeded (windows : List ImpactWindow) (peaks : List Nat) : Bool :=
  (windows.zip peaks).any fun x => x.1.peakLimit < x.2

/-- The result that a capture record due for judgment receives (R147). -/
def CaptureRecord.judgment (r : CaptureRecord) (d : CaptureDef) : Given :=
  if r.overload then failed .overload
  else if r.lines.any fun l => l.exceeded then failed .orderLimit
  else if d.overallLimit < r.overallMax.getD 0 then failed .overallLimit
  else if !r.unmeasured && windowExceeded d.windows r.windows then failed .windowLimit
  else passed

/-- Whether a nest's capture unit holds a capture of a number in progress (R146). -/
def CaptureUnit.holds (u : CaptureUnit) (number : Nat) : Bool :=
  match u with
  | .idle => false
  | .waitingSlot c => c.number == number
  | .sampling c _ => c.number == number

/-- A capture record is due for judgment (R146). -/
def CaptureRecord.due (r : CaptureRecord) (u : CaptureUnit) : Bool :=
  r.given.isNone && (1 ≤ r.blocksAnalysed) && (r.blocksAnalysed == r.blocksRequested) && !u.holds r.number

/-- Judge the capture record of a number if it is due (R146, R147). -/
def State.judgeCapture (s : State) (n : Nest) (number : Nat) : State :=
  match s.captureDef n number with
  | none => s
  | some d =>
    s.modCaptureRecord n number fun r =>
      if r.due (s.captureUnit n) then { r with given := giveResult r.given (r.judgment d) } else r

/-! ### The end of a capture (R130, R132) -/

/-- The events that end a capture (R130). -/
inductive CaptureEnd where
  | blocksDone
  | restartLimit
  | holdLimit
  | withdrawn
  | stopped
deriving DecidableEq, Repr

/-- The cause that a capture which completed no block gives its record (R132). -/
def CaptureEnd.cause : CaptureEnd → Option Cause
  | .blocksDone => none
  | .restartLimit => some .unsteady
  | .holdLimit => some .noSlot
  | .withdrawn => some .skipped
  | .stopped => none

/-- Tell the profile sequencer that its step's capture has ended (R84). -/
def Activity.captureEnded : Activity → Activity
  | .profiling p => .profiling { p with stepCapture := if p.stepCapture = .active then .ended else p.stepCapture }
  | a => a

/-- A capture that is given no result by its blocks gives its record the result of R132. -/
def CaptureRecord.endWithoutBlock (r : CaptureRecord) (why : CaptureEnd) : CaptureRecord :=
  match why.cause with
  | some c => if r.given.isNone && r.blocksRequested == 0 then { r with given := some (notMeasured c) } else r
  | none => r

/-- The end of a capture of a number, its block in progress already disposed of: the unit becomes IDLE, the sequencer is told
(except at a stop), the record gets the result of R132 and the judgment check of R146 (not at a stop). -/
def State.finishCapture (s : State) (n : Nest) (number : Nat) (why : CaptureEnd) : State :=
  let s := s.setUnit n .idle
  if why = .stopped then s
  else
    ((s.modChannel n fun ch => { ch with activity := ch.activity.captureEnded }).modCaptureRecord n number fun r =>
      r.endWithoutBlock why).judgeCapture n number

/-- End the capture in progress of a nest, if any; a block in progress is discarded and its slot becomes FREE (R120, R130). -/
def State.endCapture (s : State) (n : Nest) (why : CaptureEnd) : State :=
  match s.captureUnit n with
  | .idle => s
  | .waitingSlot c => s.finishCapture n c.number why
  | .sampling c b => (s.modSlot b.slot Slot.freed).finishCapture n c.number why

/-! ### Taking a slot and sampling (R126 to R129, R133) -/

/-- A unit that waits for a slot looks for one: it takes the lowest FREE slot (R127). -/
def State.lookForSlot (s : State) (n : Nest) : State :=
  match s.captureUnit n, s.lowestFree with
  | .waitingSlot c, some i =>
    (s.modSlot i fun _ => ⟨.filling, false, some ⟨n, c.number, c.revolutions, c.side⟩, []⟩).setUnit n
      (.sampling c ⟨i, 0, c.windows.map fun _ => 0⟩)
  | _, _ => s

/-- Take a capture request: the fields of R125 are set, the record receives the load side and the set-point sent, a reference
that is ABSENT marks the record windows-unmeasured, and the unit looks for a slot (R126, R134). -/
def State.requestCapture (s : State) (n : Nest) (number : Nat) (side : LoadSide) (setPoint : Int) : State :=
  match s.captureDef n number with
  | none => s
  | some d =>
    let valid := (s.channel n).reference.isSome
    let s :=
      s.modCaptureRecord n number fun r =>
        { r with side := some side, setPoint := some setPoint, unmeasured := r.unmeasured || !valid }
    (s.setUnit n (.waitingSlot ⟨number, d.revolutions, d.blocks, d.windows, side, none, 0, 0, valid⟩)).lookForSlot n

/-- The record's fields at the completion of a block: blocks requested rises, a clipped count above 16 marks OVERLOAD, and a
result other than FAIL becomes pending again (R128, R131, R132, R146). -/
def CaptureRecord.blockCompleted (r : CaptureRecord) (clipped : Nat) : CaptureRecord :=
  { r with
    blocksRequested := r.blocksRequested + 1
    overload := r.overload || (16 < clipped)
    given := if r.given.any fun g => g.result = .fail then r.given else none }

/-- The completion of a block: the slot becomes READY and joins the job queue, the record is raised, the capture ends with its
K-th block or looks for a further slot, and the idle engine takes the head (R128, R130, R136). -/
def State.completeBlock (s : State) (n : Nest) (c : Capture) (b : BlockInProgress) : State :=
  let job : Job := ⟨b.slot, n, c.number, c.revolutions, c.side, if c.windowsValid then some b.peaks else none⟩
  let s :=
    ((s.modSlot b.slot fun t => { t with state := .ready }).modEngine fun e =>
      { e with queue := e.queue ++ [job] }).modCaptureRecord n c.number fun r => r.blockCompleted b.clipped
  let s := s.setUnit n (.waitingSlot { c with blocksDone := c.blocksDone + 1 })
  (if c.blocks ≤ c.blocksDone + 1 then s.endCapture n .blocksDone else s.lookForSlot n).takeJob

/-- A clipped sample is at either end of the ADC's span (R131). -/
def isClipped (x : Int) : Bool := (x == -32768) || (x == 32767)

/-- Whether an angle lies inside an impact window, which may wrap through zero (R133). -/
def ImpactWindow.holdsAngle (w : ImpactWindow) (angle : Nat) : Bool :=
  if w.start < w.stop then (w.start ≤ angle) && (angle < w.stop) else (w.start ≤ angle) || (angle < w.stop)

/-- The window peaks with a sample applied (R133). -/
def applyPeaks (windows : List ImpactWindow) (peaks : List Nat) (angle : Nat) (x : Int) : List Nat :=
  (windows.zip peaks).map fun y => if y.1.holdsAngle angle then max y.2 x.natAbs else y.2

/-- A sample is written into the FILLING slot of the block in progress (R128). -/
def State.writeSample (s : State) (n : Nest) (c : Capture) (b : BlockInProgress) : State :=
  let x := s.vibration.get n
  let angle := (s.channel n).angle.toNat
  let b' : BlockInProgress :=
    { b with
      clipped := if isClipped x then b.clipped + 1 else b.clipped
      peaks := if c.windowsValid then applyPeaks c.windows b.peaks angle x else b.peaks }
  let s := s.modSlot b.slot fun t => { t with samples := t.samples ++ [x] }
  if blockLength c.revolutions ≤ (s.slot b.slot).samples.length then s.completeBlock n c b'
  else s.setUnit n (.sampling c b')

/-- A sample point against the capture's direction: a block that holds a sample is discarded and counts a restart; the third
restart ends the capture (R129). -/
def State.restartBlock (s : State) (n : Nest) (c : Capture) (b : BlockInProgress) : State :=
  if (s.slot b.slot).samples = [] then s
  else
    let s := s.modCaptureRecord n c.number fun r => { r with restarts := r.restarts + 1 }
    let c' := { c with restarts := c.restarts + 1 }
    if 3 ≤ c'.restarts then (s.setUnit n (.sampling c' b)).endCapture n .restartLimit
    else
      (s.modSlot b.slot fun t => { t with samples := [] }).setUnit n
        (.sampling c' ⟨b.slot, 0, c.windows.map fun _ => 0⟩)

/-- A sample point of a nest in a direction (R128, R129). -/
def State.samplePoint (s : State) (n : Nest) (d : Direction) : State :=
  match s.captureUnit n with
  | .sampling c b =>
    match c.direction with
    | none => s.writeSample n { c with direction := some d } b
    | some d' => if d = d' then s.writeSample n c b else s.restartBlock n c b
  | _ => s

/-- The drive channel tells the unit of the loss of the reference: a capture in progress has its windows no longer valid, its
peaks 0 and its record marked windows-unmeasured (R134). -/
def State.referenceLost (s : State) (n : Nest) : State :=
  match s.captureUnit n with
  | .idle => s
  | .waitingSlot c =>
    (s.setUnit n (.waitingSlot { c with windowsValid := false })).modCaptureRecord n c.number fun r =>
      { r with unmeasured := true }
  | .sampling c b =>
    (s.setUnit n (.sampling { c with windowsValid := false } { b with peaks := b.peaks.map fun _ => 0 })).modCaptureRecord
      n c.number fun r => { r with unmeasured := true }

/-! ### Merging a job's results (R145) -/

/-- The limit of an order line on a load side (R39, R145). -/
def OrderLine.limit (l : OrderLine) : LoadSide → Nat
  | .drive => l.driveLimit
  | .coast => l.coastLimit

/-- A line entry with a block's M merged (R145). -/
def LineEntry.merge (e : LineEntry) (limit m : Nat) : LineEntry :=
  { e with
    maximum := max e.maximum (reportedAmplitude m)
    saturated := e.saturated || amplitudeSaturated m
    exceeded := e.exceeded || (limit < m) }

/-- The line entries of a record with a block merged, line by line of the definition (R145). -/
def mergeLines (revolutions : Nat) (side : LoadSide) (samples : List Int) :
    List OrderLine → List LineEntry → List LineEntry
  | l :: ls, e :: es =>
    e.merge (l.limit side) (lineAmplitude revolutions l.q samples) :: mergeLines revolutions side samples ls es
  | _, es => es

/-- A capture record with a job's figures merged (R145). -/
def CaptureRecord.mergeBlock (r : CaptureRecord) (d : CaptureDef) (j : Job) (samples : List Int) : CaptureRecord :=
  { r with
    lines := mergeLines j.revolutions j.side samples d.lines r.lines
    overallMax := some (max (r.overallMax.getD 0) (overallLevel (blockLength j.revolutions) samples))
    windows :=
      match j.peaks with
      | some peaks => if r.unmeasured then r.windows else (r.windows.zip peaks).map fun x => max x.1 x.2
      | none => r.windows
    blocksAnalysed := r.blocksAnalysed + 1 }

/-- Merge the results of a job into its capture record, and apply the judgment check (R138 step 1, R145, R146). -/
def State.mergeJob (s : State) (j : Job) : State :=
  match s.captureDef j.owner j.number with
  | none => s
  | some d =>
    (s.modCaptureRecord j.owner j.number fun r => r.mergeBlock d j (s.slot j.slot).samples).judgeCapture j.owner j.number

/-! ### Pins and views (R121 to R123) -/

/-- PIN (R121). -/
def pinCommand (slot : Byte) (s : State) : State × ReplyCode × List Word :=
  match slotOf slot with
  | none => (s, .ignored, [])
  | some i =>
    match (s.slot i).state with
    | .free => (s, .wrongState, [])
    | .pinned => (s, .wrongState, [])
    | _ =>
      if (s.slot i).pinMark then (s, .accepted, [])
      else if s.pinnedOrMarked < 2 then (s.modSlot i fun t => { t with pinMark := true }, .accepted, [])
      else (s, .pinLimit, [])

/-- UNPIN (R122). -/
def unpinCommand (slot : Byte) (s : State) : State × ReplyCode × List Word :=
  match slotOf slot with
  | none => (s, .ignored, [])
  | some i =>
    match (s.slot i).state with
    | .pinned =>
      ((s.modSlot i Slot.freed).modBench fun b => { b with view := if b.view = some i then none else b.view },
        .accepted, [])
    | .free => (s, .wrongState, [])
    | _ =>
      if (s.slot i).pinMark then (s.modSlot i fun t => { t with pinMark := false }, .accepted, [])
      else (s, .wrongState, [])

/-- VIEW_SLOT (R123). -/
def viewSlotCommand (slot : Byte) (s : State) : State × ReplyCode × List Word :=
  match slotOf slot with
  | none => (s, .ignored, [])
  | some i =>
    if (s.slot i).state = .pinned then
      (s.modBench fun b => { b with view := some i, pointer := 0, dataReady := true }, .accepted, [])
    else (s, .wrongState, [])

end Sys2Proof.Machine
end

