-- ==== Sys2Proof/Machine/Leak.lean ====
section
/-! DEFINITION. The leak circuits and the air supply arbiter (Chapter 6): requests and grants, the rule of each circuit state
at a pressure sample, the sensor fault rule and the abort rule. -/

namespace Sys2Proof.Machine

/-- Whether a set holds a chamber. -/
def ChamberSet.has (m : ChamberSet) : Chamber → Bool
  | .c0 => m.c0
  | .c1 => m.c1

/-- The chambers in both sets (R106). -/
def ChamberSet.inter (a b : ChamberSet) : ChamberSet := ⟨a.c0 && b.c0, a.c1 && b.c1⟩

/-- Whether a set is empty. -/
def ChamberSet.isEmpty (m : ChamberSet) : Bool := !m.c0 && !m.c1

/-! ### Valves (R99, R101): computed from the states -/

/-- The fill valve of a circuit is open in FILLING (R99). -/
def Circuit.fillOpen (k : Circuit) : Bool := k.state == .filling

/-- The vent valve of a circuit is open in IDLE, WAITING_AIR and VENTING (R99). -/
def Circuit.ventOpen (k : Circuit) : Bool :=
  (k.state == .idle) || (k.state == .waitingAir) || (k.state == .venting)

/-- The supply valve is open while the air grant is held (R101). -/
def Arbiter.supplyOpen (a : Arbiter) : Bool := a.holder.isSome

/-! ### States of a circuit -/

/-- Enter a state: the state count is set to 0 (R98). -/
def Circuit.enter (k : Circuit) (st : CircuitState) : Circuit := { k with state := st, count := 0 }

/-- Enter IDLE: the leak set in use, P_start held and class at measure start become absent and vent failure reported becomes
no (R109, R114). -/
def Circuit.enterIdle (k : Circuit) : Circuit :=
  { k with
    state := .idle, count := 0, leakSet := none, pStart := none, classAtStart := none, ventReported := false }

/-- Every circuit of a nest is IDLE (R15, R27, R108). -/
def State.circuitsIdle (s : State) (n : Nest) : Bool :=
  ((s.circuit n .c0).state == .idle) && ((s.circuit n .c1).state == .idle)

/-- The leak set that a circuit uses, from the plan of its nest's dossier (R38, R98). -/
def State.leakSetOf (s : State) (n : Nest) (c : Chamber) : Option LeakSet :=
  (s.circuit n c).leakSet.bind fun ix =>
    (s.planOf n).map fun p =>
      match ix with
      | .set0 => p.leakSet0
      | .set1 => p.leakSet1

/-- Give a chamber's leak record its result; the circuit's result given becomes yes (R108). -/
def State.giveLeak (s : State) (n : Nest) (c : Chamber) (g : Given) : State :=
  (s.modLeakRecord n c fun r => { r with given := giveResult r.given g }).modCircuit n c fun k =>
    { k with resultGiven := true }

/-- Whether a chamber's leak record is pending. -/
def State.leakPending (s : State) (n : Nest) (c : Chamber) : Bool :=
  match s.leakRecord n c with
  | some r => r.given.isNone
  | none => false

/-! ### The arbiter (R101 to R105, R109) -/

/-- A chamber requests air: its circuit enters WAITING_AIR with the leak set and joins the end of the waiting list (R102,
R109). A ZERO of the chamber ends with WRONG_STATE (R167). -/
def State.requestAir (s : State) (n : Nest) (c : Chamber) (set : LeakSetIx) : State :=
  ((s.modCircuit n c fun k => { k.enter .waitingAir with leakSet := some set }).modArbiter fun a =>
    { a with waiting := a.waiting ++ [⟨n, c⟩] }).endZeroOnLeavingIdle n c

/-- A circuit leaves WAITING_AIR or FILLING: it leaves the list, or releases the grant (R102, R105). -/
def State.leaveAir (s : State) (n : Nest) (c : Chamber) : State :=
  s.modArbiter fun a =>
    { a with
      holder := if a.holder = some ⟨n, c⟩ then none else a.holder
      waiting := a.waiting.filter fun x => x ≠ ⟨n, c⟩ }

/-- Give the grant: when it is free, the supply is not low and the list is not empty, the head leaves the list and enters
FILLING (R103, R110). -/
def State.arbitrate (s : State) : State :=
  match s.arbiter.holder, s.arbiter.supplyLow, s.arbiter.waiting with
  | none, false, x :: rest =>
    (s.modArbiter fun a => { a with holder := some x, waiting := rest }).modCircuit x.nest x.chamber fun k =>
      k.enter .filling
  | _, _, _ => s

/-! ### The state rules at a pressure sample (R109 to R114) -/

/-- WAITING_AIR: at sample 3,000 the circuit gives up with NO_AIR and enters IDLE (R109). -/
def State.waitRule (s : State) (n : Nest) (c : Chamber) : State :=
  if 3000 ≤ (s.circuit n c).count then
    ((s.leaveAir n c).giveLeak n c (notMeasured .noAir)).modCircuit n c Circuit.enterIdle
  else s

/-- FILLING: the target completes the fill, else the fill timeout gives GROSS_LEAK and vents (R110). -/
def State.fillRule (s : State) (n : Nest) (c : Chamber) (p : LeakSet) (x : Int) : State :=
  if (p.fillTarget : Int) ≤ x then
    (s.leaveAir n c).modCircuit n c fun k => k.enter .settling
  else if 10 * p.fillTimeout ≤ (s.circuit n c).count then
    ((s.leaveAir n c).giveLeak n c (failed .grossLeak)).modCircuit n c fun k => k.enter .venting
  else s

/-- The settling floor: 9 / 10 of the fill target, truncated (R111). -/
def LeakSet.floor (p : LeakSet) : Int := (p.fillTarget * 9 / 10 : Nat)

/-- SETTLING: below the floor gives GROSS_LEAK; the end of settling begins the measurement in classes 1 to 6 and gives
TEMP_HOLD in classes 0 and 7 (R111). -/
def State.settleRule (s : State) (n : Nest) (c : Chamber) (p : LeakSet) (x : Int) : State :=
  if x < p.floor then
    (s.giveLeak n c (failed .grossLeak)).modCircuit n c fun k => k.enter .venting
  else if 10 * p.settleTime ≤ (s.circuit n c).count then
    if s.classOf n = 0 ∨ s.classOf n = 7 then
      (s.giveLeak n c (notMeasured .tempHold)).modCircuit n c fun k => k.enter .venting
    else
      let mean := meanOf (s.circuit n c).window
      (s.modLeakRecord n c fun r => { r with classAtStart := some (s.classOf n), pStart := some mean }).modCircuit
        n c fun k =>
          { k.enter .measuring with pStart := some mean, classAtStart := some (s.classOf n) }
  else s

/-- The compensation of a class, 1 to 6 (R38). -/
def LeakSet.compensationOf (p : LeakSet) (cls : Nat) : Int := p.compensation.getD (cls - 1) 0

/-- The compensated decay: ΔP less the compensation, and 0 if that is negative (R112). -/
def LeakSet.compensated (p : LeakSet) (cls : Nat) (deltaP : Int) : Int := max 0 (deltaP - p.compensationOf cls)

/-- The state a circuit goes to after measuring (R112). -/
def LeakSet.afterState (p : LeakSet) : CircuitState :=
  match p.afterMeasure with
  | .autoVent => .venting
  | .hold => .holding

/-- MEASURING: at the last sample a moved class gives TEMP_MOVED; a kept class gives ΔP and ΔPc and PASS or DECAY (R112). -/
def State.measureRule (s : State) (n : Nest) (c : Chamber) (p : LeakSet) : State :=
  if 10 * p.measureTime ≤ (s.circuit n c).count then
    let k := s.circuit n c
    let moved := k.classAtStart ≠ some (s.classOf n)
    let deltaP := k.pStart.getD 0 - meanOf k.window
    let deltaPc := p.compensated (s.classOf n) deltaP
    let given :=
      if moved then s.giveLeak n c (notMeasured .tempMoved)
      else
        (s.modLeakRecord n c fun r => { r with deltaP := some deltaP, deltaPc := some deltaPc }).giveLeak n c
          (if deltaPc ≤ p.decayLimit then passed else failed .decay)
    given.modCircuit n c fun k => k.enter p.afterState
  else s

/-- The vent limit: at sample 1,000 of VENTING, VENT_FAIL is reported once (R114). -/
def State.ventLimitRule (s : State) (n : Nest) (c : Chamber) : State :=
  if 1000 ≤ (s.circuit n c).count ∧ (s.circuit n c).ventReported = false then
    (s.modCircuit n c fun k => { k with ventReported := true }).reportFault n .ventFail
  else s

/-- VENTING: below 500 Pa the circuit enters IDLE, else the vent limit applies (R114). -/
def State.ventRule (s : State) (n : Nest) (c : Chamber) (x : Int) : State :=
  if x < 500 then s.modCircuit n c Circuit.enterIdle else s.ventLimitRule n c

/-- The rule of the circuit's state at a sample that is not a sensor fault (R100 step 4). -/
def State.stateRule (s : State) (n : Nest) (c : Chamber) (x : Int) : State :=
  match (s.circuit n c).state, s.leakSetOf n c with
  | .idle, _ => s
  | .waitingAir, _ => s.waitRule n c
  | .filling, some p => s.fillRule n c p x
  | .settling, some p => s.settleRule n c p x
  | .measuring, some p => s.measureRule n c p
  | .holding, _ => s
  | .venting, _ => s.ventRule n c x
  | _, none => s

/-- The pressure sensor fault rule (R117). -/
def State.sensorRule (s : State) (n : Nest) (c : Chamber) : State :=
  let vent (s : State) := s.modCircuit n c fun k => k.enter .venting
  let give (s : State) := if s.leakPending n c then s.giveLeak n c (notMeasured .sensor) else s
  match (s.circuit n c).state with
  | .idle => s
  | .waitingAir => vent (give (s.leaveAir n c))
  | .filling => vent (give (s.leaveAir n c))
  | .settling => vent (give s)
  | .measuring => vent (give s)
  | .holding => vent s
  | .venting => s.ventLimitRule n c

/-- The mean window with a new sample: at most the 16 most recent (R100). -/
def pushWindow (window : List Int) (x : Int) : List Int :=
  (if 16 ≤ window.length then window.drop 1 else window) ++ [x]

/-- Steps 1 and 2 of a pressure sample: the sample enters the mean window and the state count rises, up to 60,000 (R98,
R100). -/
def Circuit.takeSample (k : Circuit) (x : Int) (fault : Bool) : Circuit :=
  { k with
    window := pushWindow k.window x
    count := min 60000 (k.count + 1)
    latest := x
    latestFault := fault }

/-- A conditioned sample reaches its circuit: steps 1 to 4 of R100. -/
def State.circuitSample (s : State) (n : Nest) (c : Chamber) (x : Int) (fault : Bool) : State :=
  let s := s.modCircuit n c fun k => k.takeSample x fault
  if fault then s.sensorRule n c else s.stateRule n c x

/-! ### The abort rule (R115) -/

/-- The abort rule on one circuit (R115). -/
def State.abortCircuit (s : State) (n : Nest) (c : Chamber) : State :=
  let give (s : State) := if s.leakPending n c then s.giveLeak n c (notMeasured .aborted) else s
  let vent (s : State) := s.modCircuit n c fun k => k.enter .venting
  match (s.circuit n c).state with
  | .idle => s
  | .waitingAir => (give (s.leaveAir n c)).modCircuit n c Circuit.enterIdle
  | .filling => vent (give (s.leaveAir n c))
  | .settling => vent (give s)
  | .measuring => vent (give s)
  | .holding => vent s
  | .venting => s

/-- The abort rule on both circuits of a nest; its LEAK stage becomes absent (R115). -/
def State.abortLeak (s : State) (n : Nest) : State :=
  ((s.abortCircuit n .c0).abortCircuit n .c1).setLeakStage n none

/-! ### The LEAK stage (R106 to R108) -/

/-- Begin a LEAK stage: the measured chambers are the mask's chambers in the leak scope; result given is set to no for each;
the first requests air, the second is to request next (R106). -/
def State.beginLeak (s : State) (n : Nest) (mask : ChamberSet) (set : LeakSetIx) : State :=
  let m := mask.inter (s.dossier n).leakScope
  let clear (s : State) (c : Chamber) :=
    if m.has c then s.modCircuit n c fun k => { k with resultGiven := false } else s
  let s := clear (clear s .c0) .c1
  let next := if m.c0 && m.c1 then some Chamber.c1 else none
  let s := s.setLeakStage n (some ⟨m, set, next⟩)
  (if m.c0 then s.requestAir n .c0 set else s.requestAir n .c1 set).arbitrate

/-- The second measured chamber requests air once the first has left WAITING_AIR and FILLING (R107). -/
def State.requestNext (s : State) (n : Nest) : State :=
  match s.leakStage n with
  | some ⟨m, set, some c⟩ =>
    let first := (s.circuit n c.other).state
    if first = .waitingAir ∨ first = .filling then s
    else (s.setLeakStage n (some ⟨m, set, none⟩)).requestAir n c set
  | _ => s

/-- Whether every measured chamber of the nest's LEAK stage has its result (R108). -/
def State.leakResultsDone (s : State) (n : Nest) : Bool :=
  match s.leakStage n with
  | some l =>
    (!l.measured.c0 || (s.circuit n .c0).resultGiven) && (!l.measured.c1 || (s.circuit n .c1).resultGiven)
  | none => false

/-- Send a circuit in HOLDING to VENTING (R108, R113). -/
def State.ventHolding (s : State) (n : Nest) (c : Chamber) : State :=
  if (s.circuit n c).state = .holding then s.modCircuit n c fun k => k.enter .venting else s

end Sys2Proof.Machine
end

