-- ==== Sys2Proof/Machine/Plan.lean ====
section
/-! DEFINITION. The plan store (Chapter 2): the plan image and its layout (R40, R192), its validation with the lowest offence
(R41 to R43), and the plan commands (R44 to R46). -/

namespace Sys2Proof.Machine

/-! ### Encoding: the image of a plan (R192) -/

/-- A two-word field, its high 16 bits first (R192). -/
def words32 (n : Nat) : List Word := [BitVec.ofNat 16 (n / 65536), BitVec.ofNat 16 n]

/-- A one-word unsigned field. -/
def natWord (n : Nat) : Word := BitVec.ofNat 16 n

/-- A one-word signed field. -/
def intWord (x : Int) : Word := BitVec.ofInt 16 x

/-- A flag is carried as 0 or 1 (R192). -/
def flagWord (b : Bool) : Word := if b then 1 else 0

/-- The chamber mask of a LEAK stage: 1 for chamber 0, 2 for chamber 1 (R36). -/
def ChamberSet.mask (m : ChamberSet) : Nat := m.c0.toNat + 2 * m.c1.toNat

/-- The word of a stage entry: the kind in bits 11 to 8, the leak set in bit 4, the chamber mask in bits 1 and 0 (R192). -/
def Stage.word : Stage → Word
  | .leak m .set0 => natWord (0x100 + m.mask)
  | .leak m .set1 => natWord (0x110 + m.mask)
  | .engage => 0x200
  | .reference => 0x300
  | .profile => 0x400

/-- The capture number word: 0x00FF for none (R192). -/
def captureWord : Option Nat → Word
  | none => 0x00FF
  | some k => natWord k

/-- The word of a load side (R192). -/
def LoadSide.word : LoadSide → Word
  | .drive => 0
  | .coast => 1

/-- The six words of a step (R192). -/
def Step.words (t : Step) : List Word :=
  [intWord t.target, natWord t.rampUpdates, natWord t.dwellUpdates, natWord t.torqueLimit, captureWord t.capture,
    t.side.word]

/-- The word of an after-measure (R192). -/
def AfterMeasure.word : AfterMeasure → Word
  | .autoVent => 0
  | .hold => 1

/-- The thirteen words of a leak set (R192). -/
def LeakSet.words (l : LeakSet) : List Word :=
  words32 l.fillTarget ++
    [natWord l.fillTimeout, natWord l.settleTime, natWord l.measureTime, natWord l.decayLimit] ++
    l.compensation.map intWord ++ [l.afterMeasure.word]

/-- The three words of an order line (R192). -/
def OrderLine.words (l : OrderLine) : List Word := [natWord l.q, natWord l.driveLimit, natWord l.coastLimit]

/-- The three words of an impact window (R192). -/
def ImpactWindow.words (w : ImpactWindow) : List Word := [natWord w.start, natWord w.stop, natWord w.peakLimit]

/-- The words of a capture definition: fixed fields, order lines, impact windows (R40, R192). -/
def CaptureDef.words (d : CaptureDef) : List Word :=
  [natWord d.revolutions, natWord d.blocks, natWord d.overallLimit, natWord d.lines.length, natWord d.windows.length] ++
    d.lines.flatMap OrderLine.words ++ d.windows.flatMap ImpactWindow.words

/-- Character i of the label area; a position beyond the label holds 0 (R41). -/
def labelChar (label : List Byte) (i : Nat) : Byte := label.getD i 0

/-- The six words of the label area, two characters a word, the first in the high half (R192). -/
def labelWords (label : List Byte) : List Word :=
  (List.range 6).map fun k => labelChar label (2 * k) ++ labelChar label (2 * k + 1)

/-- The word of a reference mode (R192). -/
def RefMode.word : RefMode → Word
  | .a => 0
  | .b => 1

/-- The eighteen words of the header (R192). -/
def Plan.headerWords (p : Plan) : List Word :=
  natWord p.label.length :: labelWords p.label ++
    [flagWord p.autoStart, flagWord p.autoFile, natWord p.stages.length, natWord p.steps.length, natWord p.cycles,
      natWord p.captures.length, natWord p.attemptsMask, natWord p.jamTorque, natWord p.searchSpeed, p.refMode.word,
      natWord p.indexCount]

/-- The image of a plan: the five parts in the order of R40. -/
def Plan.image (p : Plan) : List Word :=
  p.headerWords ++ p.stages.map Stage.word ++ p.steps.flatMap Step.words ++ p.leakSet0.words ++ p.leakSet1.words ++
    p.captures.flatMap CaptureDef.words

/-! ### Decoding: the plan that an image holds (R192) -/

/-- The word at an offset of an image, as a number; 0 past the end. -/
def natAt (img : List Word) (o : Nat) : Nat := (img.getD o 0).toNat

/-- The word at an offset of an image, as a signed number. -/
def intAt (img : List Word) (o : Nat) : Int := (img.getD o 0).toInt

/-- The two-word field at an offset. -/
def nat32At (img : List Word) (o : Nat) : Nat := natAt img o * 65536 + natAt img (o + 1)

/-- The stage that a word codes; none for a code, a mask or an unassigned bit that R36 and R41 do not allow. -/
def stageOf (w : Word) : Option Stage :=
  let m : ChamberSet := ⟨w.getLsbD 0, w.getLsbD 1⟩
  let stage :=
    match (w.extractLsb' 8 4).toNat with
    | 1 => some (Stage.leak m (if w.getLsbD 4 then .set1 else .set0))
    | 2 => some .engage
    | 3 => some .reference
    | 4 => some .profile
    | _ => none
  match stage with
  | some s => if s.word = w ∧ s ≠ .leak ⟨false, false⟩ .set0 ∧ s ≠ .leak ⟨false, false⟩ .set1 then some s else none
  | none => none

/-- The step at an offset. -/
def stepAt (img : List Word) (o : Nat) : Step where
  target := intAt img o
  rampUpdates := natAt img (o + 1)
  dwellUpdates := natAt img (o + 2)
  torqueLimit := natAt img (o + 3)
  capture := if natAt img (o + 4) = 0xFF then none else some (natAt img (o + 4))
  side := if natAt img (o + 5) = 0 then .drive else .coast

/-- The leak set at an offset. -/
def leakSetAt (img : List Word) (o : Nat) : LeakSet where
  fillTarget := nat32At img o
  fillTimeout := natAt img (o + 2)
  settleTime := natAt img (o + 3)
  measureTime := natAt img (o + 4)
  decayLimit := natAt img (o + 5)
  compensation := (List.range 6).map fun k => intAt img (o + 6 + k)
  afterMeasure := if natAt img (o + 12) = 0 then .autoVent else .hold

/-- The order line at an offset. -/
def lineAt (img : List Word) (o : Nat) : OrderLine := ⟨natAt img o, natAt img (o + 1), natAt img (o + 2)⟩

/-- The impact window at an offset. -/
def windowAt (img : List Word) (o : Nat) : ImpactWindow := ⟨natAt img o, natAt img (o + 1), natAt img (o + 2)⟩

/-- The capture definition at an offset. -/
def captureAt (img : List Word) (o : Nat) : CaptureDef where
  revolutions := natAt img o
  blocks := natAt img (o + 1)
  overallLimit := natAt img (o + 2)
  lines := (List.range (natAt img (o + 3))).map fun k => lineAt img (o + 5 + 3 * k)
  windows := (List.range (natAt img (o + 4))).map fun k => windowAt img (o + 5 + 3 * natAt img (o + 3) + 3 * k)

/-- The size in words of the capture definition at an offset (R192). -/
def captureSizeAt (img : List Word) (o : Nat) : Nat := 5 + 3 * (natAt img (o + 3) + natAt img (o + 4))

/-- `k` capture definitions from an offset on. -/
def capturesAt (img : List Word) : Nat → Nat → List CaptureDef
  | 0, _ => []
  | k + 1, o => captureAt img o :: capturesAt img k (o + captureSizeAt img o)

/-- Character i of the label area of an image (R192). -/
def labelByteAt (img : List Word) (i : Nat) : Byte :=
  let w := img.getD (1 + i / 2) 0
  if i % 2 = 0 then w.extractLsb' 8 8 else w.extractLsb' 0 8

/-- The offset of the first stage entry (R192). -/
def stagesOffset : Nat := 18

/-- The offset of the first step, for a stage count (R192). -/
def stepsOffset (stages : Nat) : Nat := 18 + stages

/-- The offset of leak set 0, for the counts of stages and steps (R192). -/
def leakOffset (stages steps : Nat) : Nat := 18 + stages + 6 * steps

/-- The offset of the first capture definition (R192). -/
def capturesOffset (stages steps : Nat) : Nat := 18 + stages + 6 * steps + 26

/-- The plan that an image without offence holds (R35 to R39, R192). -/
def planOfImage (img : List Word) : Plan :=
  let s := natAt img 9
  let t := natAt img 10
  { label := (List.range (natAt img 0)).map (labelByteAt img)
    autoStart := natAt img 7 = 1
    autoFile := natAt img 8 = 1
    cycles := natAt img 11
    attemptsMask := natAt img 13
    jamTorque := natAt img 14
    searchSpeed := natAt img 15
    refMode := if natAt img 16 = 0 then .a else .b
    indexCount := natAt img 17
    stages := (List.range s).map fun i => (stageOf (img.getD (stagesOffset + i) 0)).getD .engage
    steps := (List.range t).map fun j => stepAt img (stepsOffset s + 6 * j)
    leakSet0 := leakSetAt img (leakOffset s t)
    leakSet1 := leakSetAt img (leakOffset s t + 13)
    captures := capturesAt img (natAt img 12) (capturesOffset s t) }

/-! ### Validation: the offences of an image (R41 to R43). Each check answers the offsets of its offences; a word that the
image needs and does not have is an offence at offset length (R43). -/

/-- The word at an offset passes a test, else an offence at the offset. -/
def checkWord (img : List Word) (o : Nat) (ok : Word → Bool) : List Nat :=
  match img[o]? with
  | none => [img.length]
  | some w => if ok w then [] else [o]

/-- A one-word unsigned field in a range. -/
def checkNat (img : List Word) (o lo hi : Nat) : List Nat :=
  checkWord img o fun w => (lo ≤ w.toNat) && (w.toNat ≤ hi)

/-- A one-word signed field in a range. -/
def checkInt (img : List Word) (o : Nat) (lo hi : Int) : List Nat :=
  checkWord img o fun w => (lo ≤ w.toInt) && (w.toInt ≤ hi)

/-- A two-word field in a range; the offence is at its first word (R40). DESIGN CHOICE (notes/assumptions/36.md), unsafe: R43 leaves
open whether the first word alone offends by its range where the second is missing; only the missing word offends, at offset length. -/
def checkNat32 (img : List Word) (o lo hi : Nat) : List Nat :=
  if o + 1 < img.length then (if lo ≤ nat32At img o ∧ nat32At img o ≤ hi then [] else [o]) else [img.length]

/-- The value of a count that passes R41, none for one that fails or is missing. -/
def countAt (img : List Word) (o lo hi : Nat) : Option Nat :=
  if o < img.length ∧ lo ≤ natAt img o ∧ natAt img o ≤ hi then some (natAt img o) else none

/-- One position of the label area: a printable character within the label length, 0 beyond it (R41). -/
def labelCharOk (length i : Nat) (b : Byte) : Bool :=
  if i < length then (0x20 ≤ b.toNat) && (b.toNat ≤ 0x7E) else b == 0

/-- The label check: for each of the six words, both of its characters (R41). -/
def labelOffences (img : List Word) : List Nat :=
  match countAt img 0 0 12 with
  | none => []
  | some n =>
    (List.range 6).flatMap fun k =>
      checkWord img (1 + k) fun w =>
        labelCharOk n (2 * k) (w.extractLsb' 8 8) && labelCharOk n (2 * k + 1) (w.extractLsb' 0 8)

/-- The fields of the header (R35). -/
def headerOffences (img : List Word) : List Nat :=
  checkNat img 0 0 12 ++ labelOffences img ++ checkNat img 7 0 1 ++ checkNat img 8 0 1 ++ checkNat img 9 1 8 ++
    checkNat img 10 1 16 ++ checkNat img 11 1 8 ++ checkNat img 12 0 8 ++ checkNat img 13 0 7 ++
    checkNat img 14 20 1000 ++ checkNat img 15 30 300 ++ checkNat img 16 0 1 ++ checkNat img 17 0 15

/-- The kind code of the stage entry at a position, where it passes the code check (R41, R42): 1 LEAK to 4 PROFILE. -/
def kindAt (img : List Word) (i : Nat) : Nat :=
  if stagesOffset + i < img.length then
    let k := ((img.getD (stagesOffset + i) 0).extractLsb' 8 4).toNat
    if 1 ≤ k ∧ k ≤ 4 then k else 0
  else 0

/-- The chamber mask as it stands in a stage entry. -/
def maskAt (img : List Word) (i : Nat) : Nat := natAt img (stagesOffset + i) % 4

/-- Whether an earlier position holds a stage of a kind. -/
def earlierKind (img : List Word) (i kind : Nat) : Bool := (List.range i).any fun j => kindAt img j == kind

/-- The checks of R42 attributed to one stage entry: engagement before reference and profile, one profile, each chamber once. -/
def stageCrossOk (img : List Word) (i : Nat) : Bool :=
  let k := kindAt img i
  !((k == 3 || k == 4) && !earlierKind img i 2) && !(k == 4 && earlierKind img i 4) &&
    !(k == 1 && (List.range i).any fun j => kindAt img j == 1 && (maskAt img i &&& maskAt img j) != 0)

/-- The stage entries (R36, R41) with the checks of R42 on them, and the attempts mask of a list that holds an ENGAGE stage. -/
def stageOffences (img : List Word) (stages : Nat) : List Nat :=
  ((List.range stages).flatMap fun i =>
    checkWord img (stagesOffset + i) (fun w => (stageOf w).isSome) ++
      (if stageCrossOk img i then [] else [stagesOffset + i])) ++
    (if earlierKind img stages 2 ∧ 13 < img.length ∧ natAt img 13 = 0 then [13] else [])

/-- The window counts of the capture definitions that are located, in order (R43): the definition after one with a failing
count is not located. -/
def windowCounts (img : List Word) : Nat → Nat → List (Option Nat)
  | 0, _ => []
  | k + 1, o =>
    countAt img (o + 4) 0 8 ::
      (if (countAt img (o + 3) 0 8).isSome ∧ (countAt img (o + 4) 0 8).isSome then
        windowCounts img k (o + captureSizeAt img o)
      else [])

/-- The first PROFILE stage of the list has no REFERENCE stage before it (R42, reference for windows). -/
def profileUnreferenced (img : List Word) (stages : Nat) : Bool :=
  match (List.range stages).find? fun i => kindAt img i == 4 with
  | some i => !earlierKind img i 3
  | none => false

/-- The fields of one step (R37, R41). -/
def stepOffences (img : List Word) (o : Nat) : List Nat :=
  checkInt img o (-3000) 3000 ++ checkNat img (o + 1) 0 5000 ++ checkNat img (o + 2) 1 30000 ++
    checkNat img (o + 3) 1 4000 ++ checkWord img (o + 4) (fun w => (w.toNat ≤ 7) || (w.toNat == 0xFF)) ++
    checkNat img (o + 5) 0 1

/-- The checks of R42 on one step: capture speed, and, where the capture count has passed R41, defined captures and
reference for windows. -/
def stepCrossOffences (img : List Word) (o : Nat) (captures : Option Nat) (counts : List (Option Nat))
    (unreferenced : Bool) : List Nat :=
  if img.length ≤ o + 4 then []
  else
    let c := natAt img (o + 4)
    (if c ≠ 0xFF ∧ (intAt img o).natAbs < 100 then [o] else []) ++
      match captures with
      | none => []
      | some n =>
        (if c ≤ 7 ∧ n ≤ c then [o + 4] else []) ++
          (if unreferenced ∧ c < n then
            match counts.getD c none with
            | some (_ + 1) => [o + 4]
            | _ => []
          else [])

/-- The fields of one leak set (R38, R41). -/
def leakSetOffences (img : List Word) (o : Nat) : List Nat :=
  checkNat32 img o 5000 150000 ++ checkNat img (o + 2) 1 600 ++ checkNat img (o + 3) 1 600 ++
    checkNat img (o + 4) 10 600 ++ checkNat img (o + 5) 1 20000 ++
    ((List.range 6).flatMap fun k => checkInt img (o + 6 + k) (-2000) 2000) ++ checkNat img (o + 12) 0 1

/-- The fields of one order line (R39, R41). -/
def lineOffences (img : List Word) (o : Nat) : List Nat :=
  checkNat img o 1 511 ++ checkNat img (o + 1) 1 65535 ++ checkNat img (o + 2) 1 65535

/-- The fields of one impact window (R39, R41) and its extent (R42). -/
def windowOffences (img : List Word) (o : Nat) : List Nat :=
  checkNat img o 0 4095 ++ checkNat img (o + 1) 0 4095 ++ checkNat img (o + 2) 1 32768 ++
    (if o + 1 < img.length ∧ natAt img o = natAt img (o + 1) then [o + 1] else [])

/-- The capture definitions from an offset on, and the surplus words of a long image once every count has passed (R39, R41,
R43). -/
def captureOffences (img : List Word) : Nat → Nat → List Nat
  | 0, o => if o < img.length then [o] else []
  | k + 1, o =>
    checkWord img o (fun w => (w.toNat == 4) || (w.toNat == 8) || (w.toNat == 16) || (w.toNat == 32)) ++
      checkNat img (o + 1) 1 16 ++ checkNat img (o + 2) 1 32768 ++ checkNat img (o + 3) 0 8 ++
      checkNat img (o + 4) 0 8 ++
      match countAt img (o + 3) 0 8, countAt img (o + 4) 0 8 with
      | some l, some w =>
        ((List.range l).flatMap fun i => lineOffences img (o + 5 + 3 * i)) ++
          ((List.range w).flatMap fun i => windowOffences img (o + 5 + 3 * l + 3 * i)) ++
          captureOffences img k (o + captureSizeAt img o)
      | _, _ => []

/-- The parts after the stage list, once the counts of stages and steps have passed (R43). -/
def bodyOffences (img : List Word) (s t : Nat) : List Nat :=
  let captures := countAt img 12 0 8
  let counts := windowCounts img (captures.getD 0) (capturesOffset s t)
  ((List.range t).flatMap fun j =>
    stepOffences img (stepsOffset s + 6 * j) ++
      stepCrossOffences img (stepsOffset s + 6 * j) captures counts (profileUnreferenced img s)) ++
    leakSetOffences img (leakOffset s t) ++ leakSetOffences img (leakOffset s t + 13) ++
    match captures with
    | some n => captureOffences img n (capturesOffset s t)
    | none => []

/-- All offences of an image (R41 to R43). A count that fails leaves the parts it sizes, and all after them, unlocated. -/
def imageOffences (img : List Word) : List Nat :=
  headerOffences img ++
    match countAt img 9 1 8 with
    | none => []
    | some s =>
      stageOffences img s ++
        match countAt img 10 1 16 with
        | none => []
        | some t => bodyOffences img s t

/-- The offset that BAD_PLAN carries: the lowest of all offences, none for an image without offence (R43). -/
def badPlanOffset (img : List Word) : Option Nat := (imageOffences img).min?

/-! ### The plan commands (R44 to R46) -/

/-- The first `length` words of the intake buffer (R44). -/
def Bench.intakeWords (b : Bench) (length : Nat) : List Word := (List.range length).map (WordMem.read b.intake)

/-- LOAD_PLAN (R44). -/
def loadPlanCommand (variant : Byte) (length : Word) (s : State) : State × ReplyCode × List Word :=
  match variantOf variant with
  | none => (s, .ignored, [])
  | some v =>
    if 0 < (s.planEntry v).inUse then (s, .planInUse, [])
    else if length.toNat < 1 ∨ 1024 < length.toNat then (s, .badLength, [])
    else
      let img := s.bench.intakeWords length.toNat
      match badPlanOffset img with
      | some o => (s, .badPlan, [natWord o])
      | none => (s.modPlan v fun e => { e with plan := some (planOfImage img) }, .accepted, [])

/-- CLEAR_PLAN (R45). -/
def clearPlanCommand (variant : Byte) (s : State) : State × ReplyCode × List Word :=
  match variantOf variant with
  | none => (s, .ignored, [])
  | some v =>
    if 0 < (s.planEntry v).inUse then (s, .planInUse, [])
    else (s.modPlan v fun e => { e with plan := none }, .accepted, [])

/-- READ_PLAN (R46). -/
def readPlanCommand (variant : Byte) (s : State) : State × ReplyCode × List Word :=
  match variantOf variant with
  | none => (s, .ignored, [])
  | some v =>
    match (s.planEntry v).plan with
    | none => (s, .empty, [])
    | some p => (s.fillOutput p.image, .accepted, [])

end Sys2Proof.Machine
end

