-- ==== Sys2Proof/Machine/Report.lean ====
section
/-! DEFINITION. The report queue (Chapter 9): building a report, filing, the filing-pending list, and the report record (R191). -/

namespace Sys2Proof.Machine

/-- The capacity of the report queue (R149). -/
def queueCapacity : Nat := 16

/-- The number after a report number, 65535 followed by 1 (R150). -/
def numberAfter (k : Nat) : Nat := if 65535 ≤ k then 1 else k + 1

/-- The fields of a report, from a dossier as it stands (R152, R153). -/
def reportOf (number : Option Nat) (station : Byte) (n : Nest) (d : Dossier) : Report where
  number := number
  station := station
  nest := n
  variant := d.variant
  verdict := d.verdict
  verdictCause := d.verdictCause
  firstVerdict := d.firstVerdict
  quarantine := d.quarantine
  repeatFlag := d.repeatFlag
  retestCount := d.retestCount.getD 0
  serial := d.serial.getD []
  arrivalTime := d.arrivalTime.getD 0
  judgedTime := d.judgedTime.getD 0
  classAtStart := d.classAtStart
  classAtJudgment := d.classAtJudgment
  runIn := d.runIn
  leaks := d.leaks
  captures := d.captures

/-- Subtract 1 from the in-use count of the variant that a nest's dossier names (R31, R34). -/
def State.releasePlan (s : State) (n : Nest) : State :=
  match (s.dossier n).variant with
  | some v => s.modPlan v fun e => { e with inUse := e.inUse - 1 }
  | none => s

/-- A filing that finds room: the report is built, numbered and appended, the dossier takes the number, leaves the
filing-pending list, releases its plan and enters FILED (R150, R151). -/
def State.fileReport (s : State) (n : Nest) : State :=
  let number := s.reports.nextNumber
  let s :=
    s.modReports fun q =>
      { q with
        reports := q.reports ++ [reportOf (some number) q.station n (s.dossier n)]
        nextNumber := numberAfter number
        filingPending := q.filingPending.filter fun m => m ≠ n }
  let s := s.modDossier n fun d => { d with reportNumber := some number, filingPending := false }
  (s.releasePlan n).modDossier n fun d => { d with state := .filed }

/-- A filing by auto-file or FILE: with room the dossier is filed, with a full queue it joins the end of the filing-pending
list (R31, R154). -/
def State.fileDossier (s : State) (n : Nest) : State :=
  if s.reports.reports.length < queueCapacity then s.fileReport n
  else
    ((s.modDossier n fun d => { d with filingPending := true }).modReports fun q =>
      { q with filingPending := q.filingPending ++ [n] }).raise .filingBlocked

/-- A removal of the oldest report, and the filing of the head of the filing-pending list (R155). -/
def State.removeOldest (s : State) : State :=
  let s := s.modReports fun q => { q with reports := q.reports.drop 1 }
  match s.reports.filingPending with
  | n :: _ => s.fileReport n
  | [] => s

/-! ### The report record (R191) -/

/-- A result byte: the result in bits 7 and 6, 3 for pending; the cause in bits 5 to 0 (R188). DEDUCED
(notes/assumptions/9.md), unsafe: a pending result carries the cause bits 0. -/
def resultByte : Option Given → Byte
  | some g => natByte (64 * g.result.code + g.cause.code)
  | none => natByte (64 * 3)

/-- The six bytes of the run-in record; an absent one is six bytes 0 (R191). -/
def runInBytes : Option RunInRecord → List Byte
  | some r =>
    [resultByte r.given, natByte r.stepsCompleted] ++ natBytes16 r.peakTorque ++ [natByte r.attemptUsed, 1]
  | none => [0, 0, 0, 0, 0, 0]

/-- The sixteen bytes of a leak record (R191). An absent field is carried as 0 under a clear presence bit (DEDUCED,
notes/assumptions/9.md, unsafe). -/
def leakBytes (r : LeakRecord) : List Byte :=
  [natByte r.chamber.number,
    natByte (r.classAtStart.isSome.toNat + 2 * r.pStart.isSome.toNat + 4 * r.deltaP.isSome.toNat
      + 8 * r.deltaPc.isSome.toNat),
    resultByte r.given, natByte (r.classAtStart.getD 0)] ++
    intBytes32 (r.pStart.getD 0) ++ intBytes32 (r.deltaP.getD 0) ++ intBytes32 (r.deltaPc.getD 0)

/-- The five bytes of an order entry (R191). -/
def lineEntryBytes (l : LineEntry) : List Byte :=
  natBytes16 l.q ++ [natByte (l.saturated.toNat + 2 * l.exceeded.toNat)] ++ natBytes16 l.maximum

/-- Whether the windows of a record are measured: not marked, and a block analysed (R153). -/
def CaptureRecord.windowsMeasured (r : CaptureRecord) : Bool := !r.unmeasured && (0 < r.blocksAnalysed)

/-- The three bytes of a window entry (R191); a window that is NOT_MEASURED carries peak 0 (DEDUCED, notes/assumptions/9.md,
unsafe). -/
def windowEntryBytes (measured : Bool) (peak : Nat) : List Byte :=
  if measured then 1 :: natBytes16 peak else [0, 0, 0]

/-- A capture record: its twelve fixed bytes, its order entries, its window entries (R191). -/
def captureBytes (r : CaptureRecord) : List Byte :=
  [natByte (r.number % 8 + 8 * (r.side.map LoadSide.code).getD 0 + 16 * r.side.isSome.toNat + 32 * r.overload.toNat
      + 64 * r.unmeasured.toNat + 128 * r.overallMax.isSome.toNat),
    natByte (16 * r.lines.length + r.windows.length)] ++
    intBytes16 (r.setPoint.getD 0) ++ natBytes16 r.blocksRequested ++ natBytes16 r.blocksAnalysed ++
    [natByte (min 255 r.restarts)] ++ natBytes16 (r.overallMax.getD 0) ++ [resultByte r.given] ++
    r.lines.flatMap lineEntryBytes ++ r.windows.flatMap (windowEntryBytes r.windowsMeasured)

/-- The bytes of a report record after the record length (R191). -/
def Report.tailBytes (r : Report) : List Byte :=
  [r.station, natByte (128 * r.nest.number + (r.variant.map Fin.val).getD 0),
    natByte ((r.verdict.map Verdict.code).getD 255), natByte ((r.firstVerdict.map Verdict.code).getD 255),
    natByte ((r.verdictCause.map Cause.code).getD 255),
    natByte (r.quarantine.toNat + 2 * r.repeatFlag.toNat + 4 * r.retestCount),
    natByte (r.classAtStart.getD 15 + 16 * r.classAtJudgment.getD 15)] ++
    bytes32 r.arrivalTime ++ bytes32 r.judgedTime ++ [natByte r.serial.length] ++ r.serial ++
    runInBytes r.runIn ++
    (natByte r.leaks.length :: r.leaks.flatMap leakBytes) ++
    (natByte r.captures.length :: r.captures.flatMap captureBytes)

/-- The report record: the report number (0 absent), the record length in bytes, and the rest (R191, R193). -/
def Report.bytes (r : Report) : List Byte :=
  natBytes16 (r.number.getD 0) ++ natBytes16 (4 + r.tailBytes.length) ++ r.tailBytes

/-! ### Requests of the plant link (R156 to R158) and commands of the report queue (R159 to R162) -/

/-- FETCH (R156). -/
def fetchRequest (s : State) : State × ReplyCode × List Byte :=
  match s.reports.reports with
  | [] => (s, .empty, [])
  | r :: _ => (s, .accepted, r.bytes)

/-- TAKE (R157). -/
def takeRequest (number : Word) (s : State) : State × ReplyCode × List Byte :=
  match s.reports.reports with
  | [] => (s, .empty, [])
  | r :: _ =>
    if r.number = some number.toNat then
      let s := s.removeOldest
      (s, .accepted, bytes16 number ++ [natByte s.reports.reports.length])
    else (s, .wrongReport, [])

/-- The number of the oldest report, 0 for none (R158, R194). -/
def ReportQueue.oldestNumber (q : ReportQueue) : Nat := (q.reports.head?.bind Report.number).getD 0

/-- The number of the newest report, 0 for none (R194). -/
def ReportQueue.newestNumber (q : ReportQueue) : Nat := (q.reports.getLast?.bind Report.number).getD 0

/-- COUNT (R158). -/
def countRequest (s : State) : State × ReplyCode × List Byte :=
  (s, .accepted, natByte s.reports.reports.length :: natBytes16 s.reports.oldestNumber)

/-- READ_REPORT (R159). -/
def readReportCommand (position : Byte) (s : State) : State × ReplyCode × List Word :=
  if 15 < position.toNat then (s, .ignored, [])
  else
    match s.reports.reports[position.toNat]? with
    | none => (s, .empty, [])
    | some r => (s.fillOutput (packWords r.bytes), .accepted, [])

/-- SET_REPORT_BASE (R160). -/
def setReportBaseCommand (number : Word) (s : State) : State × ReplyCode × List Word :=
  if number = 0 then (s, .ignored, [])
  else if s.reports.reports ≠ [] ∨ s.reports.filingPending ≠ [] then (s, .wrongState, [])
  else (s.modReports fun q => { q with nextNumber := number.toNat }, .accepted, [])

/-- SET_STATION (R161). -/
def setStationCommand (number : Byte) (s : State) : State × ReplyCode × List Word :=
  (s.modReports fun q => { q with station := number }, .accepted, [])

/-- SET_CLOCK (R162). -/
def setClockCommand (high low : Word) (s : State) : State × ReplyCode × List Word :=
  (s.modReports fun q => { q with clock := high ++ low }, .accepted, [])

end Sys2Proof.Machine
end

