-- ==== Sys2Proof/Machine/Dossier.lean ====
section
/-! DEFINITION. The dossier table and its stage engines (Chapter 1): section records, judgment, stopping, run-in failures, the
walk of the stage list, the start and the retest. -/

namespace Sys2Proof.Machine

/-! ### Stops of a drive (R63, R64) -/

/-- An immediate stop: the set-point and the enable drop at once, and a controlled stop in progress ends (R64). -/
def Channel.immediateStop (ch : Channel) : Channel := { ch with setPoint := 0, enable := false, stopping := false }

/-- Request a controlled stop; with the enable off it completes at once (R63). -/
def Channel.controlledStop (ch : Channel) : Channel := { ch with stopping := ch.enable }

/-- The nest's drive is disabled with set-point zero (R15, R27). -/
def State.driveAtRest (s : State) (n : Nest) : Bool := !(s.channel n).enable && ((s.channel n).setPoint == 0)

/-! ### Section records (R4 to R7, R21) -/

/-- A pending run-in record (R5). -/
def RunInRecord.fresh : RunInRecord := ⟨none, 0, 0, 0⟩

/-- A pending leak record (R6). -/
def LeakRecord.fresh (c : Chamber) : LeakRecord := ⟨c, none, none, none, none, none⟩

/-- A pending capture record of a definition (R7). -/
def CaptureRecord.fresh (number : Nat) (d : CaptureDef) : CaptureRecord where
  number := number
  side := none
  setPoint := none
  blocksRequested := 0
  blocksAnalysed := 0
  restarts := 0
  overallMax := none
  lines := d.lines.map fun l => ⟨l.q, 0, false, false⟩
  windows := d.windows.map fun _ => 0
  overload := false
  unmeasured := false
  given := none

/-- A capture record made pending again by a RETEST: counts 0, measured fields absent, marks and flags clear (R21, R131, R134,
R145). -/
def CaptureRecord.renewed (r : CaptureRecord) : CaptureRecord :=
  { r with
    side := none, setPoint := none, blocksRequested := 0, blocksAnalysed := 0, restarts := 0, overallMax := none
    lines := r.lines.map fun l => ⟨l.q, 0, false, false⟩
    windows := r.windows.map fun _ => 0
    overload := false, unmeasured := false, given := none }

/-- The chambers named by any LEAK stage of a plan (R4). -/
def Plan.leakChambers (p : Plan) : ChamberSet :=
  p.stages.foldl (init := ⟨false, false⟩) fun m st =>
    match st with
    | .leak k _ => ⟨m.c0 || k.c0, m.c1 || k.c1⟩
    | _ => m

/-- The leak records that the start creates, chamber 0 first (R4). -/
def Plan.freshLeaks (p : Plan) : List LeakRecord :=
  (if p.leakChambers.c0 then [LeakRecord.fresh .c0] else []) ++
    (if p.leakChambers.c1 then [LeakRecord.fresh .c1] else [])

/-- The capture records that the start creates, in ascending number: one for each number named by a step, when the list
holds a PROFILE stage (R4). -/
def Plan.freshCaptures (p : Plan) : List CaptureRecord :=
  if p.stages.contains .profile then
    p.captures.zipIdx.filterMap fun x =>
      if p.steps.any fun t => t.capture = some x.2 then some (CaptureRecord.fresh x.2 x.1) else none
  else []

/-- The run-in record that the start creates, when the list holds an ENGAGE stage (R4). -/
def Plan.freshRunIn (p : Plan) : Option RunInRecord :=
  if p.stages.contains .engage then some RunInRecord.fresh else none

/-! ### Judgment (R27 to R30) -/

/-- The results of the section records in the fixed order of R29: chamber 0, chamber 1, run-in, captures ascending. -/
def Dossier.results (d : Dossier) : List (Option Given) :=
  d.leaks.map LeakRecord.given ++ d.runIn.toList.map RunInRecord.given ++ d.captures.map CaptureRecord.given

/-- The first given result of a kind in the order of R29. -/
def Dossier.firstResult (d : Dossier) (k : SectionResult) : Option Given :=
  (d.results.filterMap id).find? fun g => g.result = k

/-- The verdict and its cause (R29). -/
def Dossier.judgment (d : Dossier) : Verdict × Option Cause :=
  if d.stopped then (.aborted, d.stoppingCause)
  else
    match d.firstResult .fail with
    | some g => (.fail, some g.cause)
    | none =>
      match d.firstResult .notMeasured with
      | some g => (.incomplete, some g.cause)
      | none => (.pass, some .none)

/-- The dossier's fields at an entry to JUDGED (R29, R30). -/
def Dossier.enterJudged (d : Dossier) (now : BitVec 32) (cls : Nat) : Dossier :=
  { d with
    state := .judged
    verdict := some d.judgment.1
    verdictCause := d.judgment.2
    firstVerdict := some (d.firstVerdict.getD d.judgment.1)
    judgedTime := some now
    classAtJudgment := some cls }

/-- Clear the engagement and the reference of a nest's channel (R30, R78). -/
def Channel.clearReference (ch : Channel) : Channel := { ch with engaged := false, reference := none }

/-- Entry to JUDGED: the verdict, the judged time and class, the cleared engagement and reference, the judged attention cause,
and auto-filing (R30, R31). -/
def State.enterJudged (s : State) (n : Nest) : State :=
  let s := s.modDossier n fun d => d.enterJudged s.reports.clock (s.classOf n)
  let s := (s.modChannel n Channel.clearReference).raise (.judged n)
  match s.planOf n with
  | some p => if p.autoFile && !(s.dossier n).quarantine then s.fileDossier n else s
  | none => s

/-- Give every pending record NOT_MEASURED with a cause (R27). -/
def Dossier.givePending (d : Dossier) (c : Cause) : Dossier :=
  { d with
    leaks := d.leaks.map fun r => { r with given := some (r.given.getD (notMeasured c)) }
    runIn := d.runIn.map fun r => { r with given := some (r.given.getD (notMeasured c)) }
    captures := d.captures.map fun r => { r with given := some (r.given.getD (notMeasured c)) } }

/-- A STOPPING dossier enters JUDGED when its drive is at rest and its circuits are IDLE; pending records are given
NOT_MEASURED with cause ABORTED first (R27). -/
def State.checkStopping (s : State) (n : Nest) : State :=
  if (s.dossier n).state = .stopping ∧ s.driveAtRest n = true ∧ s.circuitsIdle n = true then
    (s.modDossier n fun d => d.givePending .aborted).enterJudged n
  else s

/-- A TESTING dossier with no stage in progress and no analysis job of its nest enters JUDGED (R28). -/
def State.checkTested (s : State) (n : Nest) : State :=
  if (s.dossier n).state = .testing ∧ (s.dossier n).stageIndex = none ∧ s.hasJob n = false then s.enterJudged n
  else s

/-! ### Entry to STOPPING (R26) -/

/-- A TESTING dossier enters STOPPING: the cause and the stopped flag are recorded, the stage is abandoned, the capture ends,
the abort rule is applied to the circuits and the nest's jobs are dropped (R26, R65, R96, R115, R139). The stop of the
drive is the caller's. -/
def State.enterStopping (s : State) (n : Nest) (cause : Cause) : State :=
  let s :=
    s.modDossier n fun d =>
      { d with state := .stopping, stoppingCause := some cause, stopped := true, stageIndex := none }
  let s := (s.modChannel n fun ch => { ch with activity := .idle }).endCapture n .stopped
  (s.abortLeak n).dropJobs n

/-- A stop reaches a nest by ABORT: a controlled stop of the drive (R14, R26). -/
def State.abortNest (s : State) (n : Nest) : State :=
  (((s.enterStopping n .aborted).modChannel n Channel.controlledStop).arbitrate).checkStopping n

/-- The part of an e-stop activation or guard opening that reaches one nest: a TESTING dossier enters STOPPING, and the drive
makes an immediate stop (R168, R170). -/
def State.stopNest (s : State) (n : Nest) (cause : Cause) : State :=
  (if (s.dossier n).state = .testing then s.enterStopping n cause else s).modChannel n Channel.immediateStop

/-- A guard opening as it acts on a TESTING or STOPPING dossier; in any other state it changes nothing in the nest (R170). -/
def State.guardStop (s : State) (n : Nest) : State :=
  if (s.dossier n).state = .testing ∨ (s.dossier n).state = .stopping then
    ((s.stopNest n .guard).arbitrate).checkStopping n
  else s

/-! ### Run-in failures (R25) -/

/-- The positions of a stage list later than a position. -/
def Plan.stagesAfter (p : Plan) (i : Nat) : List (Stage × Nat) := p.stages.zipIdx.drop (i + 1)

/-- Give every pending capture record NOT_MEASURED with cause SKIPPED (R25). -/
def Dossier.skipCaptures (d : Dossier) : Dossier :=
  { d with captures := d.captures.map fun r => { r with given := some (r.given.getD (notMeasured .skipped)) } }

/-- A drive-related failure skips the REFERENCE and PROFILE stages later than the stage in progress or the last one begun; a
skipped PROFILE stage gives pending capture records SKIPPED (R25). -/
def Dossier.skipLater (d : Dossier) (p : Plan) : Dossier :=
  let later := p.stagesAfter ((d.stageIndex.orElse fun _ => d.lastBegun).getD 0)
  let marks := (later.filter fun x => x.1 = .reference ∨ x.1 = .profile).map Prod.snd
  let d := { d with skipped := d.skipped ++ marks.filter fun i => i ∉ d.skipped }
  if later.any fun x => x.1 = .profile then d.skipCaptures else d

/-- Mark in the stage counters of an ENGAGE stage that a run-in failure has been given (R23, R72). -/
def Activity.markFailed : Activity → Activity
  | .engaging e => .engaging { e with failed := true }
  | a => a

/-- The profile's request is withdrawn if its step's capture is ACTIVE (R95). -/
def State.withdrawCapture (s : State) (n : Nest) : State :=
  match (s.channel n).activity with
  | .profiling p => if p.stepCapture = .active then s.endCapture n .withdrawn else s
  | _ => s

/-- A run-in failure with a drive-related cause: the record is given FAIL, later REFERENCE and PROFILE stages are skipped, and
an ACTIVE capture is withdrawn (R25, R95, R97). The stop of the drive is the caller's. -/
def State.failRunIn (s : State) (n : Nest) (cause : Cause) : State :=
  let s := s.giveRunIn n (failed cause)
  let s :=
    match s.planOf n with
    | some p => s.modDossier n fun d => d.skipLater p
    | none => s
  (s.modChannel n fun ch => { ch with activity := ch.activity.markFailed }).withdrawCapture n

/-! ### The stage engine (R22 to R24) -/

/-- The attempts of a mask in the fixed order 1, 2, 3 (R35, R70). -/
def attemptsOf (mask : Nat) : List Attempt :=
  (if mask % 2 = 1 then [.forwardCreep] else []) ++ (if mask / 2 % 2 = 1 then [.reverseCreep] else []) ++
    (if mask / 4 % 2 = 1 then [.oscillation] else [])

/-- An attempt that begins at the next drive update (R69, R70). -/
def EngageCounters.fresh (a : Attempt) : EngageCounters := ⟨a, false, 0, 0, 0, false⟩

/-- The stage counters of a REFERENCE stage as it begins (R73). -/
def RefCounters.fresh : RefCounters := ⟨0, false, 0, 0⟩

/-- The stage counters of a PROFILE stage as it begins, step 0 begun (R80, R82). DESIGN CHOICE (notes/assumptions/23.md),
safe: the computed value, which nothing reads before the first update, starts at 0. -/
def ProfileCounters.fresh (t : Step) (setPoint : Int) : ProfileCounters where
  stepIndex := 0
  cycle := 1
  phase := if 1 ≤ t.rampUpdates then .ramp else .dwell
  rampStart := setPoint
  rampCount := 0
  computed := 0
  dwellCount := 0
  holdCount := 0
  stepCapture := .none
  torqueRun := 0
  endPending := false

/-- Change the activity of a nest's channel. -/
def State.setActivity (s : State) (n : Nest) (a : Activity) : State :=
  s.modChannel n fun ch => { ch with activity := a }

/-- Hand a stage to its block; the Bool says whether the stage ended in the same event (R22, R69, R73, R80, R81, R106). -/
def State.beginStage (s : State) (n : Nest) (p : Plan) : Stage → State × Bool
  | .leak mask set =>
    if (mask.inter (s.dossier n).leakScope).isEmpty then (s, true) else (s.beginLeak n mask set, false)
  | .engage =>
    let s :=
      (s.modChannel n fun ch => { ch with engaged := false }).modDossier n fun d =>
        { d with runIn := d.runIn.map fun r => { r with attemptUsed := 0 } }
    match attemptsOf p.attemptsMask with
    | a :: _ =>
      (s.setActivity n
        (if s.interlock.permitLive then .engaging (EngageCounters.fresh a) else .permitWait 0), false)
    | [] => (s.failRunIn n .engageFail, true)
  | .reference =>
    (s.modChannel n fun ch => { ch with reference := none, activity := .searching RefCounters.fresh }, false)
  | .profile =>
    if s.classOf n = 7 then (s.giveRunIn n (notMeasured .tempHold), true)
    else
      match p.steps with
      | t :: _ => (s.setActivity n (.profiling (ProfileCounters.fresh t (s.channel n).setPoint)), false)
      | [] => (s, true)

/-- Whether a stage is a drive stage. -/
def Stage.isDrive : Stage → Bool
  | .leak _ _ => false
  | .engage => true
  | .reference => true
  | .profile => true

/-- At the end of a PROFILE stage, each capture record whose capture was never requested is given SKIPPED (R25). -/
def Dossier.skipUnrequested (d : Dossier) : Dossier :=
  { d with
    captures := d.captures.map fun r =>
      if r.side.isNone ∧ r.given.isNone then { r with given := some (notMeasured .skipped) } else r }

/-- What the end of a stage does before the next is looked for: the SKIPPED results of a PROFILE stage (R25), and the PASS of a
pending run-in record when no drive stage remains later that is not skipped (R24). -/
def Dossier.closeStage (d : Dossier) (st : Stage) (later : List (Stage × Nat)) : Dossier :=
  let d := if st = .profile then d.skipUnrequested else d
  if st.isDrive && !(later.any fun x => x.1.isDrive && !d.skipped.contains x.2) then
    { d with runIn := d.runIn.map fun r => { r with given := some (r.given.getD passed) } }
  else d

/-- Begin the next stage of the list that is not skipped; with none left the stage index becomes absent and the check of R28
is made (R22, R28). A stage that ends as it begins is closed and the walk goes on. -/
def State.walkStages (s : State) (n : Nest) (p : Plan) : List (Stage × Nat) → State
  | [] => (s.modDossier n fun d => { d with stageIndex := none }).checkTested n
  | x :: later =>
    if (s.dossier n).skipped.contains x.2 then s.walkStages n p later
    else
      let r := (s.modDossier n fun d => { d with stageIndex := some x.2, lastBegun := some x.2 }).beginStage n p x.1
      if r.2 then (r.1.modDossier n fun d => d.closeStage x.1 later).walkStages n p later else r.1

/-- A block reports the end of the stage in progress (R22, R23). -/
def State.stageEnded (s : State) (n : Nest) : State :=
  match s.planOf n, (s.dossier n).stageIndex with
  | some p, some i =>
    if (s.dossier n).state = .testing then
      match p.stages[i]? with
      | some st => (s.modDossier n fun d => d.closeStage st (p.stagesAfter i)).walkStages n p (p.stagesAfter i)
      | none => s
    else s
  | _, _ => s

/-- The end of the drive stage in progress: the activity becomes IDLE in the same event (R65). -/
def State.endDriveStage (s : State) (n : Nest) : State := (s.setActivity n .idle).stageEnded n

/-- Whether a drive stage is in progress in a TESTING dossier (R68, R171, R173). -/
def State.driveStageInProgress (s : State) (n : Nest) : Bool :=
  ((s.dossier n).state == .testing) && ((s.channel n).activity != .idle)

/-! ### The circuits report to the LEAK stage and to the dossier (R107, R108, R118) -/

/-- The LEAK stage ends once every measured chamber has its result and every circuit of the nest is IDLE; when the last result
is given, circuits in HOLDING are vented (R108). -/
def State.checkLeakStage (s : State) (n : Nest) : State :=
  if s.leakResultsDone n then
    let s := (s.ventHolding n .c0).ventHolding n .c1
    if s.circuitsIdle n then (s.setLeakStage n none).stageEnded n else s
  else s

/-- What follows in the event in which a circuit of a nest changes state: the second chamber's request, the grant, the LEAK
stage's end, and the STOPPING dossier's condition (R103, R107, R108, R118). -/
def State.afterCircuit (s : State) (n : Nest) : State :=
  (((s.requestNext n).arbitrate).checkLeakStage n).checkStopping n

/-! ### The start and the retest (R13, R19 to R21) -/

/-- The dossier's fields at the start (R3, R4, R13). -/
def Dossier.started (d : Dossier) (p : Plan) (cls : Nat) : Dossier :=
  { d with
    state := .testing
    stoppingCause := none
    stopped := false
    classAtStart := some cls
    stageIndex := some 0
    runIn := p.freshRunIn
    leaks := p.freshLeaks
    captures := p.freshCaptures
    skipped := []
    leakScope := p.leakChambers }

/-- The start of an OPEN dossier: its section records are created and stage 0 begins (R13). -/
def State.startDossier (s : State) (n : Nest) : State :=
  match s.planOf n with
  | some p => (s.modDossier n fun d => d.started p (s.classOf n)).walkStages n p p.stages.zipIdx
  | none => s

/-- The condition under which the part starts an OPEN dossier itself (R11). -/
def State.autoStartHolds (s : State) (n : Nest) : Bool :=
  ((s.dossier n).state == .opened) && (s.dossier n).clamped && ((s.planOf n).any fun p => p.autoStart) &&
    !s.interlock.estop && (s.faultList n).causes.isEmpty

/-- Evaluate the start condition of a nest's entry (R11). -/
def State.autoStart (s : State) (n : Nest) : State := if s.autoStartHolds n then s.startDossier n else s

/-- The noise section: the worst capture result, a pending one ranking as NOT_MEASURED; none without capture records (R148). -/
def Dossier.noise (d : Dossier) : Option SectionResult :=
  if d.captures.isEmpty then none
  else if d.captures.any fun r => r.given.any fun g => g.result = .fail then some .fail
  else if d.captures.any fun r => !(r.given.any fun g => g.result = .pass) then some .notMeasured
  else some .pass

/-- Whether a record holds PASS. -/
def isPass (g : Option Given) : Bool := g.any fun g => g.result = .pass

/-- The leak scope of a retest: the chambers whose leak record is not PASS (R20). -/
def Dossier.retestLeaks (d : Dossier) : ChamberSet :=
  ⟨d.leaks.any fun r => r.chamber = .c0 && !isPass r.given, d.leaks.any fun r => r.chamber = .c1 && !isPass r.given⟩

/-- Whether the drive stages run again in a retest: the run-in record or the noise section is not PASS (R20, R148). -/
def Dossier.retestDrives (d : Dossier) : Bool :=
  (d.runIn.any fun r => !isPass r.given) || (d.noise.any fun r => r ≠ .pass)

/-- The positions that a retest skips (R20). -/
def Dossier.retestSkips (d : Dossier) (p : Plan) : List Nat :=
  (p.stages.zipIdx.filter fun x =>
    match x.1 with
    | .leak m _ => (m.inter d.retestLeaks).isEmpty
    | _ => !d.retestDrives).map Prod.snd

/-- The dossier's fields at an accepted RETEST (R3, R20, R21). -/
def Dossier.retested (d : Dossier) (p : Plan) : Dossier :=
  { d with
    state := .testing
    retestCount := d.retestCount.map (· + 1)
    leaks := d.leaks.map fun r => if d.retestLeaks.has r.chamber then LeakRecord.fresh r.chamber else r
    runIn := if d.retestDrives then d.runIn.map fun _ => RunInRecord.fresh else d.runIn
    captures := if d.retestDrives then d.captures.map CaptureRecord.renewed else d.captures
    verdict := none
    verdictCause := none
    judgedTime := none
    classAtJudgment := none
    stoppingCause := none
    stopped := false
    filingPending := false
    skipped := d.retestSkips p
    leakScope := d.retestLeaks }

/-- The retest: the dossier leaves the filing-pending list, its records in scope are made pending, and its first stage in
scope begins (R19, R21). -/
def State.retestDossier (s : State) (n : Nest) : State :=
  match s.planOf n with
  | some p =>
    ((s.modReports fun q => { q with filingPending := q.filingPending.filter fun m => m ≠ n }).modDossier n fun d =>
      d.retested p).walkStages n p p.stages.zipIdx
  | none => s

/-! ### Requests against a dossier (R8 to R21) -/

/-- A request that names a nest by a byte: BAD_NEST and nothing else for a byte other than 0 and 1 (R1). -/
def withNest (b : Byte) (k : Nest → State → State × ReplyCode) (s : State) : State × ReplyCode :=
  match nestOf b with
  | some n => k n s
  | none => (s, .badNest)

/-- The dossier that an accepted ARRIVE opens (R9). -/
def Dossier.arrived (serial : List Byte) (v : Fin 32) (now : BitVec 32) (repeated : Bool) : Dossier :=
  { Dossier.vacant with
    state := .opened
    serial := some serial
    variant := some v
    retestCount := some 0
    arrivalTime := some now
    repeatFlag := repeated }

/-- Whether the other nest's entry holds a dossier with an equal serial (R8 check 6). -/
def State.isDuplicate (s : State) (n : Nest) (serial : List Byte) : Bool :=
  ((s.dossier n.other).state != .vacant) && ((s.dossier n.other).serial == some serial)

/-- ARRIVE (R8, R9). -/
def arriveRequest (nest variant : Byte) (serial : List Byte) (s : State) : State × ReplyCode :=
  withNest nest (s := s) fun n s =>
    if !serialOk serial then (s, .badSerial)
    else if (s.dossier n).state ≠ .vacant then (s, .nestBusy)
    else if !(s.faultList n).causes.isEmpty then (s, .nestFault)
    else
      match variantOf variant with
      | none => (s, .noPlan)
      | some v =>
        if (s.planEntry v).plan.isNone then (s, .noPlan)
        else if s.isDuplicate n serial then (s, .duplicate)
        else
          let repeated := s.reports.reports.any fun r => r.serial = serial
          ((s.modDossier n fun _ => Dossier.arrived serial v s.reports.clock repeated).modPlan v fun e =>
            { e with inUse := e.inUse + 1 }, .accepted)

/-- CLAMPED (R10). -/
def clampedRequest (nest : Byte) (s : State) : State × ReplyCode :=
  withNest nest (s := s) fun n s =>
    if (s.dossier n).state ≠ .opened then (s, .wrongState)
    else if (s.dossier n).clamped then (s, .accepted)
    else ((s.modDossier n fun d => { d with clamped := true }).autoStart n, .accepted)

/-- START (R12). -/
def startRequest (nest : Byte) (s : State) : State × ReplyCode :=
  withNest nest (s := s) fun n s =>
    if (s.dossier n).state ≠ .opened then (s, .wrongState)
    else if !(s.dossier n).clamped then (s, .notClamped)
    else if !(s.faultList n).causes.isEmpty then (s, .nestFault)
    else if s.interlock.estop then (s, .estopActive)
    else (s.startDossier n, .accepted)

/-- ABORT (R14). -/
def abortRequest (nest : Byte) (s : State) : State × ReplyCode :=
  withNest nest (s := s) fun n s =>
    if (s.dossier n).state = .testing then (s.abortNest n, .accepted) else (s, .wrongState)

/-- The dossier's fields at an untested RELEASE (R16). -/
def Dossier.releasedUntested (d : Dossier) (now : BitVec 32) (cls : Nat) : Dossier :=
  { d with
    verdict := some .aborted
    verdictCause := some .releasedUntested
    firstVerdict := some .aborted
    judgedTime := some now
    classAtJudgment := some cls }

/-- The entry becomes VACANT (R1). -/
def State.vacate (s : State) (n : Nest) : State := s.modDossier n fun _ => Dossier.vacant

/-- RELEASE (R15, R16). -/
def releaseRequest (nest : Byte) (s : State) : State × ReplyCode :=
  withNest nest (s := s) fun n s =>
    let st := (s.dossier n).state
    if st = .vacant then (s, .wrongState)
    else if st ≠ .opened ∧ st ≠ .filed then (s, .notFiled)
    else if !(s.circuitsIdle n && s.driveAtRest n) then (s, .chambersActive)
    else if st = .filed then (s.vacate n, .accepted)
    else if queueCapacity ≤ s.reports.reports.length then (s, .queueFull)
    else
      (((s.modDossier n fun d => d.releasedUntested s.reports.clock (s.classOf n)).fileReport n).vacate n, .accepted)

/-- FILE (R17). -/
def fileRequest (nest : Byte) (s : State) : State × ReplyCode :=
  withNest nest (s := s) fun n s =>
    if (s.dossier n).state ≠ .judged then (s, .wrongState)
    else if (s.dossier n).filingPending then (s, .accepted)
    else (s.fileDossier n, .accepted)

/-- QUARANTINE (R18). -/
def quarantineRequest (nest : Byte) (s : State) : State × ReplyCode :=
  withNest nest (s := s) fun n s =>
    if (s.dossier n).state = .vacant ∨ (s.dossier n).state = .filed then (s, .wrongState)
    else (s.modDossier n fun d => { d with quarantine := true }, .accepted)

/-- RETEST (R19). -/
def retestRequest (nest : Byte) (s : State) : State × ReplyCode :=
  withNest nest (s := s) fun n s =>
    let d := s.dossier n
    if d.state ≠ .judged ∨ (d.verdict ≠ some .fail ∧ d.verdict ≠ some .incomplete) then (s, .wrongState)
    else if 2 ≤ d.retestCount.getD 0 then (s, .retestLimit)
    else if !(s.faultList n).causes.isEmpty then (s, .nestFault)
    else if s.interlock.estop then (s, .estopActive)
    else (s.retestDossier n, .accepted)

end Sys2Proof.Machine
end

