-- ==== Sys2Proof/Machine/Drive.lean ====
section
/-! DEFINITION. The drive channels (Chapters 4 and 5): the enabling check, the controlled stop, the ENGAGE, REFERENCE and PROFILE
stages at a drive update, the angle counter, mark edges and index pulses. -/

namespace Sys2Proof.Machine

/-! ### The set-point and the enable (R60, R62, R63) -/

/-- Send a set-point; while the enable is off the channel holds it at 0 (R60). -/
def Channel.send (ch : Channel) (x : Int) : Channel := { ch with setPoint := if ch.enable then x else 0 }

/-- Turn the enable on and send a set-point (R62). -/
def Channel.enableWith (ch : Channel) (x : Int) : Channel := { ch with enable := true, setPoint := x }

/-- What the enabling check of R62 finds. -/
inductive EnableCheck where
  | granted
  | openGuard
  | failure (cause : Cause)
deriving DecidableEq, Repr

/-- The enabling check of R62, its conditions in order; `readsClass` holds for an ENGAGE or REFERENCE stage (condition 3). -/
def State.enableCheck (s : State) (n : Nest) (readsClass : Bool) : EnableCheck :=
  if s.interlock.guardOpen.get n then .openGuard
  else if s.interlock.driveFault.get n then .failure .driveFault
  else if readsClass && s.classOf n == 7 then .failure .overheat
  else if !s.interlock.permitLive then .failure .permitLapse
  else .granted

/-- A run-in failure met with the enable off: the stage ends at once (R62, R63). -/
def State.failAtRest (s : State) (n : Nest) (cause : Cause) : State := (s.failRunIn n cause).endDriveStage n

/-- Act on a failed enabling check (R62). -/
def State.refuseEnable (s : State) (n : Nest) : EnableCheck → State
  | .granted => s
  | .openGuard => s.guardStop n
  | .failure cause => s.failAtRest n cause

/-- Turn the enable on with a set-point; a ZERO of the nest's torque ends with WRONG_STATE (R62, R167). -/
def State.turnOn (s : State) (n : Nest) (x : Int) : State :=
  (s.modChannel n fun ch => ch.enableWith x).endZeroOnEnable n

/-- The stage requests a controlled stop outside the processing of an update's set-point; with the enable off the stop
completes at once and the stage ends (R63, R65). -/
def State.stageStop (s : State) (n : Nest) : State :=
  if (s.channel n).enable then s.modChannel n Channel.controlledStop else s.endDriveStage n

/-- The next attempt of a mask after an attempt, in the order of R70 (R72). -/
def nextAttempt (mask : Nat) (a : Attempt) : Option Attempt :=
  (attemptsOf mask).find? fun b => a.number < b.number

/-- The enable has dropped at the end of a controlled stop: the next attempt of an ENGAGE stage, the end of a drive stage, or the
STOPPING dossier's condition (R65, R72, R27). -/
def State.driveDropped (s : State) (n : Nest) : State :=
  match (s.channel n).activity with
  | .idle => s.checkStopping n
  | .permitWait _ => s
  | .engaging e =>
    if e.failed || (s.channel n).engaged then s.endDriveStage n
    else
      match (s.planOf n).bind fun p => nextAttempt p.attemptsMask e.attempt with
      | some a => s.setActivity n (.engaging (EngageCounters.fresh a))
      | none => s.failAtRest n .engageFail
  | .searching _ => s.endDriveStage n
  | .reversing _ => s.endDriveStage n
  | .creeping _ => s.endDriveStage n
  | .profiling _ => s.endDriveStage n

/-- An update of a controlled stop: the set-point moves 3 rpm toward 0; at 0 the enable turns off and the stop ends (R63). -/
def State.stopUpdate (s : State) (n : Nest) : State :=
  let x := moveToward 0 3 (s.channel n).setPoint
  if x = 0 then (s.modChannel n Channel.immediateStop).driveDropped n
  else s.modChannel n fun ch => ch.send x

/-- A run-in failure at an update with the enable on: the controlled stop it requests sets that update's set-point (R63, R66,
R74, R87). -/
def State.failMoving (s : State) (n : Nest) (cause : Cause) : State :=
  ((s.failRunIn n cause).modChannel n Channel.controlledStop).stopUpdate n

/-! ### The ENGAGE stage (R69 to R72) -/

/-- The set-point of an attempt at its update k, from 1 on (R70). -/
def Attempt.setPoint : Attempt → Nat → Int
  | .forwardCreep, _ => 20
  | .reverseCreep, _ => -20
  | .oscillation, k => if (k - 1) / 125 % 2 = 0 then 10 else -10

/-- A run of consecutive updates that meet a criterion. -/
def countRun (run : Nat) (met : Bool) : Nat := if met then run + 1 else 0

/-- The counters of an attempt after an update: update count and seated run (R70, R71). -/
def EngageCounters.seat (e : EngageCounters) (seated : Bool) : EngageCounters :=
  { e with begun := true, updates := e.updates + 1, seatedRun := countRun e.seatedRun seated }

/-- The counters of an attempt after the jam criterion (R72). -/
def EngageCounters.jam (e : EngageCounters) (jamTorque : Nat) (torque : Int) : EngageCounters :=
  { e with jamRun := countRun e.jamRun (jamTorque < torque.natAbs) }

/-- The attempt's criteria at an update: the tenth seated update succeeds (R71); else the third jammed update or the 1,500th
update abandons the attempt (R72). DEDUCED from section 4.6 (notes/assumptions/10.md), unsafe: the update that requests the
stop still sends the attempt's set-point. -/
def State.attemptCriteria (s : State) (n : Nest) (p : Plan) (torque : Int) (e : EngageCounters) : State :=
  if 10 ≤ e.seatedRun then
    ((s.setActivity n (.engaging e)).modChannel n fun ch => { ch.controlledStop with engaged := true }).modDossier n fun d =>
      { d with runIn := d.runIn.map fun r => { r with attemptUsed := e.attempt.number } }
  else
    let e := e.jam p.jamTorque torque
    let s := s.setActivity n (.engaging e)
    if 3 ≤ e.jamRun ∨ 1500 ≤ e.updates then s.modChannel n Channel.controlledStop else s

/-- An update of an attempt: the first turns the enable on under R62, a later one reads the class (R66); then the set-point of
R70 and the criteria. DEDUCED (notes/assumptions/11.md), unsafe: the update that gives OVERHEAT leaves the attempt's counts, the update
count of R70 among them, as they were. -/
def State.engageUpdate (s : State) (n : Nest) (p : Plan) (torque : Int) (seated : Bool) (e : EngageCounters) : State :=
  let e' := e.seat seated
  let x := e.attempt.setPoint e'.updates
  if e.begun then
    if s.classOf n = 7 then s.failMoving n .overheat
    else (s.modChannel n fun ch => ch.send x).attemptCriteria n p torque e'
  else
    match s.enableCheck n true with
    | .granted => (s.turnOn n x).attemptCriteria n p torque e'
    | refusal => s.refuseEnable n refusal

/-- An update of the permit wait: a live permit begins the first attempt at this update; the 2,500th update without one gives
PERMIT_LAPSE (R69). -/
def State.permitWaitUpdate (s : State) (n : Nest) (p : Plan) (torque : Int) (seated : Bool) (updates : Nat) : State :=
  if s.interlock.permitLive then
    match attemptsOf p.attemptsMask with
    | a :: _ => (s.setActivity n (.engaging (EngageCounters.fresh a))).engageUpdate n p torque seated (EngageCounters.fresh a)
    | [] => s.failAtRest n .engageFail
  else if 2500 ≤ updates + 1 then s.failAtRest n .permitLapse
  else s.setActivity n (.permitWait (updates + 1))

/-! ### The REFERENCE stage at an update (R73 to R76) -/

/-- The set-point of a REFERENCE stage at the next update: toward the search speed while SEARCHING (R73), toward 0 and then
toward −10 while REVERSING (R76), toward ±10 while CREEPING (R75, R76). DEDUCED (notes/assumptions/31.md), unsafe: a move of REVERSING
that would pass 0 ends at 0. -/
def referenceSetPoint (p : Plan) (a : Activity) (x : Int) : Int :=
  match a with
  | .searching _ => moveToward p.searchSpeed 3 x
  | .reversing _ => if 0 < x then moveToward 0 3 x else moveToward (-10) 3 x
  | .creeping r => moveToward (if r.reverse then -10 else 10) 3 x
  | _ => x

/-- The counters at the update at which the set-point of the reverse search first becomes negative (R76). -/
def RefCounters.turned (r : RefCounters) (x : Int) : RefCounters :=
  if x < 0 ∧ r.reverse = false then { r with travel := 0, reverse := true } else r

/-- The activity of a REFERENCE stage with its counters replaced. -/
def Activity.withRef (a : Activity) (r : RefCounters) : Activity :=
  match a with
  | .searching _ => .searching r
  | .reversing _ => .reversing r
  | .creeping _ => .creeping r
  | a => a

/-- The activity of a REFERENCE stage after an update that sends `x`. -/
def Activity.sent (a : Activity) (x : Int) : Activity :=
  match a with
  | .reversing r => .reversing (r.turned x)
  | a => a

/-- An update of a REFERENCE stage: with the enable on the class (R66) and the torque criterion (R74), then the set-point; the
first nonzero set-point is sent under R62. DEDUCED (notes/assumptions/11.md), unsafe: the class is read before the torque,
and class 7 leaves the torque run as it was. -/
def State.referenceUpdate (s : State) (n : Nest) (p : Plan) (torque : Int) (a : Activity) (r : RefCounters) : State :=
  let r' := { r with torqueRun := countRun r.torqueRun (p.jamTorque < torque.natAbs) }
  let x := referenceSetPoint p a (s.channel n).setPoint
  let a' := (a.withRef r').sent x
  if (s.channel n).enable then
    if s.classOf n = 7 then s.failMoving n .overheat
    else if 3 ≤ r'.torqueRun then (s.setActivity n (a.withRef r')).failMoving n .torqueTrip
    else (s.setActivity n a').modChannel n fun ch => ch.send x
  else if x = 0 then s.setActivity n a'
  else
    match s.enableCheck n true with
    | .granted => (s.setActivity n a').turnOn n x
    | refusal => s.refuseEnable n refusal

/-! ### The PROFILE stage at an update (R82 to R94) -/

/-- Whether the previous update ended the dwell of the step in force (R82, R86). -/
def ProfileCounters.dwellEnded (p : ProfileCounters) (t : Step) : Bool :=
  (p.phase == .dwell) && (t.dwellUpdates ≤ p.dwellCount)

/-- Begin a step (R82). -/
def ProfileCounters.beginStep (p : ProfileCounters) (t : Step) (index cycle : Nat) (setPoint : Int) : ProfileCounters :=
  { p with
    stepIndex := index
    cycle := cycle
    phase := if 1 ≤ t.rampUpdates then .ramp else .dwell
    rampStart := setPoint
    rampCount := 0
    dwellCount := 0
    holdCount := 0
    stepCapture := .none }

/-- The step that follows a step: the next of the cycle, or step 0 of the next cycle (R82). -/
def ProfileCounters.following (p : ProfileCounters) (plan : Plan) : Nat × Nat :=
  if p.stepIndex + 1 < plan.steps.length then (p.stepIndex + 1, p.cycle) else (0, p.cycle + 1)

/-- Whether the step in force is the last step of the last cycle (R82). -/
def ProfileCounters.isLast (p : ProfileCounters) (plan : Plan) : Bool :=
  (plan.steps.length ≤ p.stepIndex + 1) && (plan.cycles ≤ p.cycle)

/-- The phase that an update belongs to: the update after ramp update n is dwell update 1 (R83). -/
def ProfileCounters.phased (p : ProfileCounters) (t : Step) : ProfileCounters :=
  if p.phase = .ramp ∧ t.rampUpdates ≤ p.rampCount then { p with phase := .dwell } else p

/-- Step 3 of R87: the step and phase that an update belongs to, beginning a step where the previous update ended a dwell. -/
def ProfileCounters.locate (p : ProfileCounters) (plan : Plan) (setPoint : Int) : Option (ProfileCounters × Step) :=
  match plan.steps[p.stepIndex]? with
  | none => none
  | some t =>
    if p.dwellEnded t then
      let f := p.following plan
      match plan.steps[f.1]? with
      | none => none
      | some t' => some (p.beginStep t' f.1 f.2 setPoint, t')
    else some (p.phased t, t)

/-- The computed value of ramp update k (R83). -/
def rampValue (s0 t : Int) (k n : Nat) : Int := s0 + ((t - s0) * k).tdiv n

/-- Whether a dwell update is its step's dwell start (R84). -/
def ProfileCounters.atDwellStart (p : ProfileCounters) : Bool :=
  (p.phase == .dwell) && (p.dwellCount == 0) && (p.holdCount == 0)

/-- Step 5 of R87 on the counters: the ramp or dwell update of R83, R84 and R85. -/
def ProfileCounters.advance (p : ProfileCounters) (t : Step) : ProfileCounters :=
  match p.phase with
  | .ramp => { p with rampCount := p.rampCount + 1, computed := rampValue p.rampStart t.target (p.rampCount + 1) t.rampUpdates }
  | .dwell =>
    let p' := if p.atDwellStart && t.capture.isSome then { p with stepCapture := .active } else p
    if p'.stepCapture = .active then { p' with computed := t.target, holdCount := p'.holdCount + 1 }
    else { p' with computed := t.target, dwellCount := p'.dwellCount + 1 }

/-- The output limiter (R89): class, computed value, previous output. -/
def limiter (cls : Nat) (computed previous : Int) : Int :=
  let l : Int := if cls = 6 then 2000 else 3000
  let v := clamp (-l) l computed
  if v ≠ computed ∧ v.natAbs + 3 < previous.natAbs then moveToward 0 3 previous else v

/-- The effective torque limit of a step (R91). -/
def effectiveLimit (cls limit : Nat) : Nat := if cls = 6 then limit * 3 / 4 else limit

/-- The set-point that step 6 of R87 will send for a computed value (R88, R89); 0 where the enable stays off. -/
def State.profileOutput (s : State) (n : Nest) (computed : Int) : Int :=
  let ch := s.channel n
  if ch.enable then limiter (s.classOf n) computed ch.setPoint
  else if computed = 0 ∨ s.classOf n = 7 then 0
  else
    match s.enableCheck n false with
    | .granted => limiter (s.classOf n) computed 0
    | _ => 0

/-- The capture request of a dwell start (R84). DEDUCED (notes/assumptions/18.md), unsafe: it carries the set-point this update
sends, 0 where the enabling check then fails. -/
def State.dwellStart (s : State) (n : Nest) (t : Step) (x : Int) : State :=
  match t.capture with
  | some k => s.requestCapture n k t.side x
  | none => s

/-- The 1,000th held update reaches the hold limit (R85). -/
def State.holdLimitReached (s : State) (n : Nest) : State :=
  (s.endCapture n .holdLimit).modChannel n fun ch => { ch with activity := ch.activity.captureEnded }

/-- The end of a step's dwell: steps completed rises by 1; after the last step of the last cycle end pending is set (R86). -/
def State.dwellEnd (s : State) (n : Nest) (p : ProfileCounters) (plan : Plan) : State :=
  (s.modDossier n fun d =>
    { d with runIn := d.runIn.map fun r => { r with stepsCompleted := r.stepsCompleted + 1 } }).setActivity n
    (.profiling { p with endPending := p.isLast plan })

/-- Step 5 of R87 on the machine: `p` the counters before the update, `p'` after it, `x` the set-point that step 6 sends. -/
def State.takeStep (s : State) (n : Nest) (plan : Plan) (t : Step) (p p' : ProfileCounters) (x : Int) : State :=
  let s := s.setActivity n (.profiling p')
  let s := if p.atDwellStart then s.dwellStart n t x else s
  if p'.stepCapture = .active ∧ 1000 ≤ p'.holdCount then s.holdLimitReached n
  else if p'.dwellEnded t then s.dwellEnd n p' plan
  else s

/-- Step 6 of R87: with the enable on the limiter's output becomes the set-point; with it off a nonzero computed value asks for
the enable (R88). -/
def State.sendProfile (s : State) (n : Nest) (computed x : Int) : State :=
  if (s.channel n).enable then s.modChannel n fun ch => ch.send x
  else if computed = 0 then s
  else if s.classOf n = 7 then s.failAtRest n .overheat
  else
    match s.enableCheck n false with
    | .granted => s.turnOn n x
    | refusal => s.refuseEnable n refusal

/-- Steps 5 and 6 of R87. -/
def State.profileStep (s : State) (n : Nest) (plan : Plan) (t : Step) (p : ProfileCounters) : State :=
  let p' := p.advance t
  let x := s.profileOutput n p'.computed
  (s.takeStep n plan t p p' x).sendProfile n p'.computed x

/-- The completion update (R94): a controlled stop that sets this update's set-point; with the enable off the stage ends. -/
def State.completeProfile (s : State) (n : Nest) : State :=
  if (s.channel n).enable then (s.modChannel n Channel.controlledStop).stopUpdate n else s.endDriveStage n

/-- An update of a PROFILE stage with no stop in progress: steps 3 to 6 of R87. -/
def State.profileUpdate (s : State) (n : Nest) (plan : Plan) (torque : Int) (p : ProfileCounters) : State :=
  if p.endPending then s.completeProfile n
  else
    match p.locate plan (s.channel n).setPoint with
    | none => s
    | some (p, t) =>
      if (s.channel n).enable then
        if s.classOf n = 7 then (s.setActivity n (.profiling p)).failMoving n .overheat
        else
          let p := { p with torqueRun := countRun p.torqueRun (effectiveLimit (s.classOf n) t.torqueLimit < torque.natAbs) }
          if 3 ≤ p.torqueRun then (s.setActivity n (.profiling p)).failMoving n .torqueTrip
          else s.profileStep n plan t p
      else s.profileStep n plan t p

/-! ### The drive update (R60) -/

/-- Step 1 of R87: while PROFILING the peak |torque| takes a greater conditioned magnitude (R94). -/
def State.raisePeak (s : State) (n : Nest) (torque : Int) : State :=
  match (s.channel n).activity with
  | .profiling _ =>
    s.modDossier n fun d => { d with runIn := d.runIn.map fun r => { r with peakTorque := max r.peakTorque torque.natAbs } }
  | _ => s

/-- The work of a channel at an update: a stop in progress, or the stage in progress. -/
def State.channelUpdate (s : State) (n : Nest) (torque : Int) (seated : Bool) : State :=
  if (s.channel n).stopping then s.stopUpdate n
  else
    match s.planOf n, (s.channel n).activity with
    | some p, .permitWait w => s.permitWaitUpdate n p torque seated w
    | some p, .engaging e => s.engageUpdate n p torque seated e
    | some p, .searching r => s.referenceUpdate n p torque (.searching r) r
    | some p, .reversing r => s.referenceUpdate n p torque (.reversing r) r
    | some p, .creeping r => s.referenceUpdate n p torque (.creeping r) r
    | some p, .profiling c => s.profileUpdate n p torque c
    | _, _ => s

/-- A drive update of one nest (R60, R61, R164): the torque is conditioned with the offset in force, a ZERO takes the raw value
(notes/assumptions/15.md), the channel works, and a unit that waits for a slot looks for one (R127, notes/assumptions/16.md). -/
def State.driveUpdate (s : State) (u : UpdateInput) : State :=
  let torque := conditionTorque (s.interlock.torqueOffset.get u.nest) u.rawTorque
  let s := (s.zeroSample u.nest .torque u.rawTorque false).raisePeak u.nest torque
  (s.channelUpdate u.nest torque u.seated).lookForSlot u.nest

/-! ### The encoder (R67, R68) -/

/-- An encoder fault (R68, R134). -/
def State.encoderFault (s : State) (n : Nest) : State :=
  let s := ((s.modChannel n fun ch => { ch with reference := none }).referenceLost n).reportFault n .encoderFault
  if s.driveStageInProgress n then (s.failRunIn n .encoderFault).stageStop n else s

/-- The travel count after a legal change (R67): 1 more in the direction of the search under way, 1 less in the other. -/
def RefCounters.travelled (r : RefCounters) (d : Direction) : RefCounters :=
  { r with travel := if (d == .reverse) == r.reverse then r.travel + 1 else r.travel - 1 }

/-- The travel count of a REFERENCE stage after a legal change (R67). -/
def Activity.travelled (a : Activity) (d : Direction) : Activity :=
  match a with
  | .searching r => .searching (r.travelled d)
  | .reversing r => .reversing (r.travelled d)
  | .creeping r => .creeping (r.travelled d)
  | a => a

/-- The angle counter after a legal change (R67). -/
def stepAngle (angle : BitVec 12) : Direction → BitVec 12
  | .forward => angle + 1
  | .reverse => angle - 1

/-- Whether a REFERENCE stage has reached its travel limit (R74, R76, R77). -/
def travelLimitReached (p : Plan) (a : Activity) : Bool :=
  match a with
  | .searching r => 12288 ≤ r.travel
  | .reversing r => r.reverse && (12288 ≤ r.travel)
  | .creeping r => (4096 * (p.indexCount + 1) : Nat) ≤ r.travel
  | _ => false

/-- The limits of a REFERENCE stage (R74, R76, R77); given up while a controlled stop is in progress (R63,
notes/assumptions/12.md). -/
def State.checkTravel (s : State) (n : Nest) : State :=
  let ch := s.channel n
  if !ch.stopping && (s.planOf n).any fun p => travelLimitReached p ch.activity then
    (s.failRunIn n .refFail).stageStop n
  else s

/-- A legal change of the quadrature inputs: the angle counter and the travel count, a sample point at a multiple of 16, and
the travel limits (R67, R124, R128). -/
def State.countChange (s : State) (n : Nest) (d : Direction) : State :=
  let angle := stepAngle (s.channel n).angle d
  let s := s.modChannel n fun ch => { ch with angle := angle, activity := ch.activity.travelled d }
  (if angle.toNat % 16 = 0 then s.samplePoint n d else s).checkTravel n

/-- A change of the quadrature inputs (R67). -/
def State.encoderChange (s : State) (e : EncoderInput) : State :=
  match e.change with
  | .forward => s.countChange e.nest .forward
  | .reverse => s.countChange e.nest .reverse
  | .illegal => s.encoderFault e.nest

/-! ### Mark edges and index pulses (R74 to R77) -/

/-- The mark edge begins the creep: travel count and index pulses 0; with k = 0 it zeroes the angle counter (R75, R76). -/
def State.beginCreep (s : State) (n : Nest) (p : Plan) (r : RefCounters) : State :=
  s.modChannel n fun ch =>
    { ch with
      activity := .creeping { r with travel := 0, pulses := 0 }
      angle := if p.indexCount = 0 then 0 else ch.angle }

/-- A mark edge (R74 to R76); given up while a controlled stop is in progress (R63, notes/assumptions/12.md). -/
def State.markEdge (s : State) (n : Nest) : State :=
  if (s.channel n).stopping then s
  else
    match s.planOf n, (s.channel n).activity with
    | some p, .searching r =>
      match p.refMode with
      | .a => s.beginCreep n p r
      | .b => s.setActivity n (.reversing r)
    | some p, .reversing r => if (s.channel n).setPoint < 0 then s.beginCreep n p r else s
    | _, _ => s

/-- The distance of two angles round the circle (R68). -/
def angleDistance (a b : BitVec 12) : Nat := min (a - b).toNat (b - a).toNat

/-- The recording pulse: the reference becomes PRESENT with the angle counter's value, and a controlled stop is requested (R77). -/
def State.recordReference (s : State) (n : Nest) : State :=
  (s.modChannel n fun ch => { ch with reference := some ch.angle }).stageStop n

/-- An index pulse while CREEPING (R75 to R77). -/
def State.creepPulse (s : State) (n : Nest) (p : Plan) (r : RefCounters) : State :=
  if p.indexCount = 0 then s.recordReference n
  else
    let s := s.setActivity n (.creeping { r with pulses := r.pulses + 1 })
    if p.indexCount ≤ r.pulses + 1 then (s.modChannel n fun ch => { ch with angle := 0 }).recordReference n else s

/-- An index pulse: checked against a PRESENT reference (R68), else counted and recorded while CREEPING (R77). -/
def State.indexPulse (s : State) (n : Nest) : State :=
  match (s.channel n).reference with
  | some a => if 2 < angleDistance (s.channel n).angle a then s.encoderFault n else s
  | none =>
    if (s.channel n).stopping then s
    else
      match s.planOf n, (s.channel n).activity with
      | some p, .creeping r => s.creepPulse n p r
      | _, _ => s

end Sys2Proof.Machine
end

