-- ==== Sys2Proof/Machine/Interlock.lean ====
section
/-! DEFINITION. The interlock unit and the sensors (Chapters 3, 6, 9 and 10): pressure, supply and temperature samples, the
e-stop, the guards, the drive-fault inputs, the line permit, ZERO, CLEAR_FAULTS, the completion of an analysis job, the reset. -/

namespace Sys2Proof.Machine

/-! ### Samples (R49 to R57, R100, R104, R124, R165) -/

/-- A pressure sample of one circuit (R100, R165): conditioned with the offset in force, taken raw by a ZERO, reported if it is a
sensor fault, handed to the circuit; a change of the circuit's state is followed up in the same event (R103, R107, R108, R118). -/
def State.pressureSample (s : State) (p : PressureInput) : State :=
  let fault := pressureFault p.raw
  let x := conditionPressure ((s.interlock.pressureOffset.get p.nest).get p.chamber) p.raw
  let s := s.zeroSample p.nest (.chamber p.chamber) p.raw fault
  let s := if fault then s.reportFault p.nest .sensorPressure else s
  let before := (s.circuit p.nest p.chamber).state
  let s := s.circuitSample p.nest p.chamber x fault
  if (s.circuit p.nest p.chamber).state = before then s else s.afterCircuit p.nest

/-- A supply sample (R104): low below 250,000 Pa; the arbiter evaluates R103. -/
def State.supplySample (s : State) (pressure : Int) : State :=
  (s.modArbiter fun a => { a with supplyLow := pressure < 250000 }).arbitrate

/-- A reading outside −40.0 °C to 150.0 °C is a temperature sensor fault (R49). -/
def temperatureFault (reading : Int) : Bool := (reading < -400) || (1500 < reading)

/-- The band class of a reading (R50). -/
def bandClass (reading : Int) : Nat :=
  if temperatureFault reading then 7
  else if reading < 50 then 0
  else if reading < 150 then 1
  else if reading < 250 then 2
  else if reading < 350 then 3
  else if reading < 500 then 4
  else if reading < 650 then 5
  else if reading < 800 then 6
  else 7

/-- The lower bound of a class's band (R50); class 0, which no class lies below, has none. -/
def lowerBound (cls : Nat) : Int :=
  match cls with
  | 1 => 50
  | 2 => 150
  | 3 => 250
  | 4 => 350
  | 5 => 500
  | 6 => 650
  | _ => 800

/-- The class after a sample that is not the first (R52). -/
def nextClass (c : Nat) (reading : Int) : Nat :=
  let b := bandClass reading
  if c < b then b else if b < c ∧ reading ≤ lowerBound c - 10 then b else c

/-- The monitor after a sample (R49 to R53). -/
def Monitor.take (m : Monitor) (reading : Int) : Monitor :=
  let cls := if m.sampled then nextClass m.tempClass reading else bandClass reading
  { temperature := some reading
    tempClass := cls
    changed := m.changed || (m.sampled && cls != m.tempClass)
    sensorFault := temperatureFault reading
    sampled := true }

/-- A temperature sample of one nest (R49): the converter's span clamps the input; a sensor fault is reported (R57); a change of
class after the first sample makes the class-changed cause pending (R53). -/
def State.tempSample (s : State) (n : Nest) (input : Int) : State :=
  let reading := clamp (-600) 2000 input
  let old := s.monitor n
  let s := s.modMonitor n fun m => m.take reading
  let s := if temperatureFault reading then s.reportFault n .sensorTemp else s
  if old.sampled && (s.monitor n).tempClass != old.tempClass then s.raise (.classChanged n) else s

/-- A vibration conversion: an input beyond the converter's span reads as the nearer end (R124). -/
def State.vibrationConversion (s : State) (n : Nest) (input : Int) : State :=
  s.setVibration n (clamp (-32768) 32767 input)

/-- A second of the time base: the station clock rises by 1, 4,294,967,295 followed by 0 (R162). -/
def State.clockTick (s : State) : State := s.modReports fun q => { q with clock := q.clock + 1 }

/-! ### The e-stop and the guards (R168 to R170) -/

/-- Set the e-stop state (R168, R169). -/
def State.setEstop (s : State) (b : Bool) : State := s.modInterlock fun i => { i with estop := b }

/-- Set the guard state of a nest (R170). -/
def State.setGuard (s : State) (n : Nest) (isOpen : Bool) : State :=
  s.modInterlock fun i => { i with guardOpen := i.guardOpen.set n isOpen }

/-- Activation of the e-stop (R168): both nests are stopped before the arbiter looks (R116); the dossiers that meet their
condition enter JUDGED in ascending order of nest (R27, R151). -/
def State.estopActivate (s : State) : State :=
  let s := (((s.setEstop true).stopNest .n0 .estop).stopNest .n1 .estop).arbitrate
  ((s.checkStopping .n0).checkStopping .n1).raise .estopChange

/-- Clearing of the e-stop (R169): the start condition of both entries is evaluated (R11). -/
def State.estopClear (s : State) : State :=
  (((s.setEstop false).raise .estopChange).autoStart .n0).autoStart .n1

/-- Opening of a guard (R170). -/
def State.guardOpened (s : State) (n : Nest) : State := (s.setGuard n true).guardStop n

/-- Closing of a guard (R170). -/
def State.guardClosed (s : State) (n : Nest) : State := s.setGuard n false

/-! ### The drive-fault inputs (R171) -/

/-- Set the drive-fault level of a nest (R171). -/
def State.setDriveFault (s : State) (n : Nest) (b : Bool) : State :=
  s.modInterlock fun i => { i with driveFault := i.driveFault.set n b }

/-- Activation of a drive-fault input (R171). -/
def State.driveFaultActivate (s : State) (n : Nest) : State :=
  let s := (s.setDriveFault n true).modChannel n Channel.immediateStop
  let s := if s.driveStageInProgress n then s.failAtRest n .driveFault else s
  (s.reportFault n .driveFault).checkStopping n

/-! ### The line permit (R172, R173) -/

/-- PERMIT: the timer restarts at 500 ms and the permit is live (R172). -/
def State.permit (s : State) : State := s.modInterlock fun i => { i with permitLive := true, permitLeft := 500 }

/-- The lapse as it acts on one nest (R173). -/
def State.lapseNest (s : State) (n : Nest) : State :=
  if (s.channel n).enable then
    (if s.driveStageInProgress n then s.failRunIn n .permitLapse else s).modChannel n Channel.controlledStop
  else s

/-- The expiry of the permit timer (R172, R173); without a live permit there is no timer to expire (notes/assumptions/33.md). -/
def State.permitExpiry (s : State) : State :=
  if s.interlock.permitLive then
    ((s.modInterlock fun i => { i with permitLive := false, permitLeft := 0 }).lapseNest .n0).lapseNest .n1
  else s

/-! ### Bench commands of the monitors and the interlock unit -/

/-- A bench command that names a nest: BAD_NEST and nothing else for a byte other than 0 and 1 (R1). -/
def withBenchNest (b : Byte) (k : Nest → State → State × ReplyCode × List Word) (s : State) :
    State × ReplyCode × List Word :=
  match nestOf b with
  | some n => k n s
  | none => (s, .badNest, [])

/-- The two reply words of READ_TEMP: T, 0x8000 absent; class, changed flag and sensor fault (R196). -/
def Monitor.replyWords (m : Monitor) : List Word :=
  [match m.temperature with
    | some t => BitVec.ofInt 16 t
    | none => 0x8000,
    BitVec.ofNat 16 (m.tempClass % 8 + 16 * m.changed.toNat + 32 * m.sensorFault.toNat)]

/-- READ_TEMP (R54). -/
def readTempCommand (nest : Byte) (s : State) : State × ReplyCode × List Word :=
  withBenchNest nest (s := s) fun n s =>
    (s.modMonitor n fun m => { m with changed := false }, .accepted, (s.monitor n).replyWords)

/-- The five fault causes in ascending order of their codes (R175). -/
def FaultCause.all : List FaultCause := [.sensorTemp, .sensorPressure, .encoderFault, .driveFault, .ventFail]

/-- Whether the condition that keeps a cause holds (R176). -/
def State.faultHolds (s : State) (n : Nest) : FaultCause → Bool
  | .sensorTemp => (s.monitor n).sensorFault
  | .sensorPressure => (s.circuit n .c0).latestFault || (s.circuit n .c1).latestFault
  | .encoderFault => false
  | .driveFault => s.interlock.driveFault.get n
  | .ventFail => false

/-- The fault list after an accepted CLEAR_FAULTS (R176). -/
def State.clearedList (s : State) (n : Nest) : FaultList :=
  let l := s.faultList n
  let kept := l.causes.filter (s.faultHolds n)
  match l.more, FaultCause.all.find? fun f => !l.causes.contains f with
  | true, some fifth =>
    if s.faultHolds n fifth then
      if kept.length < 4 then ⟨kept ++ [fifth], false⟩ else ⟨kept, true⟩
    else ⟨kept, false⟩
  | _, _ => ⟨kept, false⟩

/-- CLEAR_FAULTS (R176). -/
def clearFaultsCommand (nest : Byte) (s : State) : State × ReplyCode × List Word :=
  withBenchNest nest (s := s) fun n s =>
    if (s.dossier n).state ≠ .vacant ∧ (s.dossier n).state ≠ .judged then (s, .wrongState, [])
    else (s.setFaultList n (s.clearedList n), .accepted, [])

/-- Whether the drive and, for a chamber target, the named circuit are at rest for a ZERO (R166 check 3). -/
def State.zeroAllowed (s : State) (n : Nest) (t : ZeroTarget) : Bool :=
  !(s.channel n).enable &&
    match t with
    | .torque => true
    | .chamber c => (s.circuit n c).state == .idle

/-- ZERO (R166): the reply of a failed check, or the ZERO that becomes the one in progress. -/
def zeroChecks (nest : Byte) (target length : Word) (s : State) : Except ReplyCode ZeroInProgress :=
  match nestOf nest with
  | none => .error .badNest
  | some n =>
    match zeroTargetOf target, zeroLengthOf length with
    | some t, some l => if s.zeroAllowed n t then .ok ⟨n, t, l, 0, 0⟩ else .error .wrongState
    | _, _ => .error .ignored

/-! ### The completion of an analysis job (R138) -/

/-- The completion of the job in progress (R138); without one there is no completion (notes/assumptions/33.md). -/
def State.jobComplete (s : State) : State :=
  match s.engine.current with
  | none => s
  | some j =>
    let dropped := s.engine.discard
    let s := if dropped then s else s.mergeJob j
    let s := (s.giveBackSlot j.slot).modEngine fun e => { e with current := none, discard := false }
    (if dropped then s else s.checkTested j.owner).takeJob

/-! ### Reset (R2) -/

/-- Reset with the levels of the straps and inputs: every block at its reset value; a drive-fault input that is active makes an
activation at once (R163, R171), nest 0 first (notes/assumptions/26.md). -/
def State.resetWith (s : State) (pins : ResetPins) : State :=
  let s := State.afterReset pins s.freeCount s.pending
  let s := if pins.driveFault0 then s.driveFaultActivate .n0 else s
  if pins.driveFault1 then s.driveFaultActivate .n1 else s

end Sys2Proof.Machine
end

