-- ==== Sys2Proof/Machine/Readout.lean ====
section
/-! DEFINITION. The dossier readout (R193), the station readout (R194) and the ASK reply (R187, R190). Filler bytes of fields that
are absent and have no absent code are 0 (DEDUCED, notes/assumptions/9.md, unsafe). -/

namespace Sys2Proof.Machine

/-- A byte field with the code 255 for absent. -/
def optByte (x : Option Nat) : Byte := natByte (x.getD 255)

/-- Pad a list of bytes with 255 to a length, and cut it there. -/
def padBytes (length : Nat) (bytes : List Byte) : List Byte := (bytes ++ List.replicate length 255).take length

/-! ### The dossier readout (R193) -/

/-- Bytes 0 to 10 of the dossier readout (R193). DESIGN CHOICE (notes/assumptions/38.md), unsafe: R193 gives byte 3 no code but 255 for
none, and R188 its codes for a result byte's bits 7 and 6 alone; the noise section's code is sent as the plain number. -/
def State.dossierHead (s : State) (n : Nest) : List Byte :=
  let d := s.dossier n
  let l := s.faultList n
  [natByte d.state.code, natByte (d.clamped.toNat + 2 * d.filingPending.toNat), optByte d.stageIndex,
    optByte (d.noise.map SectionResult.code)] ++
    natBytes16 (d.reportNumber.getD 0) ++
    natByte (l.causes.length + 128 * l.more.toNat) ::
    (l.causes.map (fun f : FaultCause => natByte f.code) ++ [0, 0, 0, 0]).take 4

/-- The dossier readout (R193). -/
def State.dossierReadout (s : State) (n : Nest) : List Byte :=
  let d := s.dossier n
  s.dossierHead n ++
    (if d.state = .vacant then [] else (reportOf d.reportNumber s.reports.station n d).bytes)

/-- READ_DOSSIER (R183). -/
def readDossierCommand (nest : Byte) (s : State) : State × ReplyCode × List Word :=
  withBenchNest nest (s := s) fun n s => (s.fillOutput (packWords (s.dossierReadout n)), .accepted, [])

/-! ### The station readout (R194) -/

/-- Bytes 0 to 3: straps, levels and permit time. -/
def State.stationHead (s : State) : List Byte :=
  let i := s.interlock
  [natByte (s.bench.width16.toNat + 2 * s.fastLinks.toNat),
    natByte (i.estop.toNat + 2 * i.guardOpen.n0.toNat + 4 * i.guardOpen.n1.toNat + 8 * i.driveFault.n0.toNat
      + 16 * i.driveFault.n1.toNat + 32 * i.permitLive.toNat + 64 * s.arbiter.supplyLow.toNat)] ++
    natBytes16 i.permitLeft

/-- Bytes 4 to 18: clock, station number and report queue. -/
def ReportQueue.readout (q : ReportQueue) : List Byte :=
  bytes32 q.clock ++ [q.station] ++ natBytes16 q.nextNumber ++ [natByte q.reports.length] ++
    natBytes16 q.oldestNumber ++ natBytes16 q.newestNumber ++
    [natByte q.filingPending.length] ++ padBytes 2 (q.filingPending.map fun n => natByte n.number)

/-- The byte of a variant (bytes 19 to 50). -/
def PlanEntry.readout (e : PlanEntry) : Byte := natByte (128 * e.plan.isSome.toNat + e.inUse % 4)

/-- Step index, cycle and phase of a channel, each 255 absent. -/
def Activity.readout : Activity → List Byte
  | .profiling p => [natByte p.stepIndex, natByte p.cycle, natByte (if p.phase = .ramp then 0 else 1)]
  | _ => [255, 255, 255]

/-- The sixteen bytes of a nest (bytes 51 to 82). -/
def State.nestReadout (s : State) (n : Nest) : List Byte :=
  let ch := s.channel n
  let m := s.monitor n
  intBytes16 ch.setPoint ++
    [natByte (ch.enable.toNat + 2 * ch.engaged.toNat + 4 * ch.reference.isSome.toNat + 8 * ch.stopping.toNat)] ++
    natBytes16 ((ch.reference.map BitVec.toNat).getD 0xFFFF) ++ natBytes16 ch.angle.toNat ++
    natByte ch.activity.code :: ch.activity.readout ++ [natByte m.tempClass] ++
    (match m.temperature with
      | some t => intBytes16 t
      | none => [0x80, 0x00]) ++
    intBytes16 (s.interlock.torqueOffset.get n)

/-- The number of a circuit: nest × 2 + chamber. -/
def CircuitId.number (k : CircuitId) : Nat := 2 * k.nest.number + k.chamber.number

/-- The mean that the readout shows for a circuit; over an empty window it is a free value (R100, notes/assumptions/3.md). -/
def Circuit.meanBytes (k : Circuit) (free : Nat) : List Byte :=
  if k.window = [] then bytes32 (Config.emptyMean free) else intBytes32 (meanOf k.window)

/-- The twelve bytes of a circuit (bytes 83 to 130). -/
def State.circuitReadout (s : State) (n : Nest) (c : Chamber) : List Byte :=
  let k := s.circuit n c
  [natByte k.state.code, natByte (k.fillOpen.toNat + 2 * k.ventOpen.toNat)] ++ intBytes32 k.latest ++
    k.meanBytes (s.freeCount + CircuitId.number ⟨n, c⟩) ++
    intBytes16 ((s.interlock.pressureOffset.get n).get c)

/-- Bytes 131 to 135: the arbiter; the two bytes of list members show the first two (notes/assumptions/34.md). -/
def Arbiter.readout (a : Arbiter) : List Byte :=
  [optByte (a.holder.map CircuitId.number), natByte a.waiting.length] ++
    padBytes 2 (a.waiting.map fun k => natByte k.number) ++ [natByte a.supplyOpen.toNat]

/-- The six bytes of a slot (bytes 136 to 159). -/
def Slot.readout (t : Slot) : List Byte :=
  [natByte t.state.code,
    natByte (t.pinMark.toNat + 2 * (t.descriptor.map fun d => d.owner.number).getD 0
      + 4 * (t.descriptor.map fun d => d.side.code).getD 0 + 128 * t.descriptor.isSome.toNat),
    natByte ((t.descriptor.map Descriptor.number).getD 0), natByte ((t.descriptor.map Descriptor.revolutions).getD 0)] ++
    natBytes16 t.samples.length

/-- The five bytes of a capture unit (bytes 160 to 169). -/
def CaptureUnit.readout : CaptureUnit → List Byte
  | .idle => [0, 0, 0, 0, 255]
  | .waitingSlot c => [1, natByte c.number, natByte c.blocksDone, natByte c.restarts, 255]
  | .sampling c b => [2, natByte c.number, natByte c.blocksDone, natByte c.restarts, natByte b.slot.val]

/-- Bytes 170 to 177: the analysis engine. -/
def Engine.readout (e : Engine) : List Byte :=
  [natByte e.current.isSome.toNat, optByte (e.current.map fun j => j.slot.val), natByte e.queue.length] ++
    padBytes 4 (e.queue.map fun j => natByte j.slot.val) ++ [natByte e.discard.toNat]

/-- Bytes 178 to 182: the ZERO in progress. -/
def zeroReadout : Option ZeroInProgress → List Byte
  | none => [255, 0, 0, 0, 0]
  | some z => [natByte z.nest.number, natByte z.target.code, natByte z.length.code] ++ natBytes16 z.taken

/-- The station readout, 187 bytes (R194). DESIGN CHOICE (notes/assumptions/37.md), unsafe: R148 says that the station readout shows
the noise section, and R194 gives it none of the 187 bytes; R194 is followed, and READ_DOSSIER alone shows it (R193 byte 3), as
95_what_each_step_holds.md has it, which lists R148 under RETEST and READ_DOSSIER. -/
def State.stationReadout (s : State) : List Byte :=
  s.stationHead ++ s.reports.readout ++ s.plans.toList.map PlanEntry.readout ++
    s.nestReadout .n0 ++ s.nestReadout .n1 ++
    s.circuitReadout .n0 .c0 ++ s.circuitReadout .n0 .c1 ++ s.circuitReadout .n1 .c0 ++ s.circuitReadout .n1 .c1 ++
    s.arbiter.readout ++ s.slots.toList.flatMap Slot.readout ++
    s.units.n0.readout ++ s.units.n1.readout ++ s.engine.readout ++ zeroReadout s.interlock.zero ++
    natBytes16 s.bench.causes.toNat ++ natBytes16 s.bench.enableMask.toNat

/-- READ_STATION (R183). The four circuits use the next four free values (notes/assumptions/3.md). -/
def readStationCommand (s : State) : State × ReplyCode × List Word :=
  ({ s.fillOutput (packWords s.stationReadout) with freeCount := s.freeCount + 4 }, .accepted, [])

/-! ### ASK (R187) -/

/-- The bytes of an ASK reply after the code (R190). -/
def State.askBytes (s : State) (n : Nest) : List Byte :=
  let d := s.dossier n
  [natByte d.state.code, natByte d.clamped.toNat, optByte (d.verdict.map Verdict.code)] ++
    natBytes16 (d.reportNumber.getD 0) ++ [natByte (!(s.faultList n).causes.isEmpty).toNat]

/-- ASK (R187). -/
def askRequest (nest : Byte) (s : State) : State × ReplyCode × List Byte :=
  match nestOf nest with
  | some n => (s, .accepted, s.askBytes n)
  | none => (s, .badNest, [])

end Sys2Proof.Machine
end

