-- ==== Sys2Proof/Machine/Bench.lean ====
section
/-! DEFINITION. The bench port (Chapter 11): the command window with its collection and dispatch, the attention commands, the
reply, data and pointer windows, and the byte halves of 8-bit mode. -/

namespace Sys2Proof.Machine

/-! ### Taking a command (R179) -/

/-- Take a held command whose effect is complete in its event: run it and answer it (R179). -/
def State.runCommand (s : State) (code : Byte) (eff : State → State × ReplyCode × List Word) : State :=
  let r := eff s
  r.1.answer code r.2.1 r.2.2

/-- A dossier request as a bench command: no reply word after the first (R196). -/
def benchRequest (eff : State → State × ReplyCode) (s : State) : State × ReplyCode × List Word :=
  let r := eff s
  (r.1, r.2, [])

/-- A word written while COMMAND_HELD is set is ignored and sets OVERRUN (R179). -/
def State.overrun (s : State) : State := s.modBench fun b => { b with overrun := true }

/-- The words of a complete ZERO. -/
def zeroWords (nest : Byte) (target length : Word) : List Word := [firstWord zeroCode nest, target, length]

/-- Take ZERO: a failed check is answered at once; else the ZERO becomes the one in progress and the command is held until it
is answered (R166). -/
def State.takeZero (s : State) (nest : Byte) (target length : Word) : State :=
  match zeroChecks nest target length s with
  | .error reply => s.answer zeroCode reply []
  | .ok z =>
    (s.modInterlock fun i => { i with zero := some z }).modBench fun b => { b with held := some (zeroWords nest target length) }

/-- READ_ATTENTION (R182, R55). -/
def readAttentionCommand (s : State) : State × ReplyCode × List Word :=
  match s.bench.highestCause with
  | none => (s, .empty, [0])
  | some k =>
    let s := s.modBench fun b => { b with causes := b.causes &&& ~~~k.bit }
    let s :=
      match k with
      | .classChanged n => s.modMonitor n fun m => { m with changed := false }
      | _ => s
    (s, .accepted, [natWord k.number])

/-- ENABLE_ATTENTION (R182). -/
def enableAttentionCommand (mask : Word) (s : State) : State × ReplyCode × List Word :=
  if mask.extractLsb' 9 7 ≠ 0 then (s, .ignored, [])
  else (s.modBench fun b => { b with enableMask := mask.extractLsb' 0 9 }, .accepted, [])

/-- Take the command that a list of words spells: the code and argument A in the first word, arguments B and C after it (R179,
R196). -/
def State.takeWords (s : State) (words : List Word) : State :=
  let first := words.getD 0 0
  let code := codeOf first
  let a := argumentA first
  let b := words.getD 1 0
  let c := words.getD 2 0
  let run (eff : State → State × ReplyCode × List Word) : State := s.runCommand code eff
  match code.toNat with
  | 0x01 => run (benchRequest (startRequest a))
  | 0x02 => run (benchRequest (abortRequest a))
  | 0x03 => run (benchRequest (retestRequest a))
  | 0x04 => run (benchRequest (fileRequest a))
  | 0x05 => run (benchRequest (quarantineRequest a))
  | 0x06 => run (clearFaultsCommand a)
  | 0x07 => run (readDossierCommand a)
  | 0x08 => run (readTempCommand a)
  | 0x09 => s.takeZero a b c
  | 0x10 => run (loadPlanCommand a b)
  | 0x11 => run (clearPlanCommand a)
  | 0x12 => run (readPlanCommand a)
  | 0x18 => run (pinCommand a)
  | 0x19 => run (unpinCommand a)
  | 0x1A => run (viewSlotCommand a)
  | 0x20 => run (readReportCommand a)
  | 0x21 => run (setReportBaseCommand b)
  | 0x22 => run (setStationCommand a)
  | 0x23 => run (setClockCommand b c)
  | 0x28 => run readAttentionCommand
  | 0x29 => run (enableAttentionCommand b)
  | 0x2A => run readStationCommand
  | _ => s.answer code .unknownCommand []

/-- Replace the words in collection (R177). -/
def State.setCollected (s : State) (words : List Word) : State := s.modBench fun b => { b with collected := words }

/-- A completed write of the command window (R179). -/
def State.commandWord (s : State) (w : Word) : State :=
  if s.bench.commandHeld then s.overrun
  else
    let words := s.bench.collected ++ [w]
    match commandWords (codeOf (words.getD 0 0)) with
    | none => (s.setCollected []).answer (codeOf (words.getD 0 0)) .unknownCommand []
    | some k => if k ≤ words.length then (s.setCollected []).takeWords words else s.setCollected words

/-- The byte latches of the command window's writes are dropped by a whole word (DESIGN CHOICE, notes/assumptions/19.md). -/
def State.dropCommandLatch (s : State) : State :=
  s.modBench fun b => { b with writeLatches := { b.writeLatches with command := none } }

/-- A row of the table that is a bench command stands for the writing of all its words, and acts at the last of them
(notes/assumptions/5.md): while a command is held they are ignored and set OVERRUN; else the command is taken. DESIGN CHOICE
(notes/assumptions/19.md), unsafe: held or not, the whole words drop a half-latched byte of the command window (R178 is silent). -/
def State.benchRow (s : State) (take : State → State) : State :=
  let s := s.dropCommandLatch
  if s.bench.commandHeld then s.overrun else take (s.setCollected [])

/-- A bench command row whose effect is complete in its event. -/
def State.commandRow (s : State) (code : Byte) (eff : State → State × ReplyCode × List Word) : State :=
  s.benchRow fun s => s.runCommand code eff

/-- A row that is one word written to the command window. -/
def State.wordRow (s : State) (w : Word) : State := s.dropCommandLatch.commandWord w

/-! ### Reads and writes of the windows (R177 to R180) -/

/-- The content of the data window: the viewed slot's samples and N, or the output buffer (R180). -/
def State.dataContent (s : State) : List Word :=
  match s.bench.view with
  | some i =>
    let t := s.slot i
    (t.samples.map (BitVec.ofInt 16)).take (blockLength ((t.descriptor.map Descriptor.revolutions).getD 0))
  | none => s.bench.output

/-- The word that a read of a window returns (R177 to R180). -/
def State.windowWord (s : State) : Window → Word
  | .command => 0
  | .reply => (s.bench.reply.bind fun r => r.words[r.index]?).getD 0
  | .data => s.dataContent.getD s.bench.pointer.toNat 0
  | .pointer => s.bench.pointer.setWidth 16
  | .flags => s.bench.flagsWord

/-- The effects of a completed read of the reply window (R179). -/
def Bench.replyRead (b : Bench) : Bench :=
  match b.reply with
  | none => b
  | some r =>
    if r.index < r.words.length then
      { b with
        reply := some { r with index := r.index + 1 }
        overrun := b.overrun && r.index != 0
        replyReady := b.replyReady && r.index + 1 != r.words.length }
    else b

/-- The effects of a completed read of the data window, whose content has a length (R180). -/
def Bench.dataRead (b : Bench) (length : Nat) : Bench :=
  { b with
    pointer := b.pointer + 1
    dataReady := b.dataReady && b.pointer.toNat + 1 != length
    pastEnd := b.pastEnd || (length ≤ b.pointer.toNat) }

/-- The effects of a completed read of a window (R178 to R180). -/
def State.readEffect (s : State) : Window → State
  | .command => s
  | .reply => s.modBench Bench.replyRead
  | .data => s.modBench fun b => b.dataRead s.dataContent.length
  | .pointer => s
  | .flags => s

/-- A completed write of the data window (R180). -/
def Bench.dataWrite (b : Bench) (w : Word) : Bench :=
  { b with
    intake := if b.pointer.toNat < 1024 then WordMem.write b.intake b.pointer.toNat w else b.intake
    pointer := b.pointer + 1
    pastEnd := b.pastEnd || (1024 ≤ b.pointer.toNat) }

/-- A completed write of the pointer window: the low 13 bits, PAST_END clear, half-latched accesses of the data window
discarded (R178, R180). -/
def Bench.pointerWrite (b : Bench) (w : Word) : Bench :=
  { b with
    pointer := w.extractLsb' 0 13
    pastEnd := false
    readLatches := { b.readLatches with data := none }
    writeLatches := { b.writeLatches with data := none } }

/-- A completed write of a window; the reply and the flags window ignore it (R177). -/
def State.writeEffect (s : State) (window : Window) (w : Word) : State :=
  match window with
  | .command => s.commandWord w
  | .reply => s
  | .data => s.modBench fun b => b.dataWrite w
  | .pointer => s.modBench fun b => b.pointerWrite w
  | .flags => s

/-! ### Byte latches (R178) -/

/-- The latch of a window; the flags window has none. -/
def Latches.get {α : Type} (l : Latches α) : Window → Option α
  | .command => l.command
  | .reply => l.reply
  | .data => l.data
  | .pointer => l.pointer
  | .flags => none

/-- Replace the latch of a window. -/
def Latches.set {α : Type} (l : Latches α) (w : Window) (x : Option α) : Latches α :=
  match w with
  | .command => { l with command := x }
  | .reply => { l with reply := x }
  | .data => { l with data := x }
  | .pointer => { l with pointer := x }
  | .flags => l

/-- One half of a word (R177, R178). -/
def halfOf (h : Half) (w : Word) : Byte :=
  match h with
  | .low => w.extractLsb' 0 8
  | .high => w.extractLsb' 8 8

/-- A word from the half `h` and the other half. -/
def joinHalves (h : Half) (b other : Byte) : Word :=
  match h with
  | .low => other ++ b
  | .high => b ++ other

/-- Drive a word on the data lines: the value that a read returns. -/
def State.drive (s : State) (w : Word) : State := s.modBench fun b => { b with driven := w }

/-- Replace the read latch of a window. -/
def State.setReadLatch (s : State) (w : Window) (x : Option ReadLatch) : State :=
  s.modBench fun b => { b with readLatches := b.readLatches.set w x }

/-- Replace the write latch of a window. -/
def State.setWriteLatch (s : State) (w : Window) (x : Option WriteLatch) : State :=
  s.modBench fun b => { b with writeLatches := b.writeLatches.set w x }

/-- A completed read of a window as a whole word: the word latched at its first half, if one is, else the word as it stands
(R178, notes/assumptions/19.md), is returned, and the read's effects are taken. -/
def State.readWindow (s : State) (w : Window) : State :=
  let x :=
    match s.bench.readLatches.get w with
    | some l => l.word
    | none => s.windowWord w
  ((s.setReadLatch w none).drive x).readEffect w

/-- A completed write of a window as a whole word. -/
def State.writeWindow (s : State) (window : Window) (w : Word) : State :=
  (s.setWriteLatch window none).writeEffect window w

/-- A byte read of 8-bit mode (R178): the first half latches the word, the same half again returns it again, the other half
completes the read. The flags window is read by either half alone. -/
def State.readHalf (s : State) (w : Window) (h : Half) : State :=
  match w, s.bench.readLatches.get w with
  | .flags, _ => s.drive ((halfOf h s.bench.flagsWord).setWidth 16)
  | w, none => (s.setReadLatch w (some ⟨h, s.windowWord w⟩)).drive ((halfOf h (s.windowWord w)).setWidth 16)
  | w, some l =>
    if l.half = h then s.drive ((halfOf h l.word).setWidth 16)
    else ((s.setReadLatch w none).drive ((halfOf h l.word).setWidth 16)).readEffect w

/-- A byte write of 8-bit mode (R178): the first half is held, the same half again replaces it, the other half completes the
write. A write of the flags window is ignored (R177). -/
def State.writeHalf (s : State) (w : Window) (h : Half) (b : Byte) : State :=
  match w, s.bench.writeLatches.get w with
  | .flags, _ => s
  | w, none => s.setWriteLatch w (some ⟨h, b⟩)
  | w, some l =>
    if l.half = h then s.setWriteLatch w (some ⟨h, b⟩)
    else (s.setWriteLatch w none).writeEffect w (joinHalves h b l.byte)

/-- A byte access; it exists in 8-bit mode alone (R178): in 16-bit mode every access is a whole word, and this row has no
effect (notes/assumptions/19.md). -/
def State.byteAccess (s : State) (a : ByteAccess) : State :=
  if s.bench.width16 then s
  else
    match a.op with
    | .read => s.readHalf a.window a.half
    | .write b => s.writeHalf a.window a.half b

end Sys2Proof.Machine
end

