-- ==== Sys2Proof/Machine/Commands.lean ====
section
/-! DEFINITION. The meanings of the bench command rows of the table (R179, R196). -/

namespace Sys2Proof.Machine

/-- START (R12). -/
def execStart (nest : Byte) (s : State) : Host.Outcome State Fault Refusal :=
  .next (s.commandRow 0x01 (benchRequest (startRequest nest)))

/-- RETEST (R21). -/
def execRetest (nest : Byte) (s : State) : Host.Outcome State Fault Refusal :=
  .next (s.commandRow 0x03 (benchRequest (retestRequest nest)))

/-- FILE (R17). -/
def execFile (nest : Byte) (s : State) : Host.Outcome State Fault Refusal :=
  .next (s.commandRow 0x04 (benchRequest (fileRequest nest)))

/-- QUARANTINE (R18). -/
def execQuarantine (nest : Byte) (s : State) : Host.Outcome State Fault Refusal :=
  .next (s.commandRow 0x05 (benchRequest (quarantineRequest nest)))

/-- CLEAR_FAULTS (R176). -/
def execClearFaults (nest : Byte) (s : State) : Host.Outcome State Fault Refusal :=
  .next (s.commandRow 0x06 (clearFaultsCommand nest))

/-- READ_DOSSIER (R183). -/
def execReadDossier (nest : Byte) (s : State) : Host.Outcome State Fault Refusal :=
  .next (s.commandRow 0x07 (readDossierCommand nest))

/-- READ_TEMP (R54). -/
def execReadTemp (nest : Byte) (s : State) : Host.Outcome State Fault Refusal :=
  .next (s.commandRow 0x08 (readTempCommand nest))

/-- ZERO (R166). -/
def execZero (nest : Byte) (target length : Word) (s : State) : Host.Outcome State Fault Refusal :=
  .next (s.benchRow fun s => s.takeZero nest target length)

/-- LOAD_PLAN (R44). -/
def execLoadPlan (variant : Byte) (length : Word) (s : State) : Host.Outcome State Fault Refusal :=
  .next (s.commandRow 0x10 (loadPlanCommand variant length))

/-- CLEAR_PLAN (R45). -/
def execClearPlan (variant : Byte) (s : State) : Host.Outcome State Fault Refusal :=
  .next (s.commandRow 0x11 (clearPlanCommand variant))

/-- READ_PLAN (R46). -/
def execReadPlan (variant : Byte) (s : State) : Host.Outcome State Fault Refusal :=
  .next (s.commandRow 0x12 (readPlanCommand variant))

/-- PIN (R121). -/
def execPin (slot : Byte) (s : State) : Host.Outcome State Fault Refusal :=
  .next (s.commandRow 0x18 (pinCommand slot))

/-- UNPIN (R122). -/
def execUnpin (slot : Byte) (s : State) : Host.Outcome State Fault Refusal :=
  .next (s.commandRow 0x19 (unpinCommand slot))

/-- VIEW_SLOT (R123). -/
def execViewSlot (slot : Byte) (s : State) : Host.Outcome State Fault Refusal :=
  .next (s.commandRow 0x1A (viewSlotCommand slot))

/-- READ_REPORT (R159). -/
def execReadReport (position : Byte) (s : State) : Host.Outcome State Fault Refusal :=
  .next (s.commandRow 0x20 (readReportCommand position))

/-- SET_REPORT_BASE (R160). -/
def execSetReportBase (number : Word) (s : State) : Host.Outcome State Fault Refusal :=
  .next (s.commandRow 0x21 (setReportBaseCommand number))

/-- SET_STATION (R161). -/
def execSetStation (number : Byte) (s : State) : Host.Outcome State Fault Refusal :=
  .next (s.commandRow 0x22 (setStationCommand number))

/-- SET_CLOCK (R162). -/
def execSetClock (high low : Word) (s : State) : Host.Outcome State Fault Refusal :=
  .next (s.commandRow 0x23 (setClockCommand high low))

/-- READ_ATTENTION (R182). -/
def execReadAttention (s : State) : Host.Outcome State Fault Refusal :=
  .next (s.commandRow 0x28 readAttentionCommand)

/-- ENABLE_ATTENTION (R182). -/
def execEnableAttention (mask : Word) (s : State) : Host.Outcome State Fault Refusal :=
  .next (s.commandRow 0x29 (enableAttentionCommand mask))

/-- READ_STATION (R183). -/
def execReadStation (s : State) : Host.Outcome State Fault Refusal :=
  .next (s.commandRow 0x2A readStationCommand)

end Sys2Proof.Machine
end

