-- ==== Sys2Proof/Machine/DriveEvents.lean ====
section
/-! DEFINITION. The meanings of the drive rows of the table: updates, encoder changes, mark edges, index pulses. -/

namespace Sys2Proof.Machine

/-- DRIVE_UPDATE (R60). -/
def execDriveUpdate (input : UpdateInput) (s : State) : Host.Outcome State Fault Refusal :=
  .next (s.driveUpdate input)

/-- CONTROLLED_STOP_COMPLETE (R63). The row is named after one outcome; it stands for the whole event
(notes/assumptions/4.md). -/
def execControlledStopComplete (input : UpdateInput) (s : State) : Host.Outcome State Fault Refusal :=
  .next (s.driveUpdate input)

/-- PERMIT_WAIT_EXPIRY (R69). The row is named after one outcome; it stands for the whole event (notes/assumptions/4.md). -/
def execPermitWaitExpiry (input : UpdateInput) (s : State) : Host.Outcome State Fault Refusal :=
  .next (s.driveUpdate input)

/-- ENGAGE_SUCCESS (R71). The row is named after one outcome; it stands for the whole event (notes/assumptions/4.md). -/
def execEngageSuccess (input : UpdateInput) (s : State) : Host.Outcome State Fault Refusal :=
  .next (s.driveUpdate input)

/-- JAM_ABANDON (R72). The row is named after one outcome; it stands for the whole event (notes/assumptions/4.md). -/
def execJamAbandon (input : UpdateInput) (s : State) : Host.Outcome State Fault Refusal :=
  .next (s.driveUpdate input)

/-- ENGAGE_ATTEMPT_TIMEOUT (R72). The row is named after one outcome; it stands for the whole event (notes/assumptions/4.md).
-/
def execEngageAttemptTimeout (input : UpdateInput) (s : State) : Host.Outcome State Fault Refusal :=
  .next (s.driveUpdate input)

/-- REF_TORQUE_TRIP (R74). The row is named after one outcome; it stands for the whole event (notes/assumptions/4.md). -/
def execRefTorqueTrip (input : UpdateInput) (s : State) : Host.Outcome State Fault Refusal :=
  .next (s.driveUpdate input)

/-- REF_SEARCH_LIMIT (R74). The row is named after one outcome; it stands for the whole event (notes/assumptions/4.md). -/
def execRefSearchLimit (input : EncoderInput) (s : State) : Host.Outcome State Fault Refusal :=
  .next (s.encoderChange input)

/-- REF_REVERSE_LIMIT (R76). The row is named after one outcome; it stands for the whole event (notes/assumptions/4.md). -/
def execRefReverseLimit (input : EncoderInput) (s : State) : Host.Outcome State Fault Refusal :=
  .next (s.encoderChange input)

/-- REF_CREEP_LIMIT (R77). The row is named after one outcome; it stands for the whole event (notes/assumptions/4.md). -/
def execRefCreepLimit (input : EncoderInput) (s : State) : Host.Outcome State Fault Refusal :=
  .next (s.encoderChange input)

/-- TORQUE_TRIP (R92). The row is named after one outcome; it stands for the whole event (notes/assumptions/4.md). -/
def execTorqueTrip (input : UpdateInput) (s : State) : Host.Outcome State Fault Refusal :=
  .next (s.driveUpdate input)

/-- RAMP_END (R83). The row is named after one outcome; it stands for the whole event (notes/assumptions/4.md). -/
def execRampEnd (input : UpdateInput) (s : State) : Host.Outcome State Fault Refusal :=
  .next (s.driveUpdate input)

/-- HOLD_LIMIT (R85). The row is named after one outcome; it stands for the whole event (notes/assumptions/4.md). -/
def execHoldLimit (input : UpdateInput) (s : State) : Host.Outcome State Fault Refusal :=
  .next (s.driveUpdate input)

/-- DWELL_END (R86). The row is named after one outcome; it stands for the whole event (notes/assumptions/4.md). -/
def execDwellEnd (input : UpdateInput) (s : State) : Host.Outcome State Fault Refusal :=
  .next (s.driveUpdate input)

/-- ENCODER_CHANGE (R67). -/
def execEncoderChange (input : EncoderInput) (s : State) : Host.Outcome State Fault Refusal :=
  .next (s.encoderChange input)

/-- MARK_EDGE (R75). -/
def execMarkEdge (nest : Nest) (s : State) : Host.Outcome State Fault Refusal :=
  .next (s.markEdge nest)

/-- INDEX_PULSE (R77). -/
def execIndexPulse (nest : Nest) (s : State) : Host.Outcome State Fault Refusal :=
  .next (s.indexPulse nest)

end Sys2Proof.Machine
end

