-- ==== Sys2Proof/Machine/Events.lean ====
section
/-! DEFINITION. The meanings of the other event rows of the table: samples, inputs, clock, permit, job completion, reset. -/

namespace Sys2Proof.Machine

/-- RESET (R2): the straps and inputs are read, every block takes its reset value. -/
def execReset (pins : ResetPins) (s : State) : Host.Outcome State Fault Refusal :=
  .next (s.resetWith pins)

/-- ZERO_COMPLETE (R167): the raw sample that completes a ZERO. The row is named after one outcome; it stands for the whole
event (notes/assumptions/4.md). -/
def execZeroComplete (sample : ZeroSample) (s : State) : Host.Outcome State Fault Refusal :=
  match sample with
  | .torque u => .next (s.driveUpdate u)
  | .pressure p => .next (s.pressureSample p)

/-- PRESSURE_SAMPLE (R100). -/
def execPressureSample (input : PressureInput) (s : State) : Host.Outcome State Fault Refusal :=
  .next (s.pressureSample input)

/-- AIR_WAIT_LIMIT (R109). The row is named after one outcome; it stands for the whole event (notes/assumptions/4.md). -/
def execAirWaitLimit (input : PressureInput) (s : State) : Host.Outcome State Fault Refusal :=
  .next (s.pressureSample input)

/-- FILL_TIMEOUT (R110). The row is named after one outcome; it stands for the whole event (notes/assumptions/4.md). -/
def execFillTimeout (input : PressureInput) (s : State) : Host.Outcome State Fault Refusal :=
  .next (s.pressureSample input)

/-- SETTLE_END (R111). The row is named after one outcome; it stands for the whole event (notes/assumptions/4.md). -/
def execSettleEnd (input : PressureInput) (s : State) : Host.Outcome State Fault Refusal :=
  .next (s.pressureSample input)

/-- MEASURE_END (R112). The row is named after one outcome; it stands for the whole event (notes/assumptions/4.md). -/
def execMeasureEnd (input : PressureInput) (s : State) : Host.Outcome State Fault Refusal :=
  .next (s.pressureSample input)

/-- VENT_LIMIT (R114). The row is named after one outcome; it stands for the whole event (notes/assumptions/4.md). -/
def execVentLimit (input : PressureInput) (s : State) : Host.Outcome State Fault Refusal :=
  .next (s.pressureSample input)

/-- SUPPLY_SAMPLE (R104). -/
def execSupplySample (pressure : Int) (s : State) : Host.Outcome State Fault Refusal :=
  .next (s.supplySample pressure)

/-- TEMP_SAMPLE (R49). -/
def execTempSample (nest : Nest) (input : Int) (s : State) : Host.Outcome State Fault Refusal :=
  .next (s.tempSample nest input)

/-- CLOCK_TICK (R162). -/
def execClockTick (s : State) : Host.Outcome State Fault Refusal :=
  .next (s.clockTick)

/-- PERMIT_EXPIRY (R173). -/
def execPermitExpiry (s : State) : Host.Outcome State Fault Refusal :=
  .next (s.permitExpiry)

/-- ESTOP_ACTIVATE (R168). -/
def execEstopActivate (s : State) : Host.Outcome State Fault Refusal :=
  .next (s.estopActivate)

/-- ESTOP_CLEAR (R169). -/
def execEstopClear (s : State) : Host.Outcome State Fault Refusal :=
  .next (s.estopClear)

/-- GUARD_OPEN (R170). -/
def execGuardOpen (nest : Nest) (s : State) : Host.Outcome State Fault Refusal :=
  .next (s.guardOpened nest)

/-- GUARD_CLOSE (R170). -/
def execGuardClose (nest : Nest) (s : State) : Host.Outcome State Fault Refusal :=
  .next (s.guardClosed nest)

/-- DRIVE_FAULT_ACTIVATE (R171). -/
def execDriveFaultActivate (nest : Nest) (s : State) : Host.Outcome State Fault Refusal :=
  .next (s.driveFaultActivate nest)

/-- DRIVE_FAULT_CLEAR (R171). -/
def execDriveFaultClear (nest : Nest) (s : State) : Host.Outcome State Fault Refusal :=
  .next (s.setDriveFault nest false)

/-- JOB_COMPLETE (R138). -/
def execJobComplete (s : State) : Host.Outcome State Fault Refusal :=
  .next (s.jobComplete)

/-- VIBRATION_CONVERSION (R124). -/
def execVibrationConversion (nest : Nest) (input : Int) (s : State) : Host.Outcome State Fault Refusal :=
  .next (s.vibrationConversion nest input)

end Sys2Proof.Machine
end

