-- ==== Sys2Proof/Machine/Ports.lean ====
section
/-! DEFINITION. The meanings of the window rows of the table (R177 to R180). -/

namespace Sys2Proof.Machine

/-- The window of a read-only window. -/
def readOnly : ReadOnlyWindow → Window
  | .reply => .reply
  | .flags => .flags

/-- UNKNOWN_COMMAND (R179): a first command word whose code is not in the table. The row is named after one outcome; it stands
for the whole event (notes/assumptions/4.md). -/
def execUnknownCommand (word : Word) (s : State) : Host.Outcome State Fault Refusal :=
  .next (s.wordRow word)

/-- COMMAND_WORD_COLLECT (R179): a word joins the command in collection, or completes it. The row is named after one outcome;
it stands for the whole event (notes/assumptions/4.md). -/
def execCommandWordCollect (word : Word) (s : State) : Host.Outcome State Fault Refusal :=
  .next (s.wordRow word)

/-- COMMAND_WORD_OVERRUN (R179): a word written while a command is held. The row is named after one outcome; it stands for the
whole event (notes/assumptions/4.md). -/
def execCommandWordOverrun (word : Word) (s : State) : Host.Outcome State Fault Refusal :=
  .next (s.wordRow word)

/-- REPLY_WINDOW_READ (R179). -/
def execReplyWindowRead (s : State) : Host.Outcome State Fault Refusal :=
  .next (s.readWindow .reply)

/-- DATA_WINDOW_READ (R180). -/
def execDataWindowRead (s : State) : Host.Outcome State Fault Refusal :=
  .next (s.readWindow .data)

/-- DATA_WINDOW_WRITE (R180). -/
def execDataWindowWrite (word : Word) (s : State) : Host.Outcome State Fault Refusal :=
  .next (s.writeWindow .data word)

/-- POINTER_WINDOW_WRITE (R180). -/
def execPointerWindowWrite (word : Word) (s : State) : Host.Outcome State Fault Refusal :=
  .next (s.writeWindow .pointer word)

/-- BYTE_HALF_ACCESS (R178). -/
def execByteHalfAccess (access : ByteAccess) (s : State) : Host.Outcome State Fault Refusal :=
  .next (s.byteAccess access)

/-- REGISTER_WRITE (R177): the reply and the flags window ignore a write. -/
def execRegisterWrite (window : ReadOnlyWindow) (word : Word) (s : State) : Host.Outcome State Fault Refusal :=
  .next (s.writeWindow (readOnly window) word)

end Sys2Proof.Machine
end

