-- ==== Sys2Proof/Machine/Link.lean ====
section
/-! DEFINITION. The serial links (Chapter 11): the CRC, the frame, the receiver, the requests of each link and the pending
request with its reply. -/

namespace Sys2Proof.Machine

/-! ### Frames (R185, R189) -/

/-- One data bit into the CRC register (R185). -/
def crcBit (r : BitVec 16) (b : Bool) : BitVec 16 := if r.msb != b then (r <<< 1) ^^^ 0x1021 else r <<< 1

/-- One byte into the CRC register, most significant bit first (R185). -/
def crcByte (r : BitVec 16) (b : Byte) : BitVec 16 := [7, 6, 5, 4, 3, 2, 1, 0].foldl (fun r i => crcBit r (b.getLsbD i)) r

/-- The CRC of a list of bytes (R185). -/
def crc (bytes : List Byte) : BitVec 16 := bytes.foldl crcByte 0xFFFF

/-- The bytes that the CRC of a frame is formed over: length, kind, payload (R185, R189). -/
def frameBody (kind : Byte) (payload : List Byte) : List Byte := natBytes16 (payload.length + 1) ++ kind :: payload

/-- A link frame (R189). -/
def frameBytes (kind : Byte) (payload : List Byte) : List Byte :=
  0x01 :: frameBody kind payload ++ bytes16 (crc (frameBody kind payload)) ++ [0x04]

/-! ### Requests (R186, R187, R190) -/

/-- A dossier request as a link request: its reply carries the code alone (R190). -/
def linkRequest (eff : State → State × ReplyCode) (s : State) : State × ReplyCode × List Byte :=
  let r := eff s
  (r.1, r.2, [])

/-- A request answered with a code alone that changes no state (R186). -/
def refuseRequest (reply : ReplyCode) (s : State) : State × ReplyCode × List Byte := (s, reply, [])

/-- PERMIT (R172). -/
def permitRequest (s : State) : State × ReplyCode × List Byte := (s.permit, .accepted, [])

/-- The request of a cell link frame (R187, R190). -/
def cellRequest (kind : Byte) (payload : List Byte) : State → State × ReplyCode × List Byte :=
  match kind.toNat, payload with
  | 0x10, nest :: variant :: serial => linkRequest (arriveRequest nest variant serial)
  | 0x11, [nest] => linkRequest (clampedRequest nest)
  | 0x12, [nest] => linkRequest (releaseRequest nest)
  | 0x13, [nest] => linkRequest (abortRequest nest)
  | 0x14, [] => permitRequest
  | 0x15, [nest] => askRequest nest
  | _, _ => refuseRequest (if kind ∈ linkKinds .cell then .badLength else .unknownKind)

/-- The request of a plant link frame (R156 to R158, R190). -/
def plantRequest (kind : Byte) (payload : List Byte) : State → State × ReplyCode × List Byte :=
  match kind.toNat, payload with
  | 0x20, [] => fetchRequest
  | 0x21, [high, low] => takeRequest (high ++ low)
  | 0x22, [] => countRequest
  | _, _ => refuseRequest (if kind ∈ linkKinds .plant then .badLength else .unknownKind)

/-- The request of a frame on a link. -/
def requestOf (link : Link) (kind : Byte) (payload : List Byte) : State → State × ReplyCode × List Byte :=
  match link with
  | .cell => cellRequest kind payload
  | .plant => plantRequest kind payload

/-- The kind of the reply to a kind (R186). -/
def replyKind (kind : Byte) : Byte := kind + 0x80

/-- The owning block takes a request, and the link holds it with the reply frame that is being transmitted (R186). -/
def State.takeRequest (s : State) (link : Link) (kind : Byte) (payload : List Byte)
    (eff : State → State × ReplyCode × List Byte) : State :=
  let r := eff s
  r.1.modLink link fun l =>
    { l with request := some ⟨kind, payload, frameBytes (replyKind kind) (r.2.1.code :: r.2.2)⟩ }

/-- Return a receiver to hunting (R184). -/
def State.hunt (s : State) (link : Link) : State := s.modLink link fun l => { l with receiver := .hunting }

/-- A frame completes: the receiver hunts; while a request is pending the frame is discarded, else it becomes the pending
request (R184, R186). -/
def State.frameComplete (s : State) (link : Link) (kind : Byte) (payload : List Byte)
    (eff : State → State × ReplyCode × List Byte) : State :=
  let s := s.hunt link
  if (s.link link).request.isSome then s else s.takeRequest link kind payload eff

/-- A row of the table that is a link request, or a frame of another outcome, stands for the whole frame (notes/assumptions/5.md);
a payload beyond the length field is discarded (R184, notes/assumptions/30.md). DESIGN CHOICE (notes/assumptions/5.md), unsafe: a row
that comes while another frame is in progress on its link drops that frame's bytes and is taken whole (R184 is silent). -/
def State.frameRow (s : State) (link : Link) (kind : Byte) (payload : List Byte)
    (eff : State → State × ReplyCode × List Byte) : State :=
  if payload.length ≤ maxPayload then s.frameComplete link kind payload eff else s.hunt link

/-! ### The receiver (R184) -/

/-- The length field of the frame in progress. -/
def frameLength (bytes : List Byte) : Nat := (bytes.getD 0 0).toNat * 256 + (bytes.getD 1 0).toNat

/-- The end byte of a frame in progress is in: `bytes` are all bytes after the SOH. -/
def State.frameEnd (s : State) (link : Link) (bytes : List Byte) : State :=
  let l := frameLength bytes
  let body := bytes.take (l + 2)
  if (bytes.drop (l + 2)) = bytes16 (crc body) ++ [0x04] then
    let kind := body.getD 2 0
    let payload := body.drop 3
    s.frameComplete link kind payload (requestOf link kind payload)
  else s.hunt link

/-- A received byte (R184): hunting, length, body, check, end. -/
def State.receive (s : State) (link : Link) (b : Byte) : State :=
  let keep (bytes : List Byte) : State := s.modLink link fun l => { l with receiver := .inFrame bytes }
  match (s.link link).receiver with
  | .hunting => if b = 0x01 then keep [] else s
  | .inFrame bytes =>
    let bytes := bytes ++ [b]
    if bytes.length < 2 then keep bytes
    else if frameLength bytes < 1 ∨ 1025 < frameLength bytes then s.hunt link
    else if bytes.length < frameLength bytes + 5 then keep bytes
    else s.frameEnd link bytes

/-- A byte or a missing stop bit that reveals a discard (R184); a byte is taken as the receiver takes it. DESIGN CHOICE
(notes/assumptions/39.md), unsafe: a byte with a missing stop bit that a hunting receiver gets is ignored, an SOH too. -/
def State.frameDiscard (s : State) (link : Link) : DiscardCause → State
  | .byte b => s.receive link b
  | .missingStopBit => s.hunt link

/-- The EOT of the reply has been transmitted: the request is no longer pending (R186). -/
def State.replyTransmitted (s : State) (link : Link) : State := s.modLink link fun l => { l with request := none }

end Sys2Proof.Machine
end

