-- ==== Sys2Proof/Machine/Requests.lean ====
section
/-! DEFINITION. The meanings of the link rows of the table: requests, frames, received bytes (R184 to R187). -/

namespace Sys2Proof.Machine

/-- ARRIVE (R9). -/
def execArrive (nest variant : Byte) (serial : List Byte) (s : State) : Host.Outcome State Fault Refusal :=
  .next (s.frameRow .cell 0x10 (nest :: variant :: serial) (linkRequest (arriveRequest nest variant serial)))

/-- CLAMPED (R10). -/
def execClamped (nest : Byte) (s : State) : Host.Outcome State Fault Refusal :=
  .next (s.frameRow .cell 0x11 [nest] (linkRequest (clampedRequest nest)))

/-- RELEASE (R15). -/
def execRelease (nest : Byte) (s : State) : Host.Outcome State Fault Refusal :=
  .next (s.frameRow .cell 0x12 [nest] (linkRequest (releaseRequest nest)))

/-- ABORT (R14). -/
def execAbort (port : AbortPort) (nest : Byte) (s : State) : Host.Outcome State Fault Refusal :=
  match port with
  | .cellLink => .next (s.frameRow .cell 0x13 [nest] (linkRequest (abortRequest nest)))
  | .benchPort => .next (s.commandRow 0x02 (benchRequest (abortRequest nest)))

/-- PERMIT (R172). -/
def execPermit (s : State) : Host.Outcome State Fault Refusal :=
  .next (s.frameRow .cell 0x14 [] permitRequest)

/-- ASK (R187). -/
def execAsk (nest : Byte) (s : State) : Host.Outcome State Fault Refusal :=
  .next (s.frameRow .cell 0x15 [nest] (askRequest nest))

/-- FETCH (R156). -/
def execFetch (s : State) : Host.Outcome State Fault Refusal :=
  .next (s.frameRow .plant 0x20 [] fetchRequest)

/-- TAKE (R157). -/
def execTake (number : Word) (s : State) : Host.Outcome State Fault Refusal :=
  .next (s.frameRow .plant 0x21 (bytes16 number) (takeRequest number))

/-- COUNT (R158). -/
def execCount (s : State) : Host.Outcome State Fault Refusal :=
  .next (s.frameRow .plant 0x22 [] countRequest)

/-- UNKNOWN_KIND (R186): answered UNKNOWN_KIND when the kind is not one of the link. The row is named after one outcome; it
stands for the whole event (notes/assumptions/4.md). -/
def execUnknownKind (link : Link) (kind : Byte) (payload : List Byte) (s : State) : Host.Outcome State Fault Refusal :=
  .next (s.frameRow link kind payload (requestOf link kind payload))

/-- FRAME_DISCARDED (R184): the receiver returns to hunting, no reply. The row is named after one outcome; it stands for the
whole event (notes/assumptions/4.md). -/
def execFrameDiscarded (link : Link) (cause : DiscardCause) (s : State) : Host.Outcome State Fault Refusal :=
  .next (s.frameDiscard link cause)

/-- FRAME_GAP_TIMEOUT (R184): a gap of more than 20 ms discards the frame in progress. -/
def execFrameGapTimeout (link : Link) (s : State) : Host.Outcome State Fault Refusal :=
  .next (s.hunt link)

/-- FRAME_WHILE_PENDING (R186): the frame is discarded without reply. The row is named after one outcome; it stands for the
whole event (notes/assumptions/4.md). -/
def execFrameWhilePending (link : Link) (kind : Byte) (payload : List Byte) (s : State) : Host.Outcome State Fault Refusal :=
  .next (s.frameRow link kind payload (requestOf link kind payload))

/-- REPLY_TRANSMITTED (R186): the link holds no request any more. -/
def execReplyTransmitted (link : Link) (s : State) : Host.Outcome State Fault Refusal :=
  .next (s.replyTransmitted link)

/-- RECEIVED_BYTE (R184): the receiver takes a byte. -/
def execReceivedByte (link : Link) (byte : Byte) (s : State) : Host.Outcome State Fault Refusal :=
  .next (s.receive link byte)

end Sys2Proof.Machine
end

