-- ==== Sys2Proof/Machine/Dispatch.lean ====
section
/-! DEFINITION. The dispatch: one arm per row of the table, each one call of the row's meaning. -/

namespace Sys2Proof.Machine

def exec (i : Instr) (s : State) : Host.Outcome State Fault Refusal :=
  match i with
  | .reset pins => Sys2Proof.Machine.execReset pins s
  | .arrive nest variant serial => Sys2Proof.Machine.execArrive nest variant serial s
  | .clamped nest => Sys2Proof.Machine.execClamped nest s
  | .release nest => Sys2Proof.Machine.execRelease nest s
  | .abort port nest => Sys2Proof.Machine.execAbort port nest s
  | .permit => Sys2Proof.Machine.execPermit s
  | .ask nest => Sys2Proof.Machine.execAsk nest s
  | .fetch => Sys2Proof.Machine.execFetch s
  | .take number => Sys2Proof.Machine.execTake number s
  | .count => Sys2Proof.Machine.execCount s
  | .unknownKind link kind payload => Sys2Proof.Machine.execUnknownKind link kind payload s
  | .frameDiscarded link cause => Sys2Proof.Machine.execFrameDiscarded link cause s
  | .frameGapTimeout link => Sys2Proof.Machine.execFrameGapTimeout link s
  | .frameWhilePending link kind payload => Sys2Proof.Machine.execFrameWhilePending link kind payload s
  | .replyTransmitted link => Sys2Proof.Machine.execReplyTransmitted link s
  | .start nest => Sys2Proof.Machine.execStart nest s
  | .retest nest => Sys2Proof.Machine.execRetest nest s
  | .file nest => Sys2Proof.Machine.execFile nest s
  | .quarantine nest => Sys2Proof.Machine.execQuarantine nest s
  | .clearFaults nest => Sys2Proof.Machine.execClearFaults nest s
  | .readDossier nest => Sys2Proof.Machine.execReadDossier nest s
  | .readTemp nest => Sys2Proof.Machine.execReadTemp nest s
  | .zero nest target length => Sys2Proof.Machine.execZero nest target length s
  | .zeroComplete sample => Sys2Proof.Machine.execZeroComplete sample s
  | .loadPlan variant length => Sys2Proof.Machine.execLoadPlan variant length s
  | .clearPlan variant => Sys2Proof.Machine.execClearPlan variant s
  | .readPlan variant => Sys2Proof.Machine.execReadPlan variant s
  | .pin slot => Sys2Proof.Machine.execPin slot s
  | .unpin slot => Sys2Proof.Machine.execUnpin slot s
  | .viewSlot slot => Sys2Proof.Machine.execViewSlot slot s
  | .readReport position => Sys2Proof.Machine.execReadReport position s
  | .setReportBase number => Sys2Proof.Machine.execSetReportBase number s
  | .setStation number => Sys2Proof.Machine.execSetStation number s
  | .setClock high low => Sys2Proof.Machine.execSetClock high low s
  | .readAttention => Sys2Proof.Machine.execReadAttention s
  | .enableAttention mask => Sys2Proof.Machine.execEnableAttention mask s
  | .readStation => Sys2Proof.Machine.execReadStation s
  | .unknownCommand word => Sys2Proof.Machine.execUnknownCommand word s
  | .commandWordCollect word => Sys2Proof.Machine.execCommandWordCollect word s
  | .commandWordOverrun word => Sys2Proof.Machine.execCommandWordOverrun word s
  | .replyWindowRead => Sys2Proof.Machine.execReplyWindowRead s
  | .dataWindowRead => Sys2Proof.Machine.execDataWindowRead s
  | .dataWindowWrite word => Sys2Proof.Machine.execDataWindowWrite word s
  | .pointerWindowWrite word => Sys2Proof.Machine.execPointerWindowWrite word s
  | .byteHalfAccess access => Sys2Proof.Machine.execByteHalfAccess access s
  | .registerWrite window word => Sys2Proof.Machine.execRegisterWrite window word s
  | .driveUpdate input => Sys2Proof.Machine.execDriveUpdate input s
  | .controlledStopComplete input => Sys2Proof.Machine.execControlledStopComplete input s
  | .permitWaitExpiry input => Sys2Proof.Machine.execPermitWaitExpiry input s
  | .engageSuccess input => Sys2Proof.Machine.execEngageSuccess input s
  | .jamAbandon input => Sys2Proof.Machine.execJamAbandon input s
  | .engageAttemptTimeout input => Sys2Proof.Machine.execEngageAttemptTimeout input s
  | .refTorqueTrip input => Sys2Proof.Machine.execRefTorqueTrip input s
  | .refSearchLimit input => Sys2Proof.Machine.execRefSearchLimit input s
  | .refReverseLimit input => Sys2Proof.Machine.execRefReverseLimit input s
  | .refCreepLimit input => Sys2Proof.Machine.execRefCreepLimit input s
  | .torqueTrip input => Sys2Proof.Machine.execTorqueTrip input s
  | .rampEnd input => Sys2Proof.Machine.execRampEnd input s
  | .holdLimit input => Sys2Proof.Machine.execHoldLimit input s
  | .dwellEnd input => Sys2Proof.Machine.execDwellEnd input s
  | .encoderChange input => Sys2Proof.Machine.execEncoderChange input s
  | .markEdge nest => Sys2Proof.Machine.execMarkEdge nest s
  | .indexPulse nest => Sys2Proof.Machine.execIndexPulse nest s
  | .pressureSample input => Sys2Proof.Machine.execPressureSample input s
  | .airWaitLimit input => Sys2Proof.Machine.execAirWaitLimit input s
  | .fillTimeout input => Sys2Proof.Machine.execFillTimeout input s
  | .settleEnd input => Sys2Proof.Machine.execSettleEnd input s
  | .measureEnd input => Sys2Proof.Machine.execMeasureEnd input s
  | .ventLimit input => Sys2Proof.Machine.execVentLimit input s
  | .supplySample pressure => Sys2Proof.Machine.execSupplySample pressure s
  | .tempSample nest input => Sys2Proof.Machine.execTempSample nest input s
  | .clockTick => Sys2Proof.Machine.execClockTick s
  | .permitExpiry => Sys2Proof.Machine.execPermitExpiry s
  | .estopActivate => Sys2Proof.Machine.execEstopActivate s
  | .estopClear => Sys2Proof.Machine.execEstopClear s
  | .guardOpen nest => Sys2Proof.Machine.execGuardOpen nest s
  | .guardClose nest => Sys2Proof.Machine.execGuardClose nest s
  | .driveFaultActivate nest => Sys2Proof.Machine.execDriveFaultActivate nest s
  | .driveFaultClear nest => Sys2Proof.Machine.execDriveFaultClear nest s
  | .jobComplete => Sys2Proof.Machine.execJobComplete s
  | .receivedByte link byte => Sys2Proof.Machine.execReceivedByte link byte s
  | .vibrationConversion nest input => Sys2Proof.Machine.execVibrationConversion nest input s

end Sys2Proof.Machine
end

