-- ==== Sys2Proof/Machine/Step.lean ====
section
/-! DEFINITION. The step: the command at the front of the queue, or one millisecond of the permit timer when none waits. -/

namespace Sys2Proof.Machine

/-- A step with no command waiting. DESIGN CHOICE (notes/assumptions/6.md), unsafe: one millisecond passes, which only the permit
timer sees (R172); the timer's last millisecond is its expiry. -/
def State.idleTick (s : State) : State :=
  if s.interlock.permitLive then
    if s.interlock.permitLeft ≤ 1 then s.permitExpiry
    else s.modInterlock fun i => { i with permitLeft := i.permitLeft - 1 }
  else s

/-- One step: the command at the front of the queue is taken and acts on the machine with the queue's rest. -/
def step (s : State) : Host.Outcome State Fault Refusal :=
  match s.pending with
  | [] => .next s.idleTick
  | i :: rest => exec i { s with pending := rest }

/-- The state with the command that a word spells at the front of its queue; unchanged where the word spells none
(notes/assumptions/8.md). -/
def State.withFetchWord (s : State) (nbits w : Nat) : State :=
  match decodeTableWord nbits w with
  | some i => { s with pending := i :: s.pending }
  | none => s

end Sys2Proof.Machine
end

