-- ==== Sys2Proof/Safety.lean ====
section
/-! DEFINITION. What the claims are stated in: runs of commands, the answers a port shows, and the properties of a state that every
command keeps. -/

namespace Sys2Proof.Machine

/-- The commands of a list one after the other, stopping at the first fault or refusal. -/
def execAll : List Instr → State → Host.Outcome State Fault Refusal
  | [], s => .next s
  | c :: cs, s =>
    match exec c s with
    | .next t => execAll cs t
    | o => o

/-- No command is held, none in collection and no half of a command word latched, so that the words of a command are that command
(R178, R179). -/
def State.benchFree (s : State) : Prop :=
  s.bench.held = none ∧ s.bench.collected = [] ∧ s.bench.writeLatches.command = none

/-- No request is pending on a link and its receiver hunts, so that the bytes of a frame are that frame's request (R184, R186). -/
def State.linkFree (s : State) (l : Link) : Prop := (s.link l).request = none ∧ (s.link l).receiver = .hunting

/-- A bench port as a command leaves it that was taken and answered in one event (R179): collection and latch empty, nothing held,
the reply in place from its first word on, REPLY_READY set. -/
def Bench.answered (b : Bench) (code : Byte) (reply : ReplyCode) (extra : List Word) : Bench :=
  { b with
    collected := []
    held := none
    reply := some ⟨firstWord code reply.code :: extra, 0⟩
    replyReady := true
    writeLatches := { b.writeLatches with command := none } }

/-- A bench port that a command answered ACCEPTED has given a new output buffer (R180). -/
def Bench.filled (b : Bench) (code : Byte) (words : List Word) : Bench :=
  { b.answered code .accepted [] with output := words, pointer := 0, dataReady := true, view := none }

/-- A link as a request leaves it that was taken in a frame's last event: hunting, the request pending, its reply frame of kind
plus 0x80 under way (R186). -/
def replying (kind : Byte) (payload : List Byte) (reply : ReplyCode) (bytes : List Byte) : LinkState :=
  ⟨.hunting, some ⟨kind, payload, frameBytes (kind + 0x80) (reply.code :: bytes)⟩⟩

/-- A request refused with a code alone: its link alone changes (R186). -/
def State.requestRefused (s : State) (l : Link) (kind : Byte) (payload : List Byte) (reply : ReplyCode) : State :=
  { s with links := s.links.set l (replying kind payload reply []) }

/-- A dossier that names its variant's plan: OPEN, TESTING, STOPPING or JUDGED (R32). -/
def DossierState.live : DossierState → Bool
  | .vacant => false
  | .opened => true
  | .testing => true
  | .stopping => true
  | .judged => true
  | .filed => false

/-- Whether a nest's dossier is live and names a variant (R32). -/
def State.names (s : State) (n : Nest) (v : Fin 32) : Bool :=
  (s.dossier n).state.live && ((s.dossier n).variant == some v)

/-- The number of live dossiers that name a variant (R32). -/
def State.liveCount (s : State) (v : Fin 32) : Nat := (s.names .n0 v).toNat + (s.names .n1 v).toNat

/-- The numbers of a list of reports run up one by one to the number that the next filing takes, 65535 followed by 1 (R150). -/
def numbersRun : List Report → Nat → Prop
  | [], _ => True
  | [r], next => ∃ k, r.number = some k ∧ 1 ≤ k ∧ k ≤ 65535 ∧ next = numberAfter k
  | r :: r' :: rest, next =>
    (∃ k k', r.number = some k ∧ 1 ≤ k ∧ k ≤ 65535 ∧ r'.number = some k' ∧ k' = numberAfter k) ∧ numbersRun (r' :: rest) next

/-- The set-point of a channel is 0 whenever its enable is off (R60). -/
def State.restsWhenOff (s : State) : Prop := ∀ n, (s.channel n).enable = false → (s.channel n).setPoint = 0

/-- No set-point exceeds 3000 rpm in magnitude, and every plan's search speed lies in its range (R35, R60). -/
def State.speedBounded (s : State) : Prop :=
  (∀ n, -3000 ≤ (s.channel n).setPoint ∧ (s.channel n).setPoint ≤ 3000) ∧
    ∀ v p, (s.planEntry v).plan = some p → 30 ≤ p.searchSpeed ∧ p.searchSpeed ≤ 300

/-- In phase RAMP the step capture is NONE: a capture is requested at the dwell start alone (R82, R84). -/
def State.rampSound (s : State) : Prop :=
  ∀ n c, (s.channel n).activity = .profiling c → c.phase = .ramp → c.stepCapture = .none

/-- The report queue holds at most 16 reports whose numbers run up to the next number, which is 1 to 65535; the filing-pending
list holds each nest at most once, exactly those whose flag is set, all JUDGED, and is empty below 16 reports (R149, R150,
R154). -/
def State.queueSound (s : State) : Prop :=
  s.reports.reports.length ≤ 16 ∧ numbersRun s.reports.reports s.reports.nextNumber ∧
    1 ≤ s.reports.nextNumber ∧ s.reports.nextNumber ≤ 65535 ∧
    (s.reports.reports.length < 16 → s.reports.filingPending = []) ∧ s.reports.filingPending.Nodup ∧
    ∀ n, (n ∈ s.reports.filingPending ↔ (s.dossier n).filingPending = true) ∧
      (n ∈ s.reports.filingPending → (s.dossier n).state = .judged)

/-- The in-use count of every variant is the number of live dossiers that name it, and a live dossier names a VALID plan (R32,
R34). -/
def State.inUseSound (s : State) : Prop :=
  (∀ v, (s.planEntry v).inUse = s.liveCount v) ∧
    ∀ n, (s.dossier n).state.live = true → ∃ v p, (s.dossier n).variant = some v ∧ (s.planEntry v).plan = some p

/-- The air supply is sound (R101, R102): the grant is held by exactly the circuit in FILLING, and the waiting list holds each circuit in
WAITING_AIR once and no other. -/
def State.airSound (s : State) : Prop :=
  (∀ n c, (s.circuit n c).state = .filling ↔ s.arbiter.holder = some ⟨n, c⟩) ∧ s.arbiter.waiting.Nodup ∧
    ∀ n c, ⟨n, c⟩ ∈ s.arbiter.waiting ↔ (s.circuit n c).state = .waitingAir

/-- The stages are sound (R22, R59, R65, R106 to R108, R115): a drive stage and a LEAK stage are in progress only in a TESTING dossier
with a stage index, never both; the chamber that is to request air next is IDLE; with no LEAK stage every circuit is IDLE, unless the
dossier is STOPPING. -/
def State.stagesSound (s : State) : Prop :=
  ∀ n,
    ((s.channel n).activity ≠ .idle → (s.dossier n).state = .testing ∧ (s.dossier n).stageIndex ≠ none) ∧
    (∀ l, s.leakStage n = some l →
      (s.dossier n).state = .testing ∧ (s.dossier n).stageIndex ≠ none ∧ (s.channel n).activity = .idle ∧
        ∀ c, l.next = some c → (s.circuit n c).state = .idle) ∧
    (s.leakStage n = none → (s.dossier n).state ≠ .stopping → ∀ c, (s.circuit n c).state = .idle)

/-- The captures are sound (R84 to R87, R95, R125, R126, R130): every step of a stored plan has a dwell; a capture in progress belongs to
a step whose capture is ACTIVE, past its dwell start, its dwell count 0, with no end pending and no controlled stop in progress. -/
def State.capturesSound (s : State) : Prop :=
  (∀ v p, (s.planEntry v).plan = some p → ∀ t ∈ p.steps, 1 ≤ t.dwellUpdates) ∧
    ∀ n, s.captureUnit n ≠ .idle →
      (s.channel n).stopping = false ∧
        ∃ c, (s.channel n).activity = .profiling c ∧ c.stepCapture = .active ∧ c.phase = .dwell ∧ c.dwellCount = 0 ∧
          1 ≤ c.holdCount ∧ c.endPending = false

/-- The capture slots are sound (R119 to R123, R128, R136): the job queue holds exactly the READY slots, each once; the job in progress
has the ANALYSING slot; an idle engine has an empty queue; the FILLING slots are those of the blocks in progress; at most two slots are
PINNED or marked; a view is of a PINNED slot. -/
def State.slotsSound (s : State) : Prop :=
  (∀ i, (s.slot i).state = .ready ↔ ∃ j ∈ s.engine.queue, j.slot = i) ∧ (s.engine.queue.map Job.slot).Nodup ∧
    (∀ i, (s.slot i).state = .analysing ↔ ∃ j, s.engine.current = some j ∧ j.slot = i) ∧
    (s.engine.current = none → s.engine.queue = []) ∧
    (∀ i, (s.slot i).state = .filling ↔ ∃ n c b, s.captureUnit n = .sampling c b ∧ b.slot = i) ∧
    (∀ c c' b b', s.captureUnit .n0 = .sampling c b → s.captureUnit .n1 = .sampling c' b' → b.slot ≠ b'.slot) ∧
    s.pinnedOrMarked ≤ 2 ∧ ∀ i, s.bench.view = some i → (s.slot i).state = .pinned

/-- The fault lists are sound (R175): at most four causes, no two equal, and the more flag only beside four. -/
def State.faultsSound (s : State) : Prop :=
  ∀ n, (s.faultList n).causes.Nodup ∧ (s.faultList n).causes.length ≤ 4 ∧
    ((s.faultList n).more = true → (s.faultList n).causes.length = 4)

/-- The bytes of a frame received one by one on a link (R184, R189). -/
def receiveFrame (l : Link) (kind : Byte) (payload : List Byte) (s : State) : Host.Outcome State Fault Refusal :=
  execAll ((frameBytes kind payload).map (.receivedByte l)) s

/-- Words written one by one to the command window (R179). -/
def writeCommand (words : List Word) (s : State) : Host.Outcome State Fault Refusal :=
  execAll (words.map .commandWordCollect) s

/-- The dossier's fields as a start leaves them whose first stage is in progress (R4, R13). -/
def Dossier.startedFields (d : Dossier) (p : Plan) (cls : Nat) : Dossier :=
  { d with
    state := .testing
    stoppingCause := none
    stopped := false
    classAtStart := some cls
    stageIndex := some 0
    lastBegun := some 0
    runIn := p.freshRunIn
    leaks := p.freshLeaks
    captures := p.freshCaptures
    skipped := []
    leakScope := p.leakChambers }

/-- The channel as the beginning of an ENGAGE stage leaves it (R69): engagement NONE, the first attempt of the mask to begin at the
next update when the permit is live, else the permit wait. -/
def Channel.engageBegun (ch : Channel) (permitLive : Bool) (a : Attempt) : Channel :=
  { ch with
    engaged := false
    activity := if permitLive then .engaging ⟨a, false, 0, 0, 0, false⟩ else .permitWait 0 }

/-- The drive of a nest is at rest and its circuits are IDLE (R15 check 3). -/
def State.nestAtRest (s : State) (n : Nest) : Prop :=
  (s.channel n).enable = false ∧ (s.channel n).setPoint = 0 ∧ ∀ c, (s.circuit n c).state = .idle

/-- The waiting list holds a circuit of a nest only while that circuit is in WAITING_AIR (R102). -/
def State.listSound (s : State) (n : Nest) : Prop :=
  ∀ c, ⟨n, c⟩ ∈ s.arbiter.waiting → (s.circuit n c).state = .waitingAir

/-- What a stop leaves of a nest whose dossier was TESTING: the cause recorded, no stage, no capture, no job, circuits IDLE or
VENTING (R26, R65, R115, R139). -/
def State.stoppedBy (t : State) (n : Nest) (cause : Cause) : Prop :=
  (t.dossier n).stoppingCause = some cause ∧ (t.dossier n).stopped = true ∧ (t.dossier n).stageIndex = none ∧
    (t.channel n).activity = .idle ∧ t.captureUnit n = .idle ∧ t.leakStage n = none ∧
    (∀ c, (t.circuit n c).state = .idle ∨ (t.circuit n c).state = .venting) ∧
    (∀ j ∈ t.engine.queue, j.owner ≠ n)

/-- The condition that keeps a fault cause in its list at a CLEAR_FAULTS (R176). -/
def State.conditionStands (s : State) (n : Nest) : FaultCause → Prop
  | .sensorTemp => (s.monitor n).sensorFault = true
  | .sensorPressure => ∃ c, (s.circuit n c).latestFault = true
  | .encoderFault => False
  | .driveFault => s.interlock.driveFault.get n = true
  | .ventFail => False

/-- No ZERO and no capture of the nest is in progress, and no controlled stop of its drive (R87 step 2, R127, R167). -/
def State.quiet (s : State) (n : Nest) : Prop :=
  s.interlock.zero = none ∧ s.captureUnit n = .idle ∧ (s.channel n).stopping = false

/-- The conditioned torque of an update (R164). -/
def State.torqueAt (s : State) (u : UpdateInput) : Int := conditionTorque (s.interlock.torqueOffset.get u.nest) u.rawTorque

/-- A stage of a kind is in progress at a position of a TESTING dossier's list (R22). -/
def State.stageIs (s : State) (n : Nest) (p : Plan) (i : Nat) (st : Stage) : Prop :=
  (s.dossier n).state = .testing ∧ s.planOf n = some p ∧ (s.dossier n).stageIndex = some i ∧ p.stages[i]? = some st

/-- The profile counters told that the step's capture has ended: ACTIVE becomes ENDED (R84, R130). -/
def ProfileCounters.captureDone (c : ProfileCounters) : ProfileCounters :=
  { c with stepCapture := if c.stepCapture = .active then .ended else c.stepCapture }

/-- From `s` to `t` the run-in record of a nest is given FAIL with a cause, unless it already held FAIL, which stands (R4, R97). -/
def State.runInFailed (s t : State) (n : Nest) (cause : Cause) : Prop :=
  ∀ r, (s.dossier n).runIn = some r → ∃ r', (t.dossier n).runIn = some r' ∧
    ((r.given = none ∨ ∃ g, r.given = some g ∧ g.result ≠ .fail) → r'.given = some ⟨.fail, cause⟩) ∧
    ∀ g, r.given = some g → g.result = .fail → r'.given = some g

/-- The guard is closed, the drive-fault input inactive and the permit live: the conditions of R62 but the class (1, 2 and 4). -/
def State.enableAllowed (s : State) (n : Nest) : Prop :=
  s.interlock.guardOpen.get n = false ∧ s.interlock.driveFault.get n = false ∧ s.interlock.permitLive = true

/-- From `s` to `t` the later REFERENCE and PROFILE positions of a list are marked to be skipped (R25). -/
def State.laterSkipped (s t : State) (n : Nest) (p : Plan) (i : Nat) : Prop :=
  ∀ j, j ∈ (t.dossier n).skipped ↔
    j ∈ (s.dossier n).skipped ∨ (i < j ∧ (p.stages[j]? = some .reference ∨ p.stages[j]? = some .profile))

/-- The part of a machine that a drive event of one nest leaves alone: the other nest's dossier, channel and capture unit, all leak
circuits, the supply, the monitors, the offsets and input levels (R59). -/
def State.sameElsewhere (s t : State) (n : Nest) : Prop :=
  t.dossier n.other = s.dossier n.other ∧ t.channel n.other = s.channel n.other ∧
    t.captureUnit n.other = s.captureUnit n.other ∧ t.circuits = s.circuits ∧ t.arbiter = s.arbiter ∧
    t.monitors = s.monitors ∧ t.interlock = s.interlock

/-- From `s` to `t` a run-in failure ends the last stage of the list with the drive at rest (R62, R63, R65). -/
def State.failedAtRest (s t : State) (n : Nest) (cause : Cause) : Prop :=
  s.runInFailed t n cause ∧ (t.dossier n).stageIndex = none ∧ (t.channel n).activity = .idle ∧ (t.channel n).enable = false ∧
    (t.channel n).setPoint = 0 ∧ s.sameElsewhere t n

/-- From `s` to `t` a run-in failure of the stage at a position requests a controlled stop that moves that update's set-point 3 rpm toward
0; the stage is in progress until the enable drops, and later REFERENCE and PROFILE stages are skipped (R25, R63, R97). -/
def State.failedMoving (s t : State) (n : Nest) (p : Plan) (i : Nat) (cause : Cause) : Prop :=
  s.runInFailed t n cause ∧ s.laterSkipped t n p i ∧
    (t.channel n).setPoint = (if 0 < (s.channel n).setPoint then (s.channel n).setPoint - 3 else (s.channel n).setPoint + 3) ∧
    (t.channel n).stopping = true ∧ (t.channel n).enable = true ∧ (t.dossier n).stageIndex = some i ∧ s.sameElsewhere t n

/-- From `s` to `t` an update of the last stage of a list asks for the enable and a condition of R62 fails, the first that does acting: an
open guard stops the nest with cause GUARD; an active drive fault, a class that holds the stage (`held`) and a lapsed permit end the
stage at rest with their cause. -/
def State.enableRefused (s t : State) (n : Nest) (held : Prop) : Prop :=
  (s.interlock.guardOpen.get n = true →
    t.stoppedBy n .guard ∧ (t.channel n).enable = false ∧ (t.channel n).setPoint = 0 ∧ (t.channel n).stopping = false ∧
      t.dossier n.other = s.dossier n.other ∧ t.channel n.other = s.channel n.other ∧ t.interlock = s.interlock) ∧
    (s.interlock.guardOpen.get n = false →
      (s.interlock.driveFault.get n = true → s.failedAtRest t n .driveFault) ∧
        (s.interlock.driveFault.get n = false →
          (held → s.failedAtRest t n .overheat) ∧
            (¬ held → s.interlock.permitLive = false → s.failedAtRest t n .permitLapse)))

/-- A chamber that a LEAK stage of a TESTING dossier measures and that has no result yet; no chamber is to request air after it
(R106, R107). -/
def State.measures (s : State) (n : Nest) (c : Chamber) : Prop :=
  (s.dossier n).state = .testing ∧ (s.circuit n c).resultGiven = false ∧
    ∃ m set, s.leakStage n = some ⟨m, set, none⟩ ∧ m.has c = true

/-- The conditioned pressure of a sample (R165). -/
def State.pressureAt (s : State) (p : PressureInput) : Int :=
  conditionPressure ((s.interlock.pressureOffset.get p.nest).get p.chamber) p.raw

/-- A raw pressure that is no sensor fault (R165). -/
def pressureInRange (p : PressureInput) : Prop := -2000 ≤ p.raw ∧ p.raw ≤ 210000

/-- From `s` to `t` the pending leak record of a chamber is given a result; no other leak record changes (R108). -/
def State.leakGiven (s t : State) (n : Nest) (c : Chamber) (g : Given) : Prop :=
  (t.dossier n).leaks =
    (s.dossier n).leaks.map fun r => if r.chamber = c ∧ r.given = none then { r with given := some g } else r

/-- None of the leak records of a chamber has a result. -/
def State.leakIsPending (s : State) (n : Nest) (c : Chamber) : Prop :=
  ∀ r ∈ (s.dossier n).leaks, r.chamber = c → r.given = none

/-- From `s` to `t` a circuit has ended its measurement, its record given (R108, R112, R113): it is VENTING, or with HOLD in HOLDING while
the other chamber is measured and has no result; with the stage's last result a circuit in HOLDING is VENTING. -/
def State.measuredEnds (s t : State) (n : Nest) (c : Chamber) (after : AfterMeasure) : Prop :=
  (t.circuit n c).resultGiven = true ∧ (after = .autoVent → (t.circuit n c).state = .venting) ∧
    ∀ m ix, s.leakStage n = some ⟨m, ix, none⟩ →
      (m.has c.other = true → (s.circuit n c.other).resultGiven = false →
        (after = .hold → (t.circuit n c).state = .holding) ∧ t.circuit n c.other = s.circuit n c.other) ∧
      ((m.has c.other = false ∨ (s.circuit n c.other).resultGiven = true) →
        (t.circuit n c).state = .venting ∧
          ((s.circuit n c.other).state = .holding → (t.circuit n c.other).state = .venting))

/-- A reading lies in the band of a class (R50). -/
def inBand (reading : Int) (cls : Nat) : Prop :=
  (cls = 0 ∧ -400 ≤ reading ∧ reading ≤ 49) ∨ (cls = 1 ∧ 50 ≤ reading ∧ reading ≤ 149) ∨
    (cls = 2 ∧ 150 ≤ reading ∧ reading ≤ 249) ∨ (cls = 3 ∧ 250 ≤ reading ∧ reading ≤ 349) ∨
    (cls = 4 ∧ 350 ≤ reading ∧ reading ≤ 499) ∨ (cls = 5 ∧ 500 ≤ reading ∧ reading ≤ 649) ∨
    (cls = 6 ∧ 650 ≤ reading ∧ reading ≤ 799) ∨ (cls = 7 ∧ (800 ≤ reading ∨ reading < -400))

/-- The threshold at or below which a class moves down (R52). -/
def downThreshold (cls : Nat) : Int := [40, 140, 240, 340, 490, 640, 790].getD (cls - 1) (-10000)

end Sys2Proof.Machine
end

