-- ==== Sys2Proof/Certificates/Slice0/Obligations.lean ====
section
/-! DEFINITION. The statements for the provers. -/

open Sys2Proof Sys2Proof.Machine

/-! ### The queue and the step -/

/-- The step takes the command at the front of the queue and runs it with the queue's rest. -/
def Obligations.StepRunsFrontCommand : Prop :=
  ∀ (c : Instr) (rest : List Instr) (s : State), s.pending = c :: rest → step s = exec c { s with pending := rest }

/-- The model's choice (notes/assumptions/6.md): with no command waiting a step is one millisecond of the permit timer, and the
last millisecond is PERMIT_EXPIRY. -/
def Obligations.IdleStepCountsPermitTime : Prop :=
  ∀ s : State, s.pending = [] →
    (s.interlock.permitLive = false → step s = .next s) ∧
      (s.interlock.permitLive = true → 1 < s.interlock.permitLeft →
        step s = .next { s with interlock := { s.interlock with permitLeft := s.interlock.permitLeft - 1 } }) ∧
      (s.interlock.permitLive = true → s.interlock.permitLeft ≤ 1 → step s = exec .permitExpiry s)

/-- Every command answers a next state in every state: none faults, none is refused. Each leaves the queue of the commands that wait as
it is. Model's choices: RESET leaves them too (notes/assumptions/8.md), and commands in states that no run reaches
(notes/assumptions/24.md) and events that cannot arrive (notes/assumptions/33.md) answer a next state as well. -/
def Obligations.CommandsCompleteAndKeepQueue : Prop :=
  ∀ (c : Instr) (s : State), ∃ t, exec c s = .next t ∧ t.pending = s.pending

/-! ### Reset -/

/-- RESET: every block at its reset value, the straps and the levels of the e-stop and guard inputs as read, no byte latched, every flag
clear but ATTENTION (R2, R33, R48, R59, R98, R101, R119, R125, R135, R149, R163, R177, R184, R186). Each drive-fault input that is
active makes an activation at once: its level is active, DRIVE_FAULT stands in the nest's fault list, the nest's fault cause is pending
(R171; within the event of RESET: model's reading, notes/assumptions/26.md). The vibration values, the latest pressures and the word
last driven are the model's choice (notes/assumptions/2.md) and are not stated. -/
def Obligations.ResetGivesResetValues : Prop :=
  ∀ (pins : ResetPins) (s : State),
    ∃ t, exec (.reset pins) s = .next t ∧
      (∀ n, t.dossier n = Dossier.vacant ∧ t.leakStage n = none ∧ t.captureUnit n = .idle) ∧
      (∀ v, t.planEntry v = ⟨none, 0⟩) ∧
      (∀ n, t.monitor n = ⟨none, 7, false, false, false⟩ ∧ t.channel n = ⟨0, false, false, none, 0, .idle, false⟩) ∧
      (∀ n c, (t.circuit n c).state = .idle ∧ (t.circuit n c).leakSet = none ∧ (t.circuit n c).count = 0 ∧
        (t.circuit n c).window = [] ∧ (t.circuit n c).pStart = none ∧ (t.circuit n c).classAtStart = none ∧
        (t.circuit n c).resultGiven = false ∧ (t.circuit n c).ventReported = false) ∧
      t.arbiter = ⟨none, [], true⟩ ∧
      (∀ i, (t.slot i).state = .free ∧ (t.slot i).pinMark = false ∧ (t.slot i).descriptor = none) ∧
      t.engine = ⟨[], none, false⟩ ∧ t.reports = ⟨[], 1, [], 0, 0⟩ ∧
      t.interlock.torqueOffset = ⟨0, 0⟩ ∧ t.interlock.pressureOffset = ⟨⟨0, 0⟩, ⟨0, 0⟩⟩ ∧
      t.interlock.estop = pins.estop ∧ t.interlock.guardOpen = ⟨pins.guardOpen0, pins.guardOpen1⟩ ∧
      t.interlock.driveFault = ⟨pins.driveFault0, pins.driveFault1⟩ ∧
      t.interlock.permitLive = false ∧ t.interlock.permitLeft = 0 ∧ t.interlock.zero = none ∧
      t.bench.width16 = pins.width16 ∧ t.fastLinks = pins.fastLinks ∧
      t.bench.collected = [] ∧ t.bench.held = none ∧ t.bench.reply = none ∧ t.bench.output = [] ∧ t.bench.intake = [] ∧
      t.bench.pointer = 0 ∧ t.bench.view = none ∧ t.bench.enableMask = 0x1FF ∧
      t.bench.replyReady = false ∧ t.bench.dataReady = false ∧ t.bench.overrun = false ∧ t.bench.pastEnd = false ∧
      t.bench.readLatches = ⟨none, none, none, none⟩ ∧ t.bench.writeLatches = ⟨none, none, none, none⟩ ∧
      (∀ l, t.link l = ⟨.hunting, none⟩) ∧
      (∀ n, t.faultList n = ⟨if t.interlock.driveFault.get n then [.driveFault] else [], false⟩) ∧
      t.bench.causes =
        (if pins.driveFault0 then AttentionCause.bit (.nestFault .n0) else 0) |||
          (if pins.driveFault1 then AttentionCause.bit (.nestFault .n1) else 0) ∧
      t.bench.flagsWord = (if pins.driveFault0 || pins.driveFault1 then 0x20 else 0)

/-! ### The cell link -/

/-- ARRIVE is refused with the code of the first check of R8 that fails, in the order BAD_NEST, BAD_SERIAL, NEST_BUSY, NEST_FAULT,
NO_PLAN, DUPLICATE; one that passes every check opens the dossier, raises the in-use count of its variant and is answered ACCEPTED;
nothing else changes (R8, R9). -/
def Obligations.ArriveOpensDossier : Prop :=
  ∀ (b v : Byte) (serial : List Byte) (s : State), s.linkFree .cell → serial.length ≤ 1022 →
    (nestOf b = none → exec (.arrive b v serial) s = .next (s.requestRefused .cell 0x10 (b :: v :: serial) .badNest)) ∧
    ∀ n, nestOf b = some n →
      ((serial = [] ∨ 20 < serial.length ∨ ∃ c ∈ serial, c.toNat < 0x21 ∨ 0x7E < c.toNat) →
        exec (.arrive b v serial) s = .next (s.requestRefused .cell 0x10 (b :: v :: serial) .badSerial)) ∧
      (1 ≤ serial.length → serial.length ≤ 20 → (∀ c ∈ serial, 0x21 ≤ c.toNat ∧ c.toNat ≤ 0x7E) →
        ((s.dossier n).state ≠ .vacant →
          exec (.arrive b v serial) s = .next (s.requestRefused .cell 0x10 (b :: v :: serial) .nestBusy)) ∧
        ((s.dossier n).state = .vacant → (s.faultList n).causes ≠ [] →
          exec (.arrive b v serial) s = .next (s.requestRefused .cell 0x10 (b :: v :: serial) .nestFault)) ∧
        ((s.dossier n).state = .vacant → (s.faultList n).causes = [] →
          ((31 < v.toNat ∨ ∃ i : Fin 32, v.toNat = i.val ∧ (s.planEntry i).plan = none) →
            exec (.arrive b v serial) s = .next (s.requestRefused .cell 0x10 (b :: v :: serial) .noPlan)) ∧
          ∀ i : Fin 32, v.toNat = i.val → (s.planEntry i).plan.isSome = true →
            ((s.dossier n.other).state ≠ .vacant → (s.dossier n.other).serial = some serial →
              exec (.arrive b v serial) s = .next (s.requestRefused .cell 0x10 (b :: v :: serial) .duplicate)) ∧
            (((s.dossier n.other).state = .vacant ∨ (s.dossier n.other).serial ≠ some serial) →
              exec (.arrive b v serial) s =
                .next { s with
                  dossiers := s.dossiers.set n
                    { Dossier.vacant with
                      state := .opened
                      serial := some serial
                      variant := some i
                      retestCount := some 0
                      arrivalTime := some s.reports.clock
                      repeatFlag := s.reports.reports.any fun r => r.serial = serial }
                  plans := s.plans.set i { s.planEntry i with inUse := (s.planEntry i).inUse + 1 }
                  links := s.links.set .cell (replying 0x10 (b :: v :: serial) .accepted []) })))

/-- CLAMPED is refused BAD_NEST for a nest other than 0 and 1 and WRONG_STATE in any state but OPEN; with the flag already set it is
answered ACCEPTED and changes nothing; of an OPEN, unclamped dossier it sets the flag and is answered ACCEPTED; where the plan has
auto-start, e-stop is inactive and the fault list is empty it starts the dossier in the same event, here one whose first stage is ENGAGE
(R1, R10, R11, R13). -/
def Obligations.ClampedSetsFlagAndAutoStarts : Prop :=
  ∀ (b : Byte) (s : State), s.linkFree .cell →
    (nestOf b = none → exec (.clamped b) s = .next (s.requestRefused .cell 0x11 [b] .badNest)) ∧
    ∀ n, nestOf b = some n →
      ((s.dossier n).state ≠ .opened → exec (.clamped b) s = .next (s.requestRefused .cell 0x11 [b] .wrongState)) ∧
      ((s.dossier n).state = .opened → (s.dossier n).clamped = true →
        exec (.clamped b) s = .next { s with links := s.links.set .cell (replying 0x11 [b] .accepted []) }) ∧
      ∀ p, (s.dossier n).state = .opened → (s.dossier n).clamped = false → s.planOf n = some p →
        ((p.autoStart = false ∨ s.interlock.estop = true ∨ (s.faultList n).causes ≠ []) →
          exec (.clamped b) s =
            .next { s with
              dossiers := s.dossiers.set n { s.dossier n with clamped := true }
              links := s.links.set .cell (replying 0x11 [b] .accepted []) }) ∧
        (∀ a as rest, p.autoStart = true → s.interlock.estop = false → (s.faultList n).causes = [] →
          p.stages = .engage :: rest → attemptsOf p.attemptsMask = a :: as →
          exec (.clamped b) s =
            .next { s with
              dossiers := s.dossiers.set n
                ({ s.dossier n with clamped := true }.startedFields p (s.classOf n))
              channels := s.channels.set n ((s.channel n).engageBegun s.interlock.permitLive a)
              links := s.links.set .cell (replying 0x11 [b] .accepted []) })

/-- RELEASE is refused by the first check of R15 that fails: BAD_NEST for a nest other than 0 and 1, WRONG_STATE in VACANT, NOT_FILED in
TESTING, STOPPING and JUDGED, CHAMBERS_ACTIVE for an OPEN or FILED dossier whose drive is not at rest or whose circuits are not all
IDLE. Of a FILED dossier at rest it makes the entry VACANT; of an OPEN one with room in the queue it files a report with verdict
ABORTED and cause RELEASED_UNTESTED and makes the entry VACANT; with a full queue it is refused QUEUE_FULL (R1, R15, R16, R151). -/
def Obligations.ReleaseFreesNest : Prop :=
  ∀ (b : Byte) (s : State), s.linkFree .cell →
    (nestOf b = none → exec (.release b) s = .next (s.requestRefused .cell 0x12 [b] .badNest)) ∧
    ∀ n, nestOf b = some n →
    ((s.dossier n).state = .vacant → exec (.release b) s = .next (s.requestRefused .cell 0x12 [b] .wrongState)) ∧
    (((s.dossier n).state = .testing ∨ (s.dossier n).state = .stopping ∨ (s.dossier n).state = .judged) →
      exec (.release b) s = .next (s.requestRefused .cell 0x12 [b] .notFiled)) ∧
    (((s.dossier n).state = .opened ∨ (s.dossier n).state = .filed) → ¬ s.nestAtRest n →
      exec (.release b) s = .next (s.requestRefused .cell 0x12 [b] .chambersActive)) ∧
    ((s.dossier n).state = .filed → s.nestAtRest n →
      exec (.release b) s =
        .next { s with
          dossiers := s.dossiers.set n Dossier.vacant
          links := s.links.set .cell (replying 0x12 [b] .accepted []) }) ∧
    ((s.dossier n).state = .opened → s.nestAtRest n → s.reports.reports.length < 16 →
      ∃ t r, exec (.release b) s = .next t ∧ t.dossiers = s.dossiers.set n Dossier.vacant ∧
        t.reports.reports = s.reports.reports ++ [r] ∧ t.reports.nextNumber = numberAfter s.reports.nextNumber ∧
        r.number = some s.reports.nextNumber ∧ r.nest = n ∧ r.station = s.reports.station ∧
        r.verdict = some .aborted ∧ r.verdictCause = some .releasedUntested ∧ r.firstVerdict = some .aborted ∧
        r.judgedTime = s.reports.clock ∧ r.classAtJudgment = some (s.classOf n) ∧
        r.variant = (s.dossier n).variant ∧ r.serial = (s.dossier n).serial.getD [] ∧
        (∀ v, (s.dossier n).variant = some v → (t.planEntry v).inUse = (s.planEntry v).inUse - 1) ∧
        t.links = s.links.set .cell (replying 0x12 [b] .accepted [])) ∧
    ((s.dossier n).state = .opened → s.nestAtRest n → 16 ≤ s.reports.reports.length →
      exec (.release b) s = .next (s.requestRefused .cell 0x12 [b] .queueFull))

/-- ABORT of a TESTING dossier, from either port, stops the nest with cause ABORTED and a controlled stop of an enabled drive,
whose set-point stands; the other nest's dossier and channel are left alone (R14, R26, R63). In every other state it is refused
WRONG_STATE, and for a nest other than 0 and 1 BAD_NEST (R1). -/
def Obligations.AbortStopsTest : Prop :=
  ∀ (b : Byte) (s : State),
    (nestOf b = none →
      (s.linkFree .cell → exec (.abort .cellLink b) s = .next (s.requestRefused .cell 0x13 [b] .badNest)) ∧
      (s.benchFree → exec (.abort .benchPort b) s = .next { s with bench := s.bench.answered 0x02 .badNest [] })) ∧
    ∀ n, nestOf b = some n →
    ((s.dossier n).state = .testing → s.listSound n →
      (s.linkFree .cell → ∃ t, exec (.abort .cellLink b) s = .next t ∧ t.stoppedBy n .aborted ∧
        t.links = s.links.set .cell (replying 0x13 [b] .accepted []) ∧
        t.dossier n.other = s.dossier n.other ∧ t.channel n.other = s.channel n.other ∧
        ((s.channel n).enable = true → (t.dossier n).state = .stopping ∧ (t.channel n).stopping = true ∧
          (t.channel n).enable = true ∧ (t.channel n).setPoint = (s.channel n).setPoint)) ∧
      (s.benchFree → ∃ t, exec (.abort .benchPort b) s = .next t ∧ t.stoppedBy n .aborted ∧
        t.bench.reply = some ⟨[0x0200], 0⟩ ∧ t.bench.held = none ∧
        t.dossier n.other = s.dossier n.other ∧ t.channel n.other = s.channel n.other ∧
        ((s.channel n).enable = true → (t.dossier n).state = .stopping ∧ (t.channel n).stopping = true ∧
          (t.channel n).enable = true ∧ (t.channel n).setPoint = (s.channel n).setPoint))) ∧
    ((s.dossier n).state ≠ .testing →
      (s.linkFree .cell → exec (.abort .cellLink b) s = .next (s.requestRefused .cell 0x13 [b] .wrongState)) ∧
      (s.benchFree → exec (.abort .benchPort b) s =
        .next { s with bench := s.bench.answered 0x02 .wrongState [] }))

/-- PERMIT restarts the timer at 500 ms and makes the permit live in every state; ASK answers state, clamped flag, verdict, report
number and whether faults stand, and changes nothing else; a nest other than 0 or 1 is refused BAD_NEST (R172, R187, R190). -/
def Obligations.PermitAndAskAnswer : Prop :=
  ∀ s : State, s.linkFree .cell →
    exec .permit s =
        .next { s with
          interlock := { s.interlock with permitLive := true, permitLeft := 500 }
          links := s.links.set .cell (replying 0x14 [] .accepted []) } ∧
    (∀ b n, nestOf b = some n →
      exec (.ask b) s =
        .next { s with
          links := s.links.set .cell
            (replying 0x15 [b] .accepted
              ([BitVec.ofNat 8 (s.dossier n).state.code, if (s.dossier n).clamped then 1 else 0,
                match (s.dossier n).verdict with
                | some x => BitVec.ofNat 8 x.code
                | none => 255] ++
                bytes16 (BitVec.ofNat 16 ((s.dossier n).reportNumber.getD 0)) ++
                [if (s.faultList n).causes = [] then 0 else 1])) }) ∧
    (∀ b, nestOf b = none →
      exec (.ask b) s = .next { s with links := s.links.set .cell (replying 0x15 [b] .badNest []) })

/-! ### The plant link -/

/-- FETCH answers EMPTY on an empty queue and the oldest report whole otherwise, and changes nothing else (R156). COUNT answers
the count and the oldest report's number, 0 for none, in every state and changes nothing else (R158). TAKE answers EMPTY on an empty
queue and WRONG_REPORT for a number that is not the oldest's, changing nothing; else it removes the oldest report, files the dossier at
the head of the filing-pending list in the same event, and answers the number removed and the count after the event (R155, R157). -/
def Obligations.PlantRequestsReadAndTake : Prop :=
  ∀ s : State, s.linkFree .plant →
    (s.reports.reports = [] →
      exec .fetch s = .next { s with links := s.links.set .plant (replying 0x20 [] .empty []) }) ∧
    (∀ r rest, s.reports.reports = r :: rest →
      exec .fetch s = .next { s with links := s.links.set .plant (replying 0x20 [] .accepted r.bytes) }) ∧
    exec .count s =
      .next { s with
        links := s.links.set .plant
          (replying 0x22 [] .accepted
            (BitVec.ofNat 8 s.reports.reports.length ::
              bytes16 (BitVec.ofNat 16 ((s.reports.reports.head?.bind Report.number).getD 0)))) } ∧
    ∀ k : Word,
      (s.reports.reports = [] →
        exec (.take k) s = .next { s with links := s.links.set .plant (replying 0x21 (bytes16 k) .empty []) }) ∧
      (∀ r rest, s.reports.reports = r :: rest → r.number ≠ some k.toNat →
        exec (.take k) s =
          .next { s with links := s.links.set .plant (replying 0x21 (bytes16 k) .wrongReport []) }) ∧
      (∀ r rest, s.reports.reports = r :: rest → r.number = some k.toNat → s.reports.filingPending = [] →
        exec (.take k) s =
          .next { s with
            reports := { s.reports with reports := rest }
            links := s.links.set .plant
              (replying 0x21 (bytes16 k) .accepted (bytes16 k ++ [BitVec.ofNat 8 rest.length])) }) ∧
      (∀ r rest n more, s.reports.reports = r :: rest → r.number = some k.toNat →
        s.reports.filingPending = n :: more → n ∉ more →
        ∃ t new, exec (.take k) s = .next t ∧ t.reports.reports = rest ++ [new] ∧
          new.number = some s.reports.nextNumber ∧ new.nest = n ∧ new.station = s.reports.station ∧
          new.verdict = (s.dossier n).verdict ∧ new.quarantine = (s.dossier n).quarantine ∧
          t.reports.nextNumber = numberAfter s.reports.nextNumber ∧ t.reports.filingPending = more ∧
          t.dossiers = s.dossiers.set n
            { s.dossier n with state := .filed, reportNumber := some s.reports.nextNumber, filingPending := false } ∧
          t.links = s.links.set .plant
            (replying 0x21 (bytes16 k) .accepted (bytes16 k ++ [BitVec.ofNat 8 (rest.length + 1)])))

/-! ### Frames -/

/-- A frame of a kind that is not one of its link's is answered UNKNOWN_KIND, one of a kind whose payload has another length
BAD_LENGTH; both carry the code alone and change no other state (R186, R190). -/
def Obligations.UnknownKindAndBadLengthAnswered : Prop :=
  ∀ (l : Link) (kind : Byte) (payload : List Byte) (s : State), s.linkFree l → payload.length ≤ 1024 →
    (kind ∉ linkKinds l →
      exec (.unknownKind l kind payload) s =
        .next { s with links := s.links.set l (replying kind payload .unknownKind []) }) ∧
    ((l = .cell ∧ kind = 0x10 ∧ payload.length < 2) ∨
        (l = .cell ∧ kind ∈ ([0x11, 0x12, 0x13, 0x15] : List Byte) ∧ payload.length ≠ 1) ∨
        (l = .cell ∧ kind = 0x14 ∧ payload ≠ []) ∨
        (l = .plant ∧ kind ∈ ([0x20, 0x22] : List Byte) ∧ payload ≠ []) ∨
        (l = .plant ∧ kind = 0x21 ∧ payload.length ≠ 2) →
      exec (.unknownKind l kind payload) s =
        .next { s with links := s.links.set l (replying kind payload .badLength []) })

/-- A missing stop bit, and a gap, return the receiver to hunting (one that hunts ignores a byte with a missing stop bit, an SOH
too: the model's choice, notes/assumptions/39.md); a byte that reveals a discard (a length out of range, a wrong end byte or CRC)
does the same and is consumed; a frame that completes while a request is pending is discarded (its row drops a frame in progress
as well: the model's choice, notes/assumptions/5.md); the end of a reply's transmission leaves no request pending. A hunting
receiver takes SOH as a frame's begin and ignores any other byte; a byte within a frame joins it (R184, R186). -/
def Obligations.ReceiverTakesBytesAndDiscards : Prop :=
  ∀ (l : Link) (s : State),
    exec (.frameDiscarded l .missingStopBit) s =
        .next { s with links := s.links.set l { s.link l with receiver := .hunting } } ∧
    (∀ (bytes : List Byte) (b : Byte), (s.link l).receiver = .inFrame bytes →
      (bytes.length = 1 ∧ (frameLength (bytes ++ [b]) < 1 ∨ 1025 < frameLength (bytes ++ [b])) ∨
        2 ≤ bytes.length ∧ 1 ≤ frameLength bytes ∧ frameLength bytes ≤ 1025 ∧ bytes.length = frameLength bytes + 4 ∧
          (b ≠ 0x04 ∨ bytes.drop (frameLength bytes + 2) ≠ bytes16 (crc (bytes.take (frameLength bytes + 2))))) →
      exec (.frameDiscarded l (.byte b)) s =
        .next { s with links := s.links.set l { s.link l with receiver := .hunting } }) ∧
    exec (.frameGapTimeout l) s =
        .next { s with links := s.links.set l { s.link l with receiver := .hunting } } ∧
    (∀ (kind : Byte) (payload : List Byte), (s.link l).request.isSome = true → payload.length ≤ 1024 →
      exec (.frameWhilePending l kind payload) s =
        .next { s with links := s.links.set l { s.link l with receiver := .hunting } }) ∧
    exec (.replyTransmitted l) s = .next { s with links := s.links.set l { s.link l with request := none } } ∧
    ((s.link l).receiver = .hunting →
      exec (.receivedByte l 0x01) s =
          .next { s with links := s.links.set l { s.link l with receiver := .inFrame [] } } ∧
        ∀ b : Byte, b ≠ 0x01 → exec (.receivedByte l b) s = .next s) ∧
    (∀ (bytes : List Byte) (b : Byte), (s.link l).receiver = .inFrame bytes →
      (bytes = [] ∨ (1 ≤ frameLength (bytes ++ [b]) ∧ frameLength (bytes ++ [b]) ≤ 1025 ∧
        bytes.length < frameLength (bytes ++ [b]) + 4)) →
      exec (.receivedByte l b) s =
        .next { s with links := s.links.set l { s.link l with receiver := .inFrame (bytes ++ [b]) } })

/-- The bytes of a frame, received one by one by a hunting receiver, are the request: RECEIVED_BYTE of every byte of the frame of
kind and payload (SOH, length, kind, payload, CRC, EOT) does what the request's row does, for each of the nine kinds and for
every other frame that the length field can carry (R184, R185, R186, R189, R190). -/
def Obligations.FrameBytesAreTheRequest : Prop :=
  ∀ s : State,
    ((s.link .cell).receiver = .hunting →
      (∀ nest variant serial, serial.length ≤ 1022 →
        receiveFrame .cell 0x10 (nest :: variant :: serial) s = exec (.arrive nest variant serial) s) ∧
      (∀ nest, receiveFrame .cell 0x11 [nest] s = exec (.clamped nest) s) ∧
      (∀ nest, receiveFrame .cell 0x12 [nest] s = exec (.release nest) s) ∧
      (∀ nest, receiveFrame .cell 0x13 [nest] s = exec (.abort .cellLink nest) s) ∧
      receiveFrame .cell 0x14 [] s = exec .permit s ∧
      ∀ nest, receiveFrame .cell 0x15 [nest] s = exec (.ask nest) s) ∧
    ((s.link .plant).receiver = .hunting →
      receiveFrame .plant 0x20 [] s = exec .fetch s ∧
      (∀ number, receiveFrame .plant 0x21 (bytes16 number) s = exec (.take number) s) ∧
      receiveFrame .plant 0x22 [] s = exec .count s) ∧
    ∀ l kind payload, (s.link l).receiver = .hunting → payload.length ≤ 1024 →
      receiveFrame l kind payload s = exec (.unknownKind l kind payload) s

/-! ### Bench commands on dossiers -/

/-- START is refused BAD_NEST for a nest other than 0 and 1, and by the first check of R12 that fails; one that passes makes the start:
section records created, class at start recorded, stage index 0, no position skipped, and stage 0 begun, an ENGAGE stage in the drive
channel or a LEAK stage whose first chamber requests air and is granted it at once when the supply is free (R1, R12, R13, R22, R106). -/
def Obligations.StartBeginsTest : Prop :=
  ∀ (b : Byte) (s : State), s.benchFree →
    (nestOf b = none → exec (.start b) s = .next { s with bench := s.bench.answered 0x01 .badNest [] }) ∧
    ∀ n, nestOf b = some n →
    ((s.dossier n).state ≠ .opened →
      exec (.start b) s = .next { s with bench := s.bench.answered 0x01 .wrongState [] }) ∧
    ((s.dossier n).state = .opened → (s.dossier n).clamped = false →
      exec (.start b) s = .next { s with bench := s.bench.answered 0x01 .notClamped [] }) ∧
    ((s.dossier n).state = .opened → (s.dossier n).clamped = true → (s.faultList n).causes ≠ [] →
      exec (.start b) s = .next { s with bench := s.bench.answered 0x01 .nestFault [] }) ∧
    ((s.dossier n).state = .opened → (s.dossier n).clamped = true → (s.faultList n).causes = [] → s.interlock.estop = true →
      exec (.start b) s = .next { s with bench := s.bench.answered 0x01 .estopActive [] }) ∧
    ∀ p, (s.dossier n).state = .opened → (s.dossier n).clamped = true → (s.faultList n).causes = [] →
      s.interlock.estop = false → s.planOf n = some p →
      (∀ a as rest, p.stages = .engage :: rest → attemptsOf p.attemptsMask = a :: as →
        exec (.start b) s =
          .next { s with
            dossiers := s.dossiers.set n ((s.dossier n).startedFields p (s.classOf n))
            channels := s.channels.set n ((s.channel n).engageBegun s.interlock.permitLive a)
            bench := s.bench.answered 0x01 .accepted [] }) ∧
      (∀ m set rest c, p.stages = .leak m set :: rest → c = (if m.c0 then Chamber.c0 else Chamber.c1) → m.has c = true →
        s.interlock.zero = none →
        ∃ t, exec (.start b) s = .next t ∧
          t.dossiers = s.dossiers.set n ((s.dossier n).startedFields p (s.classOf n)) ∧
          t.channels = s.channels ∧ t.bench = s.bench.answered 0x01 .accepted [] ∧
          t.leakStages = s.leakStages.set n (some ⟨m, set, if m.c0 && m.c1 then some .c1 else none⟩) ∧
          (t.circuit n c).leakSet = some set ∧ (t.circuit n c).count = 0 ∧ (t.circuit n c).resultGiven = false ∧
          (s.arbiter = ⟨none, [], false⟩ →
            (t.circuit n c).state = .filling ∧ t.arbiter = ⟨some ⟨n, c⟩, [], false⟩) ∧
          ((s.arbiter.holder ≠ none ∨ s.arbiter.supplyLow = true) →
            (t.circuit n c).state = .waitingAir ∧
              t.arbiter = { s.arbiter with waiting := s.arbiter.waiting ++ [⟨n, c⟩] }))

/-- The section records that a start creates: a leak record for each chamber named by a LEAK stage, chamber 0 first; a run-in
record when there is an ENGAGE stage; a capture record for each defined number that a step names when there is a PROFILE stage, in
ascending order; each pending (R4). -/
def Obligations.StartCreatesSectionRecords : Prop :=
  ∀ p : Plan,
    (∀ c, (∃ r ∈ p.freshLeaks, r.chamber = c) ↔ ∃ m set, Stage.leak m set ∈ p.stages ∧ m.has c = true) ∧
      p.freshLeaks.Pairwise (fun a b => a.chamber.number < b.chamber.number) ∧
      (p.freshRunIn.isSome = true ↔ Stage.engage ∈ p.stages) ∧
      (∀ k, (∃ r ∈ p.freshCaptures, r.number = k) ↔
        Stage.profile ∈ p.stages ∧ k < p.captures.length ∧ ∃ t ∈ p.steps, t.capture = some k) ∧
      p.freshCaptures.Pairwise (fun a b => a.number < b.number) ∧
      (∀ r ∈ p.freshLeaks, r.given = none) ∧ (∀ r ∈ p.freshRunIn, r.given = none) ∧ ∀ r ∈ p.freshCaptures, r.given = none

/-- RETEST is refused BAD_NEST for a nest other than 0 and 1 (R1), and by the first check of R19 that fails. One that passes
raises the retest count, leaves the filing-pending list, clears verdict, judged time and class at judgment, keeps the first
verdict and the class at start, makes the leak records that are not PASS pending and begins the first stage in scope (R19, R20,
R21): here an ENGAGE stage of a dossier whose run-in record is not PASS, with run-in and capture records made pending, or a LEAK
stage of a dossier whose drive sections are PASS, which keep their records. -/
def Obligations.RetestRunsItsScope : Prop :=
  ∀ (b : Byte) (s : State), s.benchFree →
    (nestOf b = none → exec (.retest b) s = .next { s with bench := s.bench.answered 0x03 .badNest [] }) ∧
    ∀ n, nestOf b = some n →
    (((s.dossier n).state ≠ .judged ∨
        ((s.dossier n).verdict ≠ some .fail ∧ (s.dossier n).verdict ≠ some .incomplete)) →
      exec (.retest b) s = .next { s with bench := s.bench.answered 0x03 .wrongState [] }) ∧
    ∀ k, (s.dossier n).state = .judged →
      ((s.dossier n).verdict = some .fail ∨ (s.dossier n).verdict = some .incomplete) →
      (s.dossier n).retestCount = some k →
      (2 ≤ k → exec (.retest b) s = .next { s with bench := s.bench.answered 0x03 .retestLimit [] }) ∧
      (k < 2 → (s.faultList n).causes ≠ [] →
        exec (.retest b) s = .next { s with bench := s.bench.answered 0x03 .nestFault [] }) ∧
      (k < 2 → (s.faultList n).causes = [] → s.interlock.estop = true →
        exec (.retest b) s = .next { s with bench := s.bench.answered 0x03 .estopActive [] }) ∧
      ∀ p, k < 2 → (s.faultList n).causes = [] → s.interlock.estop = false → s.planOf n = some p →
        ((s.dossier n).leaks.map LeakRecord.chamber).Nodup →
        (∀ a as rest r, p.stages = .engage :: rest → attemptsOf p.attemptsMask = a :: as →
          (s.dossier n).runIn = some r → (∀ g, r.given = some g → g.result ≠ .pass) →
          ∃ t, exec (.retest b) s = .next t ∧ (t.dossier n).state = .testing ∧ (t.dossier n).retestCount = some (k + 1) ∧
            (t.dossier n).stageIndex = some 0 ∧ (t.dossier n).verdict = none ∧ (t.dossier n).verdictCause = none ∧
            (t.dossier n).judgedTime = none ∧ (t.dossier n).classAtJudgment = none ∧
            (t.dossier n).stopped = false ∧ (t.dossier n).filingPending = false ∧
            (t.dossier n).firstVerdict = (s.dossier n).firstVerdict ∧
            (t.dossier n).classAtStart = (s.dossier n).classAtStart ∧ (t.dossier n).serial = (s.dossier n).serial ∧
            (t.dossier n).quarantine = (s.dossier n).quarantine ∧
            (t.dossier n).runIn = some ⟨none, 0, 0, 0⟩ ∧ (∀ c ∈ (t.dossier n).captures, c.given = none) ∧
            (t.dossier n).leaks =
              (s.dossier n).leaks.map (fun l => if isPass l.given then l else LeakRecord.fresh l.chamber) ∧
            t.dossier n.other = s.dossier n.other ∧
            t.channels = s.channels.set n ((s.channel n).engageBegun s.interlock.permitLive a) ∧
            t.reports = { s.reports with filingPending := s.reports.filingPending.filter fun m => m ≠ n } ∧
            t.plans = s.plans ∧ t.circuits = s.circuits ∧ t.bench = s.bench.answered 0x03 .accepted []) ∧
        (∀ m set rest c, p.stages = .leak m set :: rest → s.interlock.zero = none →
          (∀ r ∈ (s.dossier n).runIn, isPass r.given = true) → (∀ r ∈ (s.dossier n).captures, isPass r.given = true) →
          m.has c = true → (c = .c1 → m.c0 = false) →
          (∃ l ∈ (s.dossier n).leaks, l.chamber = c ∧ isPass l.given = false) →
          ∃ t, exec (.retest b) s = .next t ∧ (t.dossier n).state = .testing ∧ (t.dossier n).retestCount = some (k + 1) ∧
            (t.dossier n).stageIndex = some 0 ∧ (t.dossier n).verdict = none ∧
            (t.dossier n).runIn = (s.dossier n).runIn ∧ (t.dossier n).captures = (s.dossier n).captures ∧
            (t.dossier n).leaks =
              (s.dossier n).leaks.map (fun l => if isPass l.given then l else LeakRecord.fresh l.chamber) ∧
            (t.circuit n c).leakSet = some set ∧ (t.circuit n c).resultGiven = false ∧
            ((t.circuit n c).state = .waitingAir ∨ (t.circuit n c).state = .filling) ∧
            t.channels = s.channels ∧ t.dossier n.other = s.dossier n.other ∧
            t.bench = s.bench.answered 0x03 .accepted [])

/-- FILE of a JUDGED dossier with room in the queue appends its report with the next number and enters FILED; with 16 reports held
the dossier joins the end of the filing-pending list and the filing-blocked cause is pending; with filing-pending set it changes
nothing (R17, R31, R154). QUARANTINE sets the flag in OPEN, TESTING, STOPPING and JUDGED alone (R18). Both are refused BAD_NEST
for a nest other than 0 and 1, and WRONG_STATE in every other state (R1, R17, R18). -/
def Obligations.FileAndQuarantineAct : Prop :=
  ∀ (b : Byte) (s : State), s.benchFree →
    (nestOf b = none →
      exec (.file b) s = .next { s with bench := s.bench.answered 0x04 .badNest [] } ∧
      exec (.quarantine b) s = .next { s with bench := s.bench.answered 0x05 .badNest [] }) ∧
    ∀ n, nestOf b = some n →
    ((s.dossier n).state = .judged → (s.dossier n).filingPending = false → s.reports.reports.length < 16 →
      ∃ t r, exec (.file b) s = .next t ∧ t.reports.reports = s.reports.reports ++ [r] ∧
        r.number = some s.reports.nextNumber ∧ r.nest = n ∧ r.verdict = (s.dossier n).verdict ∧
        r.quarantine = (s.dossier n).quarantine ∧ r.leaks = (s.dossier n).leaks ∧ r.captures = (s.dossier n).captures ∧
        t.reports.nextNumber = numberAfter s.reports.nextNumber ∧
        t.dossiers = s.dossiers.set n
          { s.dossier n with state := .filed, reportNumber := some s.reports.nextNumber, filingPending := false } ∧
        (∀ v, t.planEntry v =
          if (s.dossier n).variant = some v then { s.planEntry v with inUse := (s.planEntry v).inUse - 1 }
          else s.planEntry v) ∧
        t.channels = s.channels ∧ t.bench = s.bench.answered 0x04 .accepted []) ∧
    ((s.dossier n).state = .judged → (s.dossier n).filingPending = false → 16 ≤ s.reports.reports.length →
      exec (.file b) s =
        .next { s with
          dossiers := s.dossiers.set n { s.dossier n with filingPending := true }
          reports := { s.reports with filingPending := s.reports.filingPending ++ [n] }
          bench := { s.bench with causes := s.bench.causes ||| AttentionCause.bit .filingBlocked }.answered 0x04 .accepted [] }) ∧
    ((s.dossier n).state = .judged → (s.dossier n).filingPending = true →
      exec (.file b) s = .next { s with bench := s.bench.answered 0x04 .accepted [] }) ∧
    ((s.dossier n).state ≠ .judged →
      exec (.file b) s = .next { s with bench := s.bench.answered 0x04 .wrongState [] }) ∧
    ((s.dossier n).state ≠ .vacant → (s.dossier n).state ≠ .filed →
      exec (.quarantine b) s =
        .next { s with
          dossiers := s.dossiers.set n { s.dossier n with quarantine := true }
          bench := s.bench.answered 0x05 .accepted [] }) ∧
    (((s.dossier n).state = .vacant ∨ (s.dossier n).state = .filed) →
      exec (.quarantine b) s = .next { s with bench := s.bench.answered 0x05 .wrongState [] })

/-! ### The interlock unit -/

/-- CLEAR_FAULTS in VACANT or JUDGED keeps, in order, the causes whose condition holds; with the more flag set the fifth cause joins
the end where its condition holds and there is room, and sets the flag again where there is none. In any other state it is refused
WRONG_STATE, and for a nest other than 0 and 1 BAD_NEST (R176). -/
def Obligations.ClearFaultsKeepsStandingCauses : Prop :=
  ∀ (b : Byte) (s : State), s.benchFree →
    (nestOf b = none → exec (.clearFaults b) s = .next { s with bench := s.bench.answered 0x06 .badNest [] }) ∧
    ∀ n, nestOf b = some n →
    (((s.dossier n).state = .vacant ∨ (s.dossier n).state = .judged) →
      ∃ kept : List FaultCause, kept.Sublist (s.faultList n).causes ∧
        (∀ f, f ∈ kept ↔ f ∈ (s.faultList n).causes ∧ s.conditionStands n f) ∧
        ((s.faultList n).more = false →
          exec (.clearFaults b) s =
            .next { s with
              interlock := { s.interlock with faults := s.interlock.faults.set n ⟨kept, false⟩ }
              bench := s.bench.answered 0x06 .accepted [] }) ∧
        ∀ fifth, (s.faultList n).more = true → fifth ∉ (s.faultList n).causes →
          (∀ f, f ≠ fifth → f ∈ (s.faultList n).causes) →
          ((s.conditionStands n fifth → kept.length < 4 →
            exec (.clearFaults b) s =
              .next { s with
                interlock := { s.interlock with faults := s.interlock.faults.set n ⟨kept ++ [fifth], false⟩ }
                bench := s.bench.answered 0x06 .accepted [] }) ∧
          (s.conditionStands n fifth → 4 ≤ kept.length →
            exec (.clearFaults b) s =
              .next { s with
                interlock := { s.interlock with faults := s.interlock.faults.set n ⟨kept, true⟩ }
                bench := s.bench.answered 0x06 .accepted [] }) ∧
          (¬ s.conditionStands n fifth →
            exec (.clearFaults b) s =
              .next { s with
                interlock := { s.interlock with faults := s.interlock.faults.set n ⟨kept, false⟩ }
                bench := s.bench.answered 0x06 .accepted [] }))) ∧
    ((s.dossier n).state ≠ .vacant → (s.dossier n).state ≠ .judged →
      exec (.clearFaults b) s = .next { s with bench := s.bench.answered 0x06 .wrongState [] })

/-- ZERO answers the first check that fails at once and changes nothing else; one that passes becomes the ZERO in progress with no
sample taken, and stays held (R166). -/
def Obligations.ZeroIsHeldUntilAnswered : Prop :=
  ∀ (b : Byte) (target length : Word) (s : State), s.benchFree →
    (nestOf b = none → exec (.zero b target length) s = .next { s with bench := s.bench.answered 0x09 .badNest [] }) ∧
    (nestOf b ≠ none → (2 < target.toNat ∨ 1 < length.toNat) →
      exec (.zero b target length) s = .next { s with bench := s.bench.answered 0x09 .ignored [] }) ∧
    ∀ n t l, nestOf b = some n → zeroTargetOf target = some t → zeroLengthOf length = some l →
      ((s.channel n).enable = true ∨ (∃ c, t = .chamber c ∧ (s.circuit n c).state ≠ .idle) →
        exec (.zero b target length) s = .next { s with bench := s.bench.answered 0x09 .wrongState [] }) ∧
      ((s.channel n).enable = false → (∀ c, t = .chamber c → (s.circuit n c).state = .idle) →
        exec (.zero b target length) s =
          .next { s with
            interlock := { s.interlock with zero := some ⟨n, t, l, 0, 0⟩ }
            bench :=
              { s.bench with
                collected := []
                held := some [firstWord 0x09 b, target, length]
                writeLatches := { s.bench.writeLatches with command := none } } })

/-- A raw sample of the ZERO's target adds to its sum; the last one's mean, truncated toward zero, replaces the offset with reply
ACCEPTED when it lies within 2,000 N·m or 5,000 Pa, and gives ZERO_RANGE with the offset unchanged when it does not; a faulty
pressure sample ends it with ZERO_RANGE. The sample itself is conditioned with the offset in force before (R165, R167). A torque sample
is taken here at an update of an IDLE channel, a pressure sample by an IDLE circuit. Before its length is reached the enable turning on
ends a ZERO of torque, here at the first update of an ENGAGE attempt, and the named circuit leaving IDLE one of a chamber, here at an
auto-start whose first stage is LEAK, with WRONG_STATE and the offsets unchanged (R167). -/
def Obligations.ZeroSamplesSetTheOffset : Prop :=
  (∀ (u : UpdateInput) (z : ZeroInProgress) (s : State), s.interlock.zero = some z → z.nest = u.nest → z.target = .torque →
    (s.channel u.nest).activity = .idle → (s.channel u.nest).stopping = false → s.captureUnit u.nest = .idle →
    (z.taken + 1 < z.length.samples →
      exec (.zeroComplete (.torque u)) s =
        .next { s with
          interlock := { s.interlock with zero := some { z with taken := z.taken + 1, sum := z.sum + u.rawTorque } } }) ∧
    (z.taken + 1 = z.length.samples → ((z.sum + u.rawTorque).tdiv z.length.samples).natAbs ≤ 2000 →
      exec (.zeroComplete (.torque u)) s =
        .next { s with
          interlock :=
            { s.interlock with
              zero := none
              torqueOffset := s.interlock.torqueOffset.set u.nest ((z.sum + u.rawTorque).tdiv z.length.samples) }
          bench := { s.bench with reply := some ⟨[0x0900], 0⟩, replyReady := true, held := none } }) ∧
    (z.taken + 1 = z.length.samples → 2000 < ((z.sum + u.rawTorque).tdiv z.length.samples).natAbs →
      exec (.zeroComplete (.torque u)) s =
        .next { s with
          interlock := { s.interlock with zero := none }
          bench := { s.bench with reply := some ⟨[0x0917], 0⟩, replyReady := true, held := none } })) ∧
  (∀ (p : PressureInput) (z : ZeroInProgress) (s : State), s.interlock.zero = some z → z.nest = p.nest →
    z.target = .chamber p.chamber → (s.circuit p.nest p.chamber).state = .idle →
    (z.taken + 1 < z.length.samples → pressureInRange p →
      exec (.zeroComplete (.pressure p)) s =
        .next { s with
          interlock := { s.interlock with zero := some { z with taken := z.taken + 1, sum := z.sum + p.raw } }
          circuits :=
            s.circuits.set p.nest
              ((s.circuits.get p.nest).set p.chamber ((s.circuit p.nest p.chamber).takeSample (s.pressureAt p) false)) }) ∧
    (z.taken + 1 = z.length.samples → pressureInRange p → ((z.sum + p.raw).tdiv z.length.samples).natAbs ≤ 5000 →
      exec (.zeroComplete (.pressure p)) s =
        .next { s with
          interlock :=
            { s.interlock with
              zero := none
              pressureOffset :=
                s.interlock.pressureOffset.set p.nest
                  ((s.interlock.pressureOffset.get p.nest).set p.chamber ((z.sum + p.raw).tdiv z.length.samples)) }
          bench := { s.bench with reply := some ⟨[0x0900], 0⟩, replyReady := true, held := none }
          circuits :=
            s.circuits.set p.nest
              ((s.circuits.get p.nest).set p.chamber ((s.circuit p.nest p.chamber).takeSample (s.pressureAt p) false)) }) ∧
    ((z.taken + 1 = z.length.samples ∧ pressureInRange p ∧ 5000 < ((z.sum + p.raw).tdiv z.length.samples).natAbs ∨
        ¬ pressureInRange p) →
      ∃ t, exec (.zeroComplete (.pressure p)) s = .next t ∧ t.interlock.zero = none ∧
        t.interlock.pressureOffset = s.interlock.pressureOffset ∧ t.bench.reply = some ⟨[0x0917], 0⟩ ∧
        t.bench.replyReady = true ∧ t.bench.held = none ∧ t.dossiers = s.dossiers ∧ t.channels = s.channels)) ∧
  (∀ (u : UpdateInput) (z : ZeroInProgress) (p : Plan) (i : Nat) (a : Attempt) (s : State),
    s.interlock.zero = some z → z.nest = u.nest → z.target = .torque → z.taken + 1 < z.length.samples →
    s.stageIs u.nest p i .engage → (s.channel u.nest).activity = .engaging ⟨a, false, 0, 0, 0, false⟩ →
    (s.channel u.nest).stopping = false → s.captureUnit u.nest = .idle → s.enableAllowed u.nest → s.classOf u.nest ≠ 7 →
    ∃ t, exec (.driveUpdate u) s = .next t ∧ (t.channel u.nest).enable = true ∧
      t.interlock = { s.interlock with zero := none } ∧
      t.bench = { s.bench with reply := some ⟨[0x090D], 0⟩, replyReady := true, held := none }) ∧
  ∀ (b : Byte) (n : Nest) (z : ZeroInProgress) (p : Plan) (m : ChamberSet) (ix : LeakSetIx) (rest : List Stage) (c : Chamber)
    (s : State), nestOf b = some n → s.linkFree .cell → (s.dossier n).state = .opened → (s.dossier n).clamped = false →
    s.planOf n = some p → p.autoStart = true → s.interlock.estop = false → (s.faultList n).causes = [] →
    p.stages = .leak m ix :: rest → c = (if m.c0 then Chamber.c0 else Chamber.c1) → m.has c = true →
    s.interlock.zero = some z → z.nest = n → z.target = .chamber c →
    ∃ t, exec (.clamped b) s = .next t ∧ (t.circuit n c).state ≠ .idle ∧ t.interlock = { s.interlock with zero := none } ∧
      t.bench = { s.bench with reply := some ⟨[0x090D], 0⟩, replyReady := true, held := none }

/-- The expiry of a live permit makes it lapsed and gives each nest whose enable is on a controlled stop, whose set-point stands; a
TESTING dossier with a drive stage in progress receives run-in FAIL PERMIT_LAPSE unless it already holds FAIL; a nest whose enable
is off is not acted on (R172, R173). -/
def Obligations.PermitExpiryStopsEnabledDrives : Prop :=
  ∀ s : State, s.interlock.permitLive = true →
    ∃ t, exec .permitExpiry s = .next t ∧
      t.interlock = { s.interlock with permitLive := false, permitLeft := 0 } ∧ t.bench = s.bench ∧
      t.circuits = s.circuits ∧ t.arbiter = s.arbiter ∧ t.reports = s.reports ∧
      ∀ n,
        ((s.channel n).enable = false → t.channel n = s.channel n ∧ t.dossier n = s.dossier n) ∧
        ((s.channel n).enable = true →
          (t.channel n).enable = true ∧ (t.channel n).setPoint = (s.channel n).setPoint ∧ (t.channel n).stopping = true ∧
          (t.dossier n).state = (s.dossier n).state ∧
          (((s.dossier n).state ≠ .testing ∨ (s.channel n).activity = .idle) → t.dossier n = s.dossier n) ∧
          ((s.dossier n).state = .testing → (s.channel n).activity ≠ .idle →
            s.runInFailed t n .permitLapse))

/-- Activation of the e-stop: both drives at rest, a TESTING dossier stopped with cause ESTOP and JUDGED ABORTED in the same event
when its circuits are IDLE, and then FILED or not, a STOPPING dossier keeps its cause, any other dossier does not change, and the
e-stop change cause is pending (R168, R27, R64). Clearing sets the state, makes the cause pending and starts an OPEN dossier that
meets R11, here with an ENGAGE stage first (R169). -/
def Obligations.EstopStopsAndStarts : Prop :=
  (∀ s : State, (∀ n, s.listSound n) →
    ∃ t, exec .estopActivate s = .next t ∧ t.interlock.estop = true ∧ t.bench.isPending .estopChange = true ∧
      ∀ n, (t.channel n).enable = false ∧ (t.channel n).setPoint = 0 ∧ (t.channel n).stopping = false ∧
        ((s.dossier n).state = .testing → t.stoppedBy n .estop ∧
          ((∀ c, (t.circuit n c).state = .idle) →
            ((t.dossier n).state = .judged ∨ (t.dossier n).state = .filed) ∧ (t.dossier n).verdict = some .aborted ∧
              (t.dossier n).verdictCause = some .estop) ∧
          ((∃ c, (t.circuit n c).state ≠ .idle) → (t.dossier n).state = .stopping)) ∧
        ((s.dossier n).state = .stopping → (t.dossier n).stoppingCause = (s.dossier n).stoppingCause) ∧
        ((s.dossier n).state ≠ .testing → (s.dossier n).state ≠ .stopping → t.dossier n = s.dossier n)) ∧
  ∀ s : State,
    ((∀ n, (s.dossier n).state ≠ .opened ∨ (s.dossier n).clamped = false ∨ (s.faultList n).causes ≠ [] ∨
        ∀ p, s.planOf n = some p → p.autoStart = false) →
      exec .estopClear s =
        .next { s with
          interlock := { s.interlock with estop := false }
          bench := { s.bench with causes := s.bench.causes ||| AttentionCause.bit .estopChange } }) ∧
    ∀ n p a as rest, (s.dossier n).state = .opened → (s.dossier n).clamped = true → (s.faultList n).causes = [] →
      s.planOf n = some p → p.autoStart = true → p.stages = .engage :: rest → attemptsOf p.attemptsMask = a :: as →
      (s.dossier n.other).state ≠ .opened →
      exec .estopClear s =
        .next { s with
          interlock := { s.interlock with estop := false }
          bench := { s.bench with causes := s.bench.causes ||| AttentionCause.bit .estopChange }
          dossiers := s.dossiers.set n ((s.dossier n).startedFields p (s.classOf n))
          channels := s.channels.set n ((s.channel n).engageBegun s.interlock.permitLive a) }

/-- Opening of a guard sets its state; a TESTING dossier of the nest is stopped with cause GUARD, a STOPPING one keeps its cause, and
the drive of either is at rest at once; in any other state nothing else changes; the other nest's dossier and drive are left alone.
Closing sets the state and nothing else (R170). -/
def Obligations.GuardActsOnItsNest : Prop :=
  ∀ (n : Nest) (s : State),
    exec (.guardClose n) s =
        .next { s with interlock := { s.interlock with guardOpen := s.interlock.guardOpen.set n false } } ∧
    ((s.dossier n).state ≠ .testing → (s.dossier n).state ≠ .stopping →
      exec (.guardOpen n) s =
        .next { s with interlock := { s.interlock with guardOpen := s.interlock.guardOpen.set n true } }) ∧
    (((s.dossier n).state = .testing ∨ (s.dossier n).state = .stopping) →
      ∃ t, exec (.guardOpen n) s = .next t ∧
        t.interlock = { s.interlock with guardOpen := s.interlock.guardOpen.set n true } ∧
        (t.channel n).enable = false ∧ (t.channel n).setPoint = 0 ∧ (t.channel n).stopping = false ∧
        t.dossier n.other = s.dossier n.other ∧ t.channel n.other = s.channel n.other ∧
        ((s.dossier n).state = .stopping → (t.dossier n).stoppingCause = (s.dossier n).stoppingCause) ∧
        ((s.dossier n).state = .testing → s.listSound n → t.stoppedBy n .guard))

/-- Activation of a drive-fault input sets the level, stops the drive at once, reports DRIVE_FAULT (joining a list of fewer than 4
causes, else setting the more flag) and gives run-in FAIL DRIVE_FAULT, unless it holds FAIL, to a TESTING dossier with a drive
stage in progress; the other nest is left alone. The change to inactive sets the level and nothing else (R171, R175). -/
def Obligations.DriveFaultActsOnItsNest : Prop :=
  ∀ (n : Nest) (s : State),
    exec (.driveFaultClear n) s =
        .next { s with interlock := { s.interlock with driveFault := s.interlock.driveFault.set n false } } ∧
    ∃ t, exec (.driveFaultActivate n) s = .next t ∧
      t.interlock.driveFault = s.interlock.driveFault.set n true ∧
      (t.channel n).enable = false ∧ (t.channel n).setPoint = 0 ∧ (t.channel n).stopping = false ∧
      t.dossier n.other = s.dossier n.other ∧ t.channel n.other = s.channel n.other ∧
      t.faultList n.other = s.faultList n.other ∧
      (FaultCause.driveFault ∈ (s.faultList n).causes → t.faultList n = s.faultList n) ∧
      (FaultCause.driveFault ∉ (s.faultList n).causes → (s.faultList n).causes.length < 4 →
        t.faultList n = ⟨(s.faultList n).causes ++ [.driveFault], (s.faultList n).more⟩ ∧
          t.bench.isPending (.nestFault n) = true) ∧
      (FaultCause.driveFault ∉ (s.faultList n).causes → 4 ≤ (s.faultList n).causes.length →
        t.faultList n = ⟨(s.faultList n).causes, true⟩ ∧
          ((s.faultList n).more = false → t.bench.isPending (.nestFault n) = true)) ∧
      ((s.dossier n).state = .testing → (s.channel n).activity ≠ .idle →
        s.runInFailed t n .driveFault)

/-! ### Readouts, the temperature command, reports -/

/-- READ_DOSSIER, READ_STATION and READ_REPORT fill the output buffer with a record packed two bytes to a word, high half first,
and answer ACCEPTED; a bad nest, a position without a report and a position above 15 are answered BAD_NEST, EMPTY and IGNORED with
the buffer left alone (R159, R183, R188). The station readout is 187 bytes, 94 words, with the clock in words 2 and 3 (R194).
READ_STATION advances the model's counter of free values (notes/assumptions/3.md). The code of the noise section in byte 3 of the
dossier readout is the model's choice (notes/assumptions/38.md). -/
def Obligations.ReadoutsFillOutputBuffer : Prop :=
  (∀ bytes : List Byte, (packWords bytes).length = (bytes.length + 1) / 2 ∧
    ((packWords bytes).flatMap bytes16).take bytes.length = bytes ∧
    (bytes.length % 2 = 1 → ((packWords bytes).flatMap bytes16).drop bytes.length = [0])) ∧
  ∀ s : State, s.benchFree →
    (∀ b n, nestOf b = some n →
      exec (.readDossier b) s = .next { s with bench := s.bench.filled 0x07 (packWords (s.dossierReadout n)) }) ∧
    (∀ b, nestOf b = none →
      exec (.readDossier b) s = .next { s with bench := s.bench.answered 0x07 .badNest [] }) ∧
    (∃ words : List Word,
      exec .readStation s = .next { s with bench := s.bench.filled 0x2A words, freeCount := s.freeCount + 4 } ∧
      words.length = 94 ∧ words[2]? = some (s.reports.clock.extractLsb' 16 16) ∧
      words[3]? = some (s.reports.clock.extractLsb' 0 16) ∧
      words[93]? = some ((s.bench.enableMask.setWidth 16).extractLsb' 0 8 ++ (0 : Byte))) ∧
    (∀ (p : Byte) r, s.reports.reports[p.toNat]? = some r → p.toNat ≤ 15 →
      exec (.readReport p) s = .next { s with bench := s.bench.filled 0x20 (packWords r.bytes) }) ∧
    (∀ p : Byte, p.toNat ≤ 15 → s.reports.reports.length ≤ p.toNat →
      exec (.readReport p) s = .next { s with bench := s.bench.answered 0x20 .empty [] }) ∧
    ∀ p : Byte, 15 < p.toNat → exec (.readReport p) s = .next { s with bench := s.bench.answered 0x20 .ignored [] }

/-- READ_TEMP of nest 0 or 1 answers T (0x8000 when absent), the class in bits 2 to 0, the changed flag in bit 4 and the sensor fault
in bit 5 as they stand, and clears the changed flag; another nest is refused BAD_NEST; nothing else changes (R54). -/
def Obligations.ReadTempAnswersAndClearsFlag : Prop :=
  ∀ (b : Byte) (s : State), s.benchFree →
    (nestOf b = none → exec (.readTemp b) s = .next { s with bench := s.bench.answered 0x08 .badNest [] }) ∧
    ∀ n, nestOf b = some n → (s.monitor n).tempClass ≤ 7 →
      ∃ t : Word,
        ((s.monitor n).temperature = none → t = 0x8000) ∧
        (∀ x, (s.monitor n).temperature = some x → -600 ≤ x → x ≤ 2000 → t.toInt = x) ∧
        exec (.readTemp b) s =
          .next { s with
            monitors := s.monitors.set n { s.monitor n with changed := false }
            bench :=
              s.bench.answered 0x08 .accepted
                [t, BitVec.ofNat 16
                  ((s.monitor n).tempClass + (if (s.monitor n).changed then 16 else 0)
                    + (if (s.monitor n).sensorFault then 32 else 0))] }

/-- SET_REPORT_BASE takes a number from 1 up while no report is held and none waits (R160); SET_STATION sets the station number
(R161); SET_CLOCK sets the clock, and each CLOCK_TICK adds 1 with 4,294,967,295 followed by 0 (R162). Nothing else changes. -/
def Obligations.ReportQueueSettings : Prop :=
  (∀ (k : Word) (s : State), s.benchFree →
    (k = 0 → exec (.setReportBase k) s = .next { s with bench := s.bench.answered 0x21 .ignored [] }) ∧
    (k ≠ 0 → (s.reports.reports ≠ [] ∨ s.reports.filingPending ≠ []) →
      exec (.setReportBase k) s = .next { s with bench := s.bench.answered 0x21 .wrongState [] }) ∧
    (k ≠ 0 → s.reports.reports = [] → s.reports.filingPending = [] →
      exec (.setReportBase k) s =
        .next { s with
          reports := { s.reports with nextNumber := k.toNat }
          bench := s.bench.answered 0x21 .accepted [] })) ∧
  (∀ (k : Byte) (s : State), s.benchFree →
    exec (.setStation k) s =
      .next { s with reports := { s.reports with station := k }, bench := s.bench.answered 0x22 .accepted [] }) ∧
  (∀ (high low : Word) (s : State), s.benchFree →
    exec (.setClock high low) s =
      .next { s with reports := { s.reports with clock := high ++ low }, bench := s.bench.answered 0x23 .accepted [] }) ∧
  ∀ s : State,
    exec .clockTick s = .next { s with reports := { s.reports with clock := s.reports.clock + 1 } }

/-- READ_ATTENTION reports the enabled pending cause of lowest number, which is then no longer pending, and clears the changed flag
of the monitor whose class change it reports; with none it is answered EMPTY with cause number 0. ENABLE_ATTENTION sets the mask, or is
answered IGNORED when a bit from 9 up is set (R182, R55). -/
def Obligations.AttentionCommandsAct : Prop :=
  ∀ s : State, s.benchFree →
    ((∀ k, s.bench.isPending k = false ∨ s.bench.isEnabled k = false) →
      exec .readAttention s = .next { s with bench := s.bench.answered 0x28 .empty [0] }) ∧
    (∀ k : AttentionCause, s.bench.isPending k = true → s.bench.isEnabled k = true →
      (∀ j : AttentionCause, j.number < k.number → s.bench.isPending j = false ∨ s.bench.isEnabled j = false) →
      exec .readAttention s =
        .next { s with
          bench :=
            { s.bench with causes := s.bench.causes &&& ~~~k.bit }.answered 0x28 .accepted [BitVec.ofNat 16 k.number]
          monitors :=
            match k with
            | .classChanged n => s.monitors.set n { s.monitor n with changed := false }
            | _ => s.monitors }) ∧
    ∀ mask : Word,
      (512 ≤ mask.toNat →
        exec (.enableAttention mask) s = .next { s with bench := s.bench.answered 0x29 .ignored [] }) ∧
      (mask.toNat < 512 →
        exec (.enableAttention mask) s =
          .next { s with bench := { s.bench with enableMask := mask.setWidth 9 }.answered 0x29 .accepted [] })

/-! ### Plans -/

/-- An image that passes validation is the image of the plan read from it, word for word; so LOAD_PLAN of an image without offence
followed by READ_PLAN puts that image into the output buffer, with DATA_READY set and the pointer at 0 (R44, R46, R192). -/
def Obligations.AcceptedImageIsReadBack : Prop :=
  (∀ img : List Word, badPlanOffset img = none → (planOfImage img).image = img) ∧
  ∀ (b : Byte) (v : Fin 32) (length : Word) (s : State), variantOf b = some v → s.benchFree → (s.planEntry v).inUse = 0 →
    1 ≤ length.toNat → length.toNat ≤ 1024 → badPlanOffset (s.bench.intakeWords length.toNat) = none →
    ∃ t, execAll [.loadPlan b length, .readPlan b] s = .next t ∧
      t.bench.output = (List.range length.toNat).map (WordMem.read s.bench.intake) ∧
      t.bench.dataReady = true ∧ t.bench.pointer = 0 ∧ t.bench.reply = some ⟨[0x1200], 0⟩ ∧
      t.bench.intake = s.bench.intake

/-- The plan of an image without offence lies within the ranges of R35 to R39 and meets the checks of R42. -/
def Obligations.AcceptedPlanLiesInItsRanges : Prop :=
  ∀ (img : List Word) (p : Plan), badPlanOffset img = none → p = planOfImage img →
    p.label.length ≤ 12 ∧ (∀ c ∈ p.label, 0x20 ≤ c.toNat ∧ c.toNat ≤ 0x7E) ∧
    1 ≤ p.stages.length ∧ p.stages.length ≤ 8 ∧ 1 ≤ p.steps.length ∧ p.steps.length ≤ 16 ∧ 1 ≤ p.cycles ∧ p.cycles ≤ 8 ∧
    p.captures.length ≤ 8 ∧ p.attemptsMask ≤ 7 ∧ 20 ≤ p.jamTorque ∧ p.jamTorque ≤ 1000 ∧ 30 ≤ p.searchSpeed ∧
    p.searchSpeed ≤ 300 ∧ p.indexCount ≤ 15 ∧
    (∀ t ∈ p.steps, -3000 ≤ t.target ∧ t.target ≤ 3000 ∧ t.rampUpdates ≤ 5000 ∧ 1 ≤ t.dwellUpdates ∧
      t.dwellUpdates ≤ 30000 ∧ 1 ≤ t.torqueLimit ∧ t.torqueLimit ≤ 4000 ∧
      ∀ k, t.capture = some k → k < p.captures.length ∧ 100 ≤ t.target.natAbs) ∧
    (∀ l, (l = p.leakSet0 ∨ l = p.leakSet1) → 5000 ≤ l.fillTarget ∧ l.fillTarget ≤ 150000 ∧ 1 ≤ l.fillTimeout ∧
      l.fillTimeout ≤ 600 ∧ 1 ≤ l.settleTime ∧ l.settleTime ≤ 600 ∧ 10 ≤ l.measureTime ∧ l.measureTime ≤ 600 ∧
      1 ≤ l.decayLimit ∧ l.decayLimit ≤ 20000 ∧ l.compensation.length = 6 ∧ ∀ x ∈ l.compensation, -2000 ≤ x ∧ x ≤ 2000) ∧
    (∀ d ∈ p.captures, d.revolutions ∈ [4, 8, 16, 32] ∧ 1 ≤ d.blocks ∧ d.blocks ≤ 16 ∧ 1 ≤ d.overallLimit ∧
      d.overallLimit ≤ 32768 ∧ d.lines.length ≤ 8 ∧ d.windows.length ≤ 8 ∧
      (∀ l ∈ d.lines, 1 ≤ l.q ∧ l.q ≤ 511 ∧ 1 ≤ l.driveLimit ∧ l.driveLimit ≤ 65535 ∧ 1 ≤ l.coastLimit ∧
        l.coastLimit ≤ 65535) ∧
      ∀ w ∈ d.windows, w.start ≤ 4095 ∧ w.stop ≤ 4095 ∧ w.start ≠ w.stop ∧ 1 ≤ w.peakLimit ∧ w.peakLimit ≤ 32768) ∧
    (∀ i : Nat, (p.stages[i]? = some .reference ∨ p.stages[i]? = some .profile) → ∃ j : Nat, j < i ∧ p.stages[j]? = some .engage) ∧
    (Stage.engage ∈ p.stages → p.attemptsMask ≠ 0) ∧
    (∀ i j : Nat, p.stages[i]? = some .profile → p.stages[j]? = some .profile → i = j) ∧
    (∀ m set, Stage.leak m set ∈ p.stages → m.c0 = true ∨ m.c1 = true) ∧
    (∀ (i j : Nat) m m' set set' c, p.stages[i]? = some (.leak m set) → p.stages[j]? = some (.leak m' set') → m.has c = true →
      m'.has c = true → i = j) ∧
    ∀ i : Nat, p.stages[i]? = some .profile → (∀ j : Nat, j < i → p.stages[j]? ≠ some .reference) →
      ∀ t ∈ p.steps, ∀ (k : Nat) d, t.capture = some k → p.captures[k]? = some d → d.windows = []

/-- LOAD_PLAN, CLEAR_PLAN and READ_PLAN answer IGNORED for a variant above 31; LOAD_PLAN and CLEAR_PLAN of a variant in use are refused
PLAN_IN_USE; LOAD_PLAN refuses a length outside 1 to 1024 and an image with an offence, carrying its lowest offset, and else makes the
plan VALID with the image's contents; CLEAR_PLAN makes it EMPTY; READ_PLAN of an EMPTY plan is answered EMPTY, of a VALID one it fills
the output buffer with the image (R44, R45, R46). -/
def Obligations.PlanCommandsAct : Prop :=
  ∀ (b : Byte) (length : Word) (s : State), s.benchFree →
    (31 < b.toNat →
      exec (.loadPlan b length) s = .next { s with bench := s.bench.answered 0x10 .ignored [] } ∧
      exec (.clearPlan b) s = .next { s with bench := s.bench.answered 0x11 .ignored [] } ∧
      exec (.readPlan b) s = .next { s with bench := s.bench.answered 0x12 .ignored [] }) ∧
    ∀ v : Fin 32, b.toNat = v.val →
      (0 < (s.planEntry v).inUse →
        exec (.loadPlan b length) s = .next { s with bench := s.bench.answered 0x10 .planInUse [] } ∧
        exec (.clearPlan b) s = .next { s with bench := s.bench.answered 0x11 .planInUse [] }) ∧
      ((s.planEntry v).inUse = 0 →
        ((length.toNat = 0 ∨ 1024 < length.toNat) →
          exec (.loadPlan b length) s = .next { s with bench := s.bench.answered 0x10 .badLength [] }) ∧
        (∀ o, 1 ≤ length.toNat → length.toNat ≤ 1024 → badPlanOffset (s.bench.intakeWords length.toNat) = some o →
          exec (.loadPlan b length) s =
            .next { s with bench := s.bench.answered 0x10 .badPlan [BitVec.ofNat 16 o] } ∧ o ≤ 1024) ∧
        (1 ≤ length.toNat → length.toNat ≤ 1024 → badPlanOffset (s.bench.intakeWords length.toNat) = none →
          exec (.loadPlan b length) s =
            .next { s with
              plans := s.plans.set v ⟨some (planOfImage (s.bench.intakeWords length.toNat)), 0⟩
              bench := s.bench.answered 0x10 .accepted [] }) ∧
        exec (.clearPlan b) s =
          .next { s with plans := s.plans.set v ⟨none, 0⟩, bench := s.bench.answered 0x11 .accepted [] }) ∧
      ((s.planEntry v).plan = none →
        exec (.readPlan b) s = .next { s with bench := s.bench.answered 0x12 .empty [] }) ∧
      ∀ p, (s.planEntry v).plan = some p →
        exec (.readPlan b) s = .next { s with bench := s.bench.filled 0x12 p.image }

/-! ### Capture slots -/

/-- PIN marks a slot in use while fewer than two slots are PINNED or marked; UNPIN frees a PINNED slot, ending its view, or clears a
mark; VIEW_SLOT gives the data window to a PINNED slot with the pointer at 0 and DATA_READY set; the other cases are answered as R121,
R122 and R123 say, and change nothing. -/
def Obligations.SlotCommandsAct : Prop :=
  ∀ (b : Byte) (s : State), s.benchFree →
    (3 < b.toNat →
      exec (.pin b) s = .next { s with bench := s.bench.answered 0x18 .ignored [] } ∧
      exec (.unpin b) s = .next { s with bench := s.bench.answered 0x19 .ignored [] } ∧
      exec (.viewSlot b) s = .next { s with bench := s.bench.answered 0x1A .ignored [] }) ∧
    ∀ i : Fin 4, b.toNat = i.val →
      (((s.slot i).state = .free ∨ (s.slot i).state = .pinned) →
        exec (.pin b) s = .next { s with bench := s.bench.answered 0x18 .wrongState [] }) ∧
      (((s.slot i).state ≠ .free ∧ (s.slot i).state ≠ .pinned) →
        ((s.slot i).pinMark = true →
          exec (.pin b) s = .next { s with bench := s.bench.answered 0x18 .accepted [] } ∧
          exec (.unpin b) s =
            .next { s with
              slots := s.slots.set i { s.slot i with pinMark := false }
              bench := s.bench.answered 0x19 .accepted [] }) ∧
        ((s.slot i).pinMark = false → s.pinnedOrMarked < 2 →
          exec (.pin b) s =
            .next { s with
              slots := s.slots.set i { s.slot i with pinMark := true }
              bench := s.bench.answered 0x18 .accepted [] }) ∧
        ((s.slot i).pinMark = false → 2 ≤ s.pinnedOrMarked →
          exec (.pin b) s = .next { s with bench := s.bench.answered 0x18 .pinLimit [] }) ∧
        ((s.slot i).pinMark = false →
          exec (.unpin b) s = .next { s with bench := s.bench.answered 0x19 .wrongState [] })) ∧
      ((s.slot i).state = .free →
        exec (.unpin b) s = .next { s with bench := s.bench.answered 0x19 .wrongState [] }) ∧
      ((s.slot i).state = .pinned →
        exec (.unpin b) s =
            .next { s with
              slots := s.slots.set i ⟨.free, false, none, []⟩
              bench := { s.bench with view := if s.bench.view = some i then none else s.bench.view }.answered 0x19 .accepted [] } ∧
        exec (.viewSlot b) s =
            .next { s with
              bench := { s.bench with view := some i, pointer := 0, dataReady := true }.answered 0x1A .accepted [] }) ∧
      ((s.slot i).state ≠ .pinned →
        exec (.viewSlot b) s = .next { s with bench := s.bench.answered 0x1A .wrongState [] })

/-! ### The windows of the bench port -/

/-- The words of a bench command, written one by one to the command window while none is held or in collection, are the command:
COMMAND_WORD_COLLECT of every word, whatever stands in an argument the command does not use, does what the command's row does, for each
of the 22 commands of the table (R179, R196). -/
def Obligations.CommandWordsAreTheCommand : Prop :=
  ∀ s : State, s.bench.held = none → s.bench.collected = [] →
    (∀ a,
      writeCommand [firstWord 0x01 a] s = exec (.start a) s ∧ writeCommand [firstWord 0x02 a] s = exec (.abort .benchPort a) s ∧
      writeCommand [firstWord 0x03 a] s = exec (.retest a) s ∧ writeCommand [firstWord 0x04 a] s = exec (.file a) s ∧
      writeCommand [firstWord 0x05 a] s = exec (.quarantine a) s ∧
      writeCommand [firstWord 0x06 a] s = exec (.clearFaults a) s ∧
      writeCommand [firstWord 0x07 a] s = exec (.readDossier a) s ∧ writeCommand [firstWord 0x08 a] s = exec (.readTemp a) s ∧
      writeCommand [firstWord 0x11 a] s = exec (.clearPlan a) s ∧ writeCommand [firstWord 0x12 a] s = exec (.readPlan a) s ∧
      writeCommand [firstWord 0x18 a] s = exec (.pin a) s ∧ writeCommand [firstWord 0x19 a] s = exec (.unpin a) s ∧
      writeCommand [firstWord 0x1A a] s = exec (.viewSlot a) s ∧ writeCommand [firstWord 0x20 a] s = exec (.readReport a) s ∧
      writeCommand [firstWord 0x22 a] s = exec (.setStation a) s ∧
      writeCommand [firstWord 0x28 a] s = exec .readAttention s ∧ writeCommand [firstWord 0x2A a] s = exec .readStation s) ∧
    ∀ a b c,
      writeCommand [firstWord 0x10 a, b] s = exec (.loadPlan a b) s ∧
      writeCommand [firstWord 0x21 a, b] s = exec (.setReportBase b) s ∧
      writeCommand [firstWord 0x29 a, b] s = exec (.enableAttention b) s ∧
      writeCommand [firstWord 0x09 a, b, c] s = exec (.zero a b c) s ∧
      writeCommand [firstWord 0x23 a, b, c] s = exec (.setClock b c) s

/-- A word written while a command is held is ignored and sets OVERRUN. A first word whose code is not in the table is answered
UNKNOWN_COMMAND at once. The first word of a longer command joins the collection and changes nothing else (R179). -/
def Obligations.CommandWindowTakesWords : Prop :=
  ∀ (w : Word) (s : State), s.bench.writeLatches.command = none →
    (s.bench.held ≠ none →
      exec (.commandWordOverrun w) s = .next { s with bench := { s.bench with overrun := true } }) ∧
    (s.benchFree → codeOf w ∉ ([0x01, 0x02, 0x03, 0x04, 0x05, 0x06, 0x07, 0x08, 0x09, 0x10, 0x11, 0x12, 0x18, 0x19, 0x1A, 0x20, 0x21, 0x22,
        0x23, 0x28, 0x29, 0x2A] : List Byte) →
      exec (.unknownCommand w) s = .next { s with bench := s.bench.answered (codeOf w) .unknownCommand [] }) ∧
    (s.benchFree → codeOf w ∈ ([0x09, 0x10, 0x21, 0x23, 0x29] : List Byte) →
      exec (.commandWordCollect w) s = .next { s with bench := { s.bench with collected := [w] } })

/-- A read of the reply window drives the word at the read index and advances it, clears OVERRUN at the first word and REPLY_READY
at the last, and drives 0 beyond the last or with no reply; a write of the reply or the flags window is ignored; a write of the
pointer window sets the pointer to its low 13 bits, clears PAST_END and discards half-latched accesses of the data window (R177,
R178, R179, R180). That this whole-word write also drops a half-latched byte of the pointer window itself is the model's choice
(notes/assumptions/19.md). -/
def Obligations.ReplyAndPointerWindowsAct : Prop :=
  ∀ s : State,
    (s.bench.readLatches.reply = none →
      (s.bench.reply = none → exec .replyWindowRead s = .next { s with bench := { s.bench with driven := 0 } }) ∧
      ∀ r : BenchReply, s.bench.reply = some r →
        (∀ w, r.words[r.index]? = some w →
          exec .replyWindowRead s =
            .next { s with
              bench :=
                { s.bench with
                  driven := w
                  reply := some { r with index := r.index + 1 }
                  overrun := if r.index = 0 then false else s.bench.overrun
                  replyReady := if r.index + 1 = r.words.length then false else s.bench.replyReady } }) ∧
        (r.words.length ≤ r.index →
          exec .replyWindowRead s = .next { s with bench := { s.bench with driven := 0 } })) ∧
    (∀ w, s.bench.writeLatches.reply = none →
      exec (.registerWrite .reply w) s = .next s ∧ exec (.registerWrite .flags w) s = .next s) ∧
    ∀ w : Word,
      exec (.pointerWindowWrite w) s =
        .next { s with
          bench :=
            { s.bench with
              pointer := w.setWidth 13
              pastEnd := false
              readLatches := { s.bench.readLatches with data := none }
              writeLatches := { s.bench.writeLatches with data := none, pointer := none } } }

/-- A read of the data window drives the output buffer's word, or the viewed slot's sample, at the pointer, clears DATA_READY at the
content's last word, drives 0 and sets PAST_END beyond it, and advances the pointer; a write stores the word in the intake buffer below
1,024 and is ignored with PAST_END set from there on; every other word of the intake buffer reads as before (R180, R123). -/
def Obligations.DataWindowReadsAndWrites : Prop :=
  ∀ s : State,
    (s.bench.readLatches.data = none →
      (∀ w, s.bench.view = none → s.bench.output[s.bench.pointer.toNat]? = some w →
        exec .dataWindowRead s =
          .next { s with
            bench :=
              { s.bench with
                driven := w
                pointer := s.bench.pointer + 1
                dataReady := if s.bench.pointer.toNat + 1 = s.bench.output.length then false else s.bench.dataReady } }) ∧
      (s.bench.view = none → s.bench.output.length ≤ s.bench.pointer.toNat →
        exec .dataWindowRead s =
          .next { s with bench := { s.bench with driven := 0, pointer := s.bench.pointer + 1, pastEnd := true } }) ∧
      (∀ i d x, s.bench.view = some i → (s.slot i).descriptor = some d → (s.slot i).samples.length = 256 * d.revolutions →
        (s.slot i).samples[s.bench.pointer.toNat]? = some x →
        exec .dataWindowRead s =
          .next { s with
            bench :=
              { s.bench with
                driven := BitVec.ofInt 16 x
                pointer := s.bench.pointer + 1
                dataReady := if s.bench.pointer.toNat + 1 = 256 * d.revolutions then false else s.bench.dataReady } }) ∧
      (∀ i d, s.bench.view = some i → (s.slot i).descriptor = some d → (s.slot i).samples.length = 256 * d.revolutions →
        256 * d.revolutions ≤ s.bench.pointer.toNat →
        exec .dataWindowRead s =
          .next { s with bench := { s.bench with driven := 0, pointer := s.bench.pointer + 1, pastEnd := true } })) ∧
    ∀ w : Word, s.bench.writeLatches.data = none → WordMem.wf s.bench.intake = true →
      (s.bench.pointer.toNat < 1024 →
        ∃ m, exec (.dataWindowWrite w) s =
            .next { s with bench := { s.bench with intake := m, pointer := s.bench.pointer + 1 } } ∧
          WordMem.read m s.bench.pointer.toNat = w ∧
          ∀ a, a ≠ s.bench.pointer.toNat → WordMem.read m a = WordMem.read s.bench.intake a) ∧
      (1024 ≤ s.bench.pointer.toNat →
        exec (.dataWindowWrite w) s =
          .next { s with bench := { s.bench with pointer := s.bench.pointer + 1, pastEnd := true } })

/-- The address lines choose the windows: command, reply, data, pointer and flags have the numbers w = 0 to 4, in 16-bit mode window w has
address w, in 8-bit mode its low byte has address 2w and its high byte 2w + 1, and no other address names a window (R177). In 8-bit mode
the two halves of a window, in either order, make one word access: two byte writes are the word's write, the same
half again replaces the held byte; two byte reads take the effects of one word read and return the halves of the word that it
returns, latched at the first half, which the same half returns again; the flags window is read by either half alone, its high half 0
(R178). The word that a byte read drives, the byte in the low half, is the model's choice (notes/assumptions/19.md). -/
def Obligations.ByteHalvesMakeOneAccess : Prop :=
  (∀ w : Window, w.number = (match w with | .command => 0 | .reply => 1 | .data => 2 | .pointer => 3 | .flags => 4) ∧
    ∀ a : Nat, (windowOfAddress true a = some w ↔ a = w.number) ∧
      ∀ op : ByteOp, (byteAccessAt a op = some ⟨w, .low, op⟩ ↔ a = 2 * w.number) ∧
        (byteAccessAt a op = some ⟨w, .high, op⟩ ↔ a = 2 * w.number + 1)) ∧
  (∀ a op, (5 ≤ a → windowOfAddress true a = none) ∧ (10 ≤ a → byteAccessAt a op = none)) ∧
  ∀ s : State, s.bench.width16 = false →
    (∀ hi lo : Byte,
      (s.bench.writeLatches.command = none →
        execAll [.byteHalfAccess ⟨.command, .low, .write lo⟩, .byteHalfAccess ⟨.command, .high, .write hi⟩] s =
            exec (.commandWordCollect (hi ++ lo)) s ∧
          execAll [.byteHalfAccess ⟨.command, .high, .write hi⟩, .byteHalfAccess ⟨.command, .low, .write lo⟩] s =
            exec (.commandWordCollect (hi ++ lo)) s) ∧
      (s.bench.writeLatches.data = none →
        execAll [.byteHalfAccess ⟨.data, .low, .write lo⟩, .byteHalfAccess ⟨.data, .high, .write hi⟩] s =
            exec (.dataWindowWrite (hi ++ lo)) s ∧
          execAll [.byteHalfAccess ⟨.data, .high, .write hi⟩, .byteHalfAccess ⟨.data, .low, .write lo⟩] s =
            exec (.dataWindowWrite (hi ++ lo)) s ∧
          ∀ old : Byte,
            execAll
                [.byteHalfAccess ⟨.data, .low, .write old⟩, .byteHalfAccess ⟨.data, .low, .write lo⟩,
                  .byteHalfAccess ⟨.data, .high, .write hi⟩] s =
              exec (.dataWindowWrite (hi ++ lo)) s) ∧
      (s.bench.writeLatches.pointer = none →
        execAll [.byteHalfAccess ⟨.pointer, .low, .write lo⟩, .byteHalfAccess ⟨.pointer, .high, .write hi⟩] s =
          exec (.pointerWindowWrite (hi ++ lo)) s)) ∧
    (∀ h h' : Half, h ≠ h' →
      (s.bench.readLatches.data = none →
        ∃ m m' t u, exec (.byteHalfAccess ⟨.data, h, .read⟩) s = .next m ∧ exec (.byteHalfAccess ⟨.data, h, .read⟩) m = .next m' ∧
          exec (.byteHalfAccess ⟨.data, h', .read⟩) m' = .next t ∧ exec .dataWindowRead s = .next u ∧
          t = { u with bench := { u.bench with driven := t.bench.driven } } ∧
          m.bench.driven = (halfOf h u.bench.driven).setWidth 16 ∧ m' = m ∧
          t.bench.driven = (halfOf h' u.bench.driven).setWidth 16) ∧
      (s.bench.readLatches.reply = none →
        ∃ m t u, exec (.byteHalfAccess ⟨.reply, h, .read⟩) s = .next m ∧
          exec (.byteHalfAccess ⟨.reply, h', .read⟩) m = .next t ∧ exec .replyWindowRead s = .next u ∧
          t = { u with bench := { u.bench with driven := t.bench.driven } } ∧
          m.bench.driven = (halfOf h u.bench.driven).setWidth 16 ∧
          t.bench.driven = (halfOf h' u.bench.driven).setWidth 16)) ∧
    exec (.byteHalfAccess ⟨.flags, .low, .read⟩) s = .next { s with bench := { s.bench with driven := s.bench.flagsWord } } ∧
    exec (.byteHalfAccess ⟨.flags, .high, .read⟩) s = .next { s with bench := { s.bench with driven := 0 } }

/-! ### Drive updates -/

/-- An update of a controlled stop moves the set-point 3 rpm toward 0; at a magnitude of 3 or less it becomes 0 and the enable
turns off (R63). While PROFILING it also raises the peak |torque|, in every class and at every torque, and the stage, here the
last of its list, ends where the enable drops: a pending run-in record is given PASS and a capture record never requested SKIPPED
(R24, R25, R65, R87, R94, R95). A STOPPING dossier whose circuits are IDLE is then JUDGED, and FILED or not, ABORTED with its
stopping cause (R27, R65); a REFERENCE stage ends and the PROFILE stage after it begins at its step 0 (R22, R65, R80), or, in
class 7 and as the last of its list, ends at once with TEMP_HOLD for a pending run-in record and SKIPPED for the pending capture
records never requested (R25, R81). -/
def Obligations.ControlledStopComesToRest : Prop :=
  ∀ (u : UpdateInput) (s : State), s.interlock.zero = none → s.captureUnit u.nest = .idle →
    (s.channel u.nest).stopping = true → (s.channel u.nest).enable = true →
    (∀ x, (s.channel u.nest).setPoint = x → 3 < x.natAbs → (∀ c, (s.channel u.nest).activity ≠ .profiling c) →
      exec (.driveUpdate u) s =
        .next { s with
          channels := s.channels.set u.nest { s.channel u.nest with setPoint := if 0 < x then x - 3 else x + 3 } }) ∧
    (∀ c x, (s.channel u.nest).activity = .profiling c → (s.channel u.nest).setPoint = x →
      (3 < x.natAbs →
        exec (.driveUpdate u) s =
          .next { s with
            channels := s.channels.set u.nest { s.channel u.nest with setPoint := if 0 < x then x - 3 else x + 3 }
            dossiers :=
              s.dossiers.set u.nest
                { s.dossier u.nest with
                  runIn := (s.dossier u.nest).runIn.map fun r =>
                    { r with peakTorque := max r.peakTorque (s.torqueAt u).natAbs } } }) ∧
      ∀ p i, x.natAbs ≤ 3 → s.stageIs u.nest p i .profile → i + 1 = p.stages.length →
        ∃ t, exec (.controlledStopComplete u) s = .next t ∧ (t.dossier u.nest).stageIndex = none ∧
          (t.channel u.nest).activity = .idle ∧ (t.channel u.nest).enable = false ∧ (t.channel u.nest).setPoint = 0 ∧
          (t.channel u.nest).stopping = false ∧
          (t.dossier u.nest).runIn =
            (s.dossier u.nest).runIn.map (fun r =>
              { r with
                peakTorque := max r.peakTorque (s.torqueAt u).natAbs
                given := some (r.given.getD ⟨.pass, .none⟩) }) ∧
          (t.dossier u.nest).captures =
            (s.dossier u.nest).captures.map (fun r =>
              if r.side = none ∧ r.given = none then { r with given := some ⟨.notMeasured, .skipped⟩ } else r) ∧
          s.sameElsewhere t u.nest) ∧
    ((s.channel u.nest).setPoint.natAbs ≤ 3 → (s.channel u.nest).activity = .idle →
      (((s.dossier u.nest).state ≠ .stopping ∨ ∃ c, (s.circuit u.nest c).state ≠ .idle) →
        exec (.controlledStopComplete u) s =
          .next { s with
            channels :=
              s.channels.set u.nest { s.channel u.nest with setPoint := 0, enable := false, stopping := false } }) ∧
      ((s.dossier u.nest).state = .stopping → (s.dossier u.nest).stopped = true →
        (∀ c, (s.circuit u.nest c).state = .idle) →
        ∃ t, exec (.controlledStopComplete u) s = .next t ∧
          ((t.dossier u.nest).state = .judged ∨ (t.dossier u.nest).state = .filed) ∧
          (t.dossier u.nest).verdict = some .aborted ∧ (t.dossier u.nest).verdictCause = (s.dossier u.nest).stoppingCause ∧
          (t.dossier u.nest).judgedTime = some s.reports.clock ∧
          (∀ g ∈ (t.dossier u.nest).results, g ≠ none) ∧
          t.channel u.nest =
            { s.channel u.nest with setPoint := 0, enable := false, stopping := false, engaged := false, reference := none } ∧
          t.bench.isPending (.judged u.nest) = true ∧ s.sameElsewhere t u.nest)) ∧
    (∀ p i r, s.stageIs u.nest p i .reference → (s.channel u.nest).activity = .creeping r →
      (s.channel u.nest).setPoint.natAbs ≤ 3 → p.stages[i + 1]? = some .profile → i + 1 ∉ (s.dossier u.nest).skipped →
      s.classOf u.nest = 7 → i + 2 = p.stages.length →
      ∃ t, exec (.controlledStopComplete u) s = .next t ∧ (t.dossier u.nest).stageIndex = none ∧
        (t.channel u.nest).activity = .idle ∧ (t.channel u.nest).enable = false ∧ (t.channel u.nest).setPoint = 0 ∧
        ((t.dossier u.nest).runIn.map RunInRecord.given =
          (s.dossier u.nest).runIn.map fun r => some (r.given.getD ⟨.notMeasured, .tempHold⟩)) ∧
        (t.dossier u.nest).captures =
          (s.dossier u.nest).captures.map (fun r =>
            if r.side = none ∧ r.given = none then { r with given := some ⟨.notMeasured, .skipped⟩ } else r) ∧
        s.sameElsewhere t u.nest) ∧
    ∀ p i r st sts, s.stageIs u.nest p i .reference → (s.channel u.nest).activity = .creeping r →
      (s.channel u.nest).setPoint.natAbs ≤ 3 → p.stages[i + 1]? = some .profile → i + 1 ∉ (s.dossier u.nest).skipped →
      s.classOf u.nest ≠ 7 → p.steps = st :: sts →
      ∃ t c, exec (.controlledStopComplete u) s = .next t ∧
        t.dossier u.nest = { s.dossier u.nest with stageIndex := some (i + 1), lastBegun := some (i + 1) } ∧
        t.channel u.nest =
          { s.channel u.nest with setPoint := 0, enable := false, stopping := false, activity := .profiling c } ∧
        c.stepIndex = 0 ∧ c.cycle = 1 ∧ c.rampStart = 0 ∧ c.endPending = false ∧ c.torqueRun = 0 ∧
        c.phase = (if 1 ≤ st.rampUpdates then .ramp else .dwell) ∧ s.sameElsewhere t u.nest

/-- In the permit wait an update without a permit counts; the 2,500th gives run-in FAIL PERMIT_LAPSE and ends the stage, here the last
of its list, with the drive never enabled; the first update with the permit live begins the first attempt of the mask: with every
condition of R62 met the enable is on and the attempt's first set-point sent, and a condition that fails is acted on in its order, an
open guard with a stop GUARD, an active drive fault with DRIVE_FAULT, class 7 with OVERHEAT (R62, R69, R70). -/
def Obligations.PermitWaitCountsAndEnds : Prop :=
  ∀ (u : UpdateInput) (p : Plan) (i w : Nat) (s : State), s.stageIs u.nest p i .engage → s.quiet u.nest →
    (s.channel u.nest).activity = .permitWait w → (s.channel u.nest).enable = false → (s.channel u.nest).setPoint = 0 →
    (s.interlock.permitLive = false → w + 1 < 2500 →
      exec (.permitWaitExpiry u) s =
        .next { s with
          channels := s.channels.set u.nest { s.channel u.nest with activity := .permitWait (w + 1) } }) ∧
    (s.interlock.permitLive = false → w + 1 = 2500 → i + 1 = p.stages.length →
      ∃ t, exec (.permitWaitExpiry u) s = .next t ∧ s.failedAtRest t u.nest .permitLapse) ∧
    ∀ a as, s.interlock.permitLive = true → attemptsOf p.attemptsMask = a :: as →
      (s.enableAllowed u.nest → s.classOf u.nest ≠ 7 → (s.torqueAt u).natAbs ≤ p.jamTorque →
        exec (.permitWaitExpiry u) s =
          .next { s with
            channels :=
              s.channels.set u.nest
                { s.channel u.nest with
                  enable := true
                  setPoint := (match a with | .forwardCreep => 20 | .reverseCreep => -20 | .oscillation => 10)
                  activity := .engaging ⟨a, true, 1, if u.seated then 1 else 0, 0, false⟩ } }) ∧
      (i + 1 = p.stages.length → s.listSound u.nest →
        ∃ t, exec (.permitWaitExpiry u) s = .next t ∧ s.enableRefused t u.nest (s.classOf u.nest = 7))

/-- An attempt to begin turns the enable on when every condition of R62 holds, and sends its first set-point; a condition that fails is
acted on in its order, an open guard with a stop GUARD, then DRIVE_FAULT, OVERHEAT and PERMIT_LAPSE, the stage ended at rest (R62, R70).
With the enable on, class 7 gives OVERHEAT and a controlled stop (R66); the tenth consecutive seated update makes the nest ENGAGED,
writes the attempt used and requests a controlled stop; else the third consecutive update above the jam torque, or the 1,500th update,
requests one and abandons the attempt (R71, R72). The set-point sent at that update is the attempt's: the model's reading of section
4.6 (notes/assumptions/10.md). -/
def Obligations.EngageAttemptSucceedsOrIsAbandoned : Prop :=
  (∀ (u : UpdateInput) (p : Plan) (i : Nat) (a : Attempt) (s : State), s.stageIs u.nest p i .engage → s.quiet u.nest →
    (s.channel u.nest).activity = .engaging ⟨a, false, 0, 0, 0, false⟩ → (s.channel u.nest).enable = false →
    (s.channel u.nest).setPoint = 0 →
    (s.enableAllowed u.nest → s.classOf u.nest ≠ 7 → (s.torqueAt u).natAbs ≤ p.jamTorque →
      exec (.driveUpdate u) s =
        .next { s with
          channels :=
            s.channels.set u.nest
              { s.channel u.nest with
                enable := true
                setPoint := (match a with | .forwardCreep => 20 | .reverseCreep => -20 | .oscillation => 10)
                activity := .engaging ⟨a, true, 1, if u.seated then 1 else 0, 0, false⟩ } }) ∧
    (i + 1 = p.stages.length → s.listSound u.nest →
      ∃ t, exec (.driveUpdate u) s = .next t ∧ s.enableRefused t u.nest (s.classOf u.nest = 7))) ∧
  ∀ (u : UpdateInput) (p : Plan) (i : Nat) (e : EngageCounters) (x : Int) (s : State), s.stageIs u.nest p i .engage →
    s.quiet u.nest → (s.channel u.nest).activity = .engaging e → e.begun = true → (s.channel u.nest).enable = true →
    (s.classOf u.nest = 7 → 3 < (s.channel u.nest).setPoint.natAbs → u.seated = false →
      (s.torqueAt u).natAbs ≤ p.jamTorque → e.updates + 1 < 1500 →
      ∃ t, exec (.driveUpdate u) s = .next t ∧ s.failedMoving t u.nest p i .overheat) ∧
    (s.classOf u.nest ≠ 7 →
    x = (match e.attempt with
      | .forwardCreep => 20
      | .reverseCreep => -20
      | .oscillation => if e.updates / 125 % 2 = 0 then 10 else -10) →
    (u.seated = true → e.seatedRun = 9 →
      exec (.engageSuccess u) s =
        .next { s with
          channels :=
            s.channels.set u.nest
              { s.channel u.nest with
                setPoint := x
                engaged := true
                stopping := true
                activity := .engaging { e with updates := e.updates + 1, seatedRun := 10 } }
          dossiers :=
            s.dossiers.set u.nest
              { s.dossier u.nest with
                runIn := (s.dossier u.nest).runIn.map fun r => { r with attemptUsed := e.attempt.number } } }) ∧
    (u.seated = false → p.jamTorque < (s.torqueAt u).natAbs → e.jamRun = 2 →
      exec (.jamAbandon u) s =
        .next { s with
          channels :=
            s.channels.set u.nest
              { s.channel u.nest with
                setPoint := x
                stopping := true
                activity := .engaging { e with updates := e.updates + 1, seatedRun := 0, jamRun := 3 } } }) ∧
    (u.seated = false → (s.torqueAt u).natAbs ≤ p.jamTorque → e.updates = 1499 →
      exec (.engageAttemptTimeout u) s =
        .next { s with
          channels :=
            s.channels.set u.nest
              { s.channel u.nest with
                setPoint := x
                stopping := true
                activity := .engaging { e with updates := 1500, seatedRun := 0, jamRun := 0 } } }) ∧
    (u.seated = true → e.seatedRun < 9 → (s.torqueAt u).natAbs ≤ p.jamTorque → e.updates + 1 < 1500 →
      exec (.driveUpdate u) s =
        .next { s with
          channels :=
            s.channels.set u.nest
              { s.channel u.nest with
                setPoint := x
                activity := .engaging { e with updates := e.updates + 1, seatedRun := e.seatedRun + 1, jamRun := 0 } } }))

/-- When the enable drops after an abandoned attempt, the next attempt of the mask is to begin at the next update; with none left the
run-in record is given FAIL ENGAGE_FAIL and the stage ends, here the last of its list (R65, R72, R35). -/
def Obligations.AbandonedAttemptIsFollowed : Prop :=
  ∀ (u : UpdateInput) (p : Plan) (i : Nat) (e : EngageCounters) (s : State), s.stageIs u.nest p i .engage →
    s.interlock.zero = none → s.captureUnit u.nest = .idle → (s.channel u.nest).stopping = true →
    (s.channel u.nest).activity = .engaging e → e.failed = false → (s.channel u.nest).engaged = false →
    (s.channel u.nest).setPoint.natAbs ≤ 3 →
    (∀ a : Attempt, e.attempt.number < a.number → a ∈ attemptsOf p.attemptsMask →
      (∀ b ∈ attemptsOf p.attemptsMask, b.number < a.number → b.number ≤ e.attempt.number) →
      exec (.controlledStopComplete u) s =
        .next { s with
          channels :=
            s.channels.set u.nest
              { s.channel u.nest with
                setPoint := 0
                enable := false
                stopping := false
                activity := .engaging ⟨a, false, 0, 0, 0, false⟩ } }) ∧
    ((∀ b ∈ attemptsOf p.attemptsMask, b.number ≤ e.attempt.number) → i + 1 = p.stages.length →
      ∃ t, exec (.controlledStopComplete u) s = .next t ∧ s.runInFailed t u.nest .engageFail ∧
        (t.dossier u.nest).stageIndex = none ∧ (t.channel u.nest).activity = .idle ∧ (t.channel u.nest).enable = false ∧
        (t.channel u.nest).setPoint = 0 ∧ s.sameElsewhere t u.nest)

/-- The third consecutive update above the jam torque in a REFERENCE stage, or above the effective torque limit in a PROFILE stage
(three quarters of the step's limit in class 6), gives run-in FAIL TORQUE_TRIP, the torque run of a REFERENCE stage then 3, and
class 7 with the enable on gives OVERHEAT; each skips the later REFERENCE and PROFILE stages and requests a controlled stop that
moves that update's set-point 3 rpm toward 0 (R25, R63, R66, R74, R91, R92, R93). Without them an update of a REFERENCE stage
sends 3 rpm more up to the search speed while SEARCHING (R73), 3 rpm toward 0 and then toward −10 while REVERSING, the travel
count 0 and the direction reverse at the first negative set-point (R76; that a move which would pass 0 ends at 0, from 1 or 2 rpm,
is the model's reading, notes/assumptions/31.md), 3 rpm toward 10, or −10 in reverse, while CREEPING (R75, R76); the first turns
the enable on at 3 rpm under R62, its conditions in order. -/
def Obligations.TorqueTripsStopTheStage : Prop :=
  (∀ (u : UpdateInput) (p : Plan) (i : Nat) (s : State), s.quiet u.nest → (s.channel u.nest).enable = true →
    3 < (s.channel u.nest).setPoint.natAbs →
    (∀ r, s.stageIs u.nest p i .reference →
      ((s.channel u.nest).activity = .searching r ∨ (s.channel u.nest).activity = .reversing r ∨
        (s.channel u.nest).activity = .creeping r) →
      (s.classOf u.nest ≠ 7 → r.torqueRun = 2 → p.jamTorque < (s.torqueAt u).natAbs →
        ∃ t, exec (.refTorqueTrip u) s = .next t ∧ s.failedMoving t u.nest p i .torqueTrip ∧
          ((s.channel u.nest).activity = .searching r → (t.channel u.nest).activity = .searching { r with torqueRun := 3 }) ∧
          ((s.channel u.nest).activity = .reversing r → (t.channel u.nest).activity = .reversing { r with torqueRun := 3 }) ∧
          ((s.channel u.nest).activity = .creeping r → (t.channel u.nest).activity = .creeping { r with torqueRun := 3 })) ∧
      (s.classOf u.nest = 7 → (r.torqueRun < 2 ∨ (s.torqueAt u).natAbs ≤ p.jamTorque) →
        ∃ t, exec (.driveUpdate u) s = .next t ∧ s.failedMoving t u.nest p i .overheat)) ∧
    ∀ c st, s.stageIs u.nest p i .profile → (s.channel u.nest).activity = .profiling c → c.endPending = false →
      p.steps[c.stepIndex]? = some st → (c.phase = .ramp ∨ c.dwellCount < st.dwellUpdates) →
      (s.classOf u.nest = 7 → ∃ t, exec (.driveUpdate u) s = .next t ∧ s.failedMoving t u.nest p i .overheat) ∧
      (s.classOf u.nest ≠ 7 → c.torqueRun = 2 →
        (if s.classOf u.nest = 6 then st.torqueLimit * 3 / 4 else st.torqueLimit) < (s.torqueAt u).natAbs →
        ∃ t, exec (.torqueTrip u) s = .next t ∧ s.failedMoving t u.nest p i .torqueTrip ∧
          (t.dossier u.nest).runIn.map RunInRecord.stepsCompleted = (s.dossier u.nest).runIn.map RunInRecord.stepsCompleted ∧
          (t.dossier u.nest).runIn.map RunInRecord.peakTorque =
            (s.dossier u.nest).runIn.map fun r => max r.peakTorque (s.torqueAt u).natAbs)) ∧
  (∀ (u : UpdateInput) (p : Plan) (i : Nat) (r : RefCounters) (x y : Int) (run : Nat) (s : State),
    s.stageIs u.nest p i .reference → s.quiet u.nest → (s.channel u.nest).enable = true → s.classOf u.nest ≠ 7 →
    (s.channel u.nest).setPoint = x → run = (if p.jamTorque < (s.torqueAt u).natAbs then r.torqueRun + 1 else 0) → run < 3 →
    ((s.channel u.nest).activity = .searching r → x ≤ p.searchSpeed → y = min (p.searchSpeed : Int) (x + 3) →
      exec (.driveUpdate u) s =
        .next { s with
          channels :=
            s.channels.set u.nest
              { s.channel u.nest with setPoint := y, activity := .searching { r with torqueRun := run } } }) ∧
    ((s.channel u.nest).activity = .reversing r → -10 ≤ x → y = (if 0 < x then max 0 (x - 3) else max (-10) (x - 3)) →
      exec (.driveUpdate u) s =
        .next { s with
          channels :=
            s.channels.set u.nest
              { s.channel u.nest with
                setPoint := y
                activity :=
                  .reversing
                    (if y < 0 ∧ r.reverse = false then { r with torqueRun := run, travel := 0, reverse := true }
                    else { r with torqueRun := run }) } }) ∧
    ((s.channel u.nest).activity = .creeping r →
      y = (if r.reverse then (if x < -10 then min (-10) (x + 3) else max (-10) (x - 3))
        else (if x < 10 then min 10 (x + 3) else max 10 (x - 3))) →
      exec (.driveUpdate u) s =
        .next { s with
          channels :=
            s.channels.set u.nest
              { s.channel u.nest with setPoint := y, activity := .creeping { r with torqueRun := run } } })) ∧
  ∀ (u : UpdateInput) (p : Plan) (i : Nat) (s : State), s.stageIs u.nest p i .reference → s.quiet u.nest →
    (s.channel u.nest).activity = .searching ⟨0, false, 0, 0⟩ → (s.channel u.nest).enable = false →
    (s.channel u.nest).setPoint = 0 → 3 ≤ p.searchSpeed →
    (s.enableAllowed u.nest → s.classOf u.nest ≠ 7 → (s.torqueAt u).natAbs ≤ p.jamTorque →
      exec (.driveUpdate u) s =
        .next { s with
          channels := s.channels.set u.nest { s.channel u.nest with enable := true, setPoint := 3 } }) ∧
    (i + 1 = p.stages.length → s.listSound u.nest →
      ∃ t, exec (.driveUpdate u) s = .next t ∧ s.enableRefused t u.nest (s.classOf u.nest = 7))

/-- Update k of a ramp of n updates from s0 to a target sends s0 plus the quotient of (target − s0) × k by n truncated toward zero,
which is the target at k = n, through the limiter: unchanged in classes 0 to 5; in class 6 a magnitude above 2000 rpm is clamped to
2000, or, from a set-point more than 3 rpm beyond, falls 3 rpm toward 0 (R83, R87, R89, R91, R92). With the enable off a computed value
of 0 leaves it off; the first that is not 0 turns it on with the limiter's output against 0, in class 7 gives OVERHEAT with the drive
never enabled, and under R62 its failing condition is acted on (R88). The completion update requests a controlled stop that moves its
set-point; where the enable drops the stage, here the last of its list, ends and gives a pending run-in record PASS (R24, R63, R94). -/
def Obligations.RampUpdatesReachTheTarget : Prop :=
  (∀ (u : UpdateInput) (p : Plan) (i : Nat) (c : ProfileCounters) (st : Step) (s : State), s.stageIs u.nest p i .profile →
    s.quiet u.nest → (s.channel u.nest).activity = .profiling c → (s.channel u.nest).enable = true → s.classOf u.nest ≤ 6 →
    c.endPending = false → c.stepCapture = .none → p.steps[c.stepIndex]? = some st → c.phase = .ramp →
    c.rampCount < st.rampUpdates → -3000 ≤ st.target → st.target ≤ 3000 → -3000 ≤ c.rampStart → c.rampStart ≤ 3000 →
    (s.torqueAt u).natAbs ≤ (if s.classOf u.nest = 6 then st.torqueLimit * 3 / 4 else st.torqueLimit) →
    ∃ x y : Int, x = c.rampStart + ((st.target - c.rampStart) * (c.rampCount + 1)).tdiv st.rampUpdates ∧
      (c.rampCount + 1 = st.rampUpdates → x = st.target) ∧
      ((s.classOf u.nest ≤ 5 ∨ (-2000 ≤ x ∧ x ≤ 2000)) → y = x) ∧
      (s.classOf u.nest = 6 → 2000 < x → -2003 ≤ (s.channel u.nest).setPoint → (s.channel u.nest).setPoint ≤ 2003 → y = 2000) ∧
      (s.classOf u.nest = 6 → x < -2000 → -2003 ≤ (s.channel u.nest).setPoint → (s.channel u.nest).setPoint ≤ 2003 →
        y = -2000) ∧
      (s.classOf u.nest = 6 → (2000 < x ∨ x < -2000) → 2003 < (s.channel u.nest).setPoint →
        y = (s.channel u.nest).setPoint - 3) ∧
      (s.classOf u.nest = 6 → (2000 < x ∨ x < -2000) → (s.channel u.nest).setPoint < -2003 →
        y = (s.channel u.nest).setPoint + 3) ∧
      exec (.rampEnd u) s =
        .next { s with
          channels :=
            s.channels.set u.nest
              { s.channel u.nest with
                setPoint := y
                activity := .profiling { c with rampCount := c.rampCount + 1, computed := x, torqueRun := 0 } }
          dossiers :=
            s.dossiers.set u.nest
              { s.dossier u.nest with
                runIn := (s.dossier u.nest).runIn.map fun r =>
                  { r with peakTorque := max r.peakTorque (s.torqueAt u).natAbs } } }) ∧
  (∀ (u : UpdateInput) (p : Plan) (i : Nat) (c : ProfileCounters) (st : Step) (x : Int) (s : State),
    s.stageIs u.nest p i .profile → s.quiet u.nest → (s.channel u.nest).activity = .profiling c →
    (s.channel u.nest).enable = false → (s.channel u.nest).setPoint = 0 → c.endPending = false → c.stepCapture = .none →
    p.steps[c.stepIndex]? = some st → c.phase = .ramp → c.rampCount < st.rampUpdates →
    x = c.rampStart + ((st.target - c.rampStart) * (c.rampCount + 1)).tdiv st.rampUpdates → -3000 ≤ x → x ≤ 3000 →
    (x = 0 →
      exec (.driveUpdate u) s =
        .next { s with
          channels :=
            s.channels.set u.nest
              { s.channel u.nest with activity := .profiling { c with rampCount := c.rampCount + 1, computed := 0 } }
          dossiers :=
            s.dossiers.set u.nest
              { s.dossier u.nest with
                runIn := (s.dossier u.nest).runIn.map fun r =>
                  { r with peakTorque := max r.peakTorque (s.torqueAt u).natAbs } } }) ∧
    (x ≠ 0 → s.enableAllowed u.nest → s.classOf u.nest ≠ 7 →
      exec (.driveUpdate u) s =
        .next { s with
          channels :=
            s.channels.set u.nest
              { s.channel u.nest with
                enable := true
                setPoint := (if s.classOf u.nest = 6 then max (-2000) (min 2000 x) else x)
                activity := .profiling { c with rampCount := c.rampCount + 1, computed := x } }
          dossiers :=
            s.dossiers.set u.nest
              { s.dossier u.nest with
                runIn := (s.dossier u.nest).runIn.map fun r =>
                  { r with peakTorque := max r.peakTorque (s.torqueAt u).natAbs } } }) ∧
    (x ≠ 0 → i + 1 = p.stages.length →
      (s.classOf u.nest = 7 → ∃ t, exec (.driveUpdate u) s = .next t ∧ s.failedAtRest t u.nest .overheat) ∧
      (s.classOf u.nest ≠ 7 → s.listSound u.nest →
        ∃ t, exec (.driveUpdate u) s = .next t ∧ s.enableRefused t u.nest False))) ∧
  ∀ (u : UpdateInput) (p : Plan) (i : Nat) (c : ProfileCounters) (x : Int) (s : State), s.stageIs u.nest p i .profile →
    s.quiet u.nest → (s.channel u.nest).activity = .profiling c → c.endPending = true → (s.channel u.nest).setPoint = x →
    ((s.channel u.nest).enable = true → 3 < x.natAbs →
      exec (.driveUpdate u) s =
        .next { s with
          channels :=
            s.channels.set u.nest
              { s.channel u.nest with setPoint := if 0 < x then x - 3 else x + 3, stopping := true }
          dossiers :=
            s.dossiers.set u.nest
              { s.dossier u.nest with
                runIn := (s.dossier u.nest).runIn.map fun r =>
                  { r with peakTorque := max r.peakTorque (s.torqueAt u).natAbs } } }) ∧
    (((s.channel u.nest).enable = true ∧ x.natAbs ≤ 3 ∨ (s.channel u.nest).enable = false ∧ x = 0) →
      i + 1 = p.stages.length →
      ∃ t, exec (.driveUpdate u) s = .next t ∧ (t.dossier u.nest).stageIndex = none ∧ (t.channel u.nest).activity = .idle ∧
        (t.channel u.nest).enable = false ∧ (t.channel u.nest).setPoint = 0 ∧
        ((t.dossier u.nest).runIn.map RunInRecord.given =
          (s.dossier u.nest).runIn.map fun r => some (r.given.getD ⟨.pass, .none⟩)) ∧ s.sameElsewhere t u.nest)

/-- The dwell update that brings the dwell count to the step's dwell updates raises steps completed by 1 and sets end pending at
the last step of the last cycle (R86). The dwell start of a step that names a capture is held and requests it: the record receives
the load side, the set-point sent and, without a reference, the windows-unmeasured mark, and the unit takes the lowest FREE slot,
or waits for one and looks again at each update (R84, R85, R126, R127, R134). The 1,000th held update ends the capture, before
that update's look for a slot (the model's reading, notes/assumptions/16.md): the unit is IDLE, its block in progress discarded, a
record with no block given NOT_MEASURED NO_SLOT, the step's capture ENDED, the dwell count as it was (R85, R130, R132). These send
the target (R84), here in classes 0 to 5. A run-in failure withdraws the capture, with SKIPPED for a record with no block (R95,
R130, R132); a stop of the nest ends it and leaves the records as they are (R26, R130, R132). -/
def Obligations.DwellEndsAndHoldLimit : Prop :=
  (∀ (u : UpdateInput) (p : Plan) (i : Nat) (c : ProfileCounters) (st : Step) (s : State), s.stageIs u.nest p i .profile →
    s.interlock.zero = none → (s.channel u.nest).stopping = false → (s.channel u.nest).activity = .profiling c →
    (s.channel u.nest).enable = true → s.classOf u.nest ≤ 5 → c.endPending = false → p.steps[c.stepIndex]? = some st →
    -3000 ≤ st.target → st.target ≤ 3000 → (s.torqueAt u).natAbs ≤ st.torqueLimit →
    (c.phase = .dwell → c.dwellCount < st.dwellUpdates → s.captureUnit u.nest = .idle → c.stepCapture ≠ .active →
      (st.capture = none ∨ 0 < c.dwellCount ∨ 0 < c.holdCount) → c.dwellCount + 1 = st.dwellUpdates →
      exec (.dwellEnd u) s =
        .next { s with
          channels :=
            s.channels.set u.nest
              { s.channel u.nest with
                setPoint := st.target
                activity :=
                  .profiling
                    { c with
                      dwellCount := st.dwellUpdates
                      computed := st.target
                      torqueRun := 0
                      endPending := decide (c.stepIndex + 1 = p.steps.length ∧ p.cycles ≤ c.cycle) } }
          dossiers :=
            s.dossiers.set u.nest
              { s.dossier u.nest with
                runIn := (s.dossier u.nest).runIn.map fun r =>
                  { r with
                    peakTorque := max r.peakTorque (s.torqueAt u).natAbs
                    stepsCompleted := r.stepsCompleted + 1 } } }) ∧
    (∀ (k : Nat) d (m : Capture) (ch : Channel) (ds : Dossier), (c.phase = .dwell ∨ (c.phase = .ramp ∧ st.rampUpdates ≤ c.rampCount)) →
      c.dwellCount = 0 → c.holdCount = 0 → 1 ≤ st.dwellUpdates → st.capture = some k → p.captures[k]? = some d →
      s.captureUnit u.nest = .idle → ((s.channel u.nest).reference ≠ none ∨ d.windows ≠ []) →
      m = ⟨k, d.revolutions, d.blocks, d.windows, st.side, none, 0, 0, (s.channel u.nest).reference.isSome⟩ →
      ch =
        { s.channel u.nest with
          setPoint := st.target
          activity :=
            .profiling
              { c with phase := .dwell, stepCapture := .active, holdCount := 1, computed := st.target, torqueRun := 0 } } →
      ds =
        { s.dossier u.nest with
          runIn := (s.dossier u.nest).runIn.map fun r => { r with peakTorque := max r.peakTorque (s.torqueAt u).natAbs }
          captures := (s.dossier u.nest).captures.map fun r =>
            if r.number = k then
              { r with
                side := some st.side
                setPoint := some st.target
                unmeasured := r.unmeasured || (s.channel u.nest).reference.isNone }
            else r } →
      ((∀ i, (s.slot i).state ≠ .free) →
        exec (.driveUpdate u) s =
          .next { s with
            channels := s.channels.set u.nest ch
            units := s.units.set u.nest (.waitingSlot m)
            dossiers := s.dossiers.set u.nest ds }) ∧
      ∀ i : Fin 4, (s.slot i).state = .free → (∀ j, j < i → (s.slot j).state ≠ .free) →
        exec (.driveUpdate u) s =
          .next { s with
            channels := s.channels.set u.nest ch
            slots := s.slots.set i ⟨.filling, false, some ⟨u.nest, k, d.revolutions, st.side⟩, []⟩
            units := s.units.set u.nest (.sampling m ⟨i, 0, d.windows.map fun _ => 0⟩)
            dossiers := s.dossiers.set u.nest ds }) ∧
    (∀ (k : Capture) (i : Fin 4), c.phase = .dwell → c.dwellCount < st.dwellUpdates → s.captureUnit u.nest = .waitingSlot k →
      c.stepCapture = .active → 0 < c.holdCount → c.holdCount < 999 → (s.slot i).state = .free →
      (∀ j, j < i → (s.slot j).state ≠ .free) →
      exec (.driveUpdate u) s =
        .next { s with
          channels :=
            s.channels.set u.nest
              { s.channel u.nest with
                setPoint := st.target
                activity := .profiling { c with holdCount := c.holdCount + 1, computed := st.target, torqueRun := 0 } }
          slots := s.slots.set i ⟨.filling, false, some ⟨u.nest, k.number, k.revolutions, k.side⟩, []⟩
          units := s.units.set u.nest (.sampling k ⟨i, 0, k.windows.map fun _ => 0⟩)
          dossiers :=
            s.dossiers.set u.nest
              { s.dossier u.nest with
                runIn := (s.dossier u.nest).runIn.map fun r =>
                  { r with peakTorque := max r.peakTorque (s.torqueAt u).natAbs } } }) ∧
    ∀ (k : Capture), c.phase = .dwell → c.dwellCount < st.dwellUpdates → c.stepCapture = .active → c.holdCount = 999 →
      (∀ r ∈ (s.dossier u.nest).captures, r.number = k.number → r.blocksRequested = 0 ∧ r.given = none) →
      (s.captureUnit u.nest = .waitingSlot k →
        exec (.holdLimit u) s =
          .next { s with
            channels :=
              s.channels.set u.nest
                { s.channel u.nest with
                  setPoint := st.target
                  activity :=
                    .profiling { c with holdCount := 1000, computed := st.target, torqueRun := 0, stepCapture := .ended } }
            units := s.units.set u.nest .idle
            dossiers :=
              s.dossiers.set u.nest
                { s.dossier u.nest with
                  runIn := (s.dossier u.nest).runIn.map fun r =>
                    { r with peakTorque := max r.peakTorque (s.torqueAt u).natAbs }
                  captures := (s.dossier u.nest).captures.map fun r =>
                    if r.number = k.number then { r with given := some ⟨.notMeasured, .noSlot⟩ } else r } }) ∧
      ∀ b, s.captureUnit u.nest = .sampling k b →
        exec (.holdLimit u) s =
          .next { s with
            channels :=
              s.channels.set u.nest
                { s.channel u.nest with
                  setPoint := st.target
                  activity :=
                    .profiling { c with holdCount := 1000, computed := st.target, torqueRun := 0, stepCapture := .ended } }
            slots := s.slots.set b.slot ⟨.free, false, none, []⟩
            units := s.units.set u.nest .idle
            dossiers :=
              s.dossiers.set u.nest
                { s.dossier u.nest with
                  runIn := (s.dossier u.nest).runIn.map fun r =>
                    { r with peakTorque := max r.peakTorque (s.torqueAt u).natAbs }
                  captures := (s.dossier u.nest).captures.map fun r =>
                    if r.number = k.number then { r with given := some ⟨.notMeasured, .noSlot⟩ } else r } }) ∧
  (∀ (u : UpdateInput) (p : Plan) (i : Nat) (c : ProfileCounters) (st : Step) (k : Capture) (b : BlockInProgress) (s : State),
    s.stageIs u.nest p i .profile → s.interlock.zero = none → (s.channel u.nest).stopping = false →
    (s.channel u.nest).activity = .profiling c → (s.channel u.nest).enable = true → 3 < (s.channel u.nest).setPoint.natAbs →
    c.endPending = false → p.steps[c.stepIndex]? = some st → c.phase = .dwell → c.dwellCount < st.dwellUpdates →
    c.stepCapture = .active → s.captureUnit u.nest = .sampling k b → s.classOf u.nest = 7 →
    (∀ j : Nat, i < j → p.stages[j]? ≠ some .profile) →
    (∀ r ∈ (s.dossier u.nest).captures, r.number = k.number → r.blocksRequested = 0 ∧ r.given = none) →
    ∃ t, exec (.driveUpdate u) s = .next t ∧ s.runInFailed t u.nest .overheat ∧ t.captureUnit u.nest = .idle ∧
      t.slots = s.slots.set b.slot ⟨.free, false, none, []⟩ ∧
      (t.dossier u.nest).captures =
        (s.dossier u.nest).captures.map fun r =>
          if r.number = k.number then { r with given := some ⟨.notMeasured, .skipped⟩ } else r) ∧
  ∀ (n : Nest) (k : Capture) (b : BlockInProgress) (s : State), (s.dossier n).state = .testing →
    s.captureUnit n = .sampling k b →
    ∃ t, exec (.guardOpen n) s = .next t ∧ t.captureUnit n = .idle ∧ t.slot b.slot = ⟨.free, false, none, []⟩ ∧
      ((t.dossier n).state = .stopping → (t.dossier n).captures = (s.dossier n).captures) ∧
      ((t.dossier n).state ≠ .stopping →
        (t.dossier n).captures =
          (s.dossier n).captures.map fun r => { r with given := some (r.given.getD ⟨.notMeasured, .aborted⟩) })

/-! ### Encoder changes, mark edges, index pulses -/

/-- The travel limit of a REFERENCE stage, 12,288 counts while SEARCHING or, in reverse, REVERSING and 4,096 × (k + 1) counts while
CREEPING, gives run-in FAIL REF_FAIL, skips the later REFERENCE and PROFILE stages and requests a controlled stop; the angle counter
has counted the change and the reference stays as it was (R74, R76, R77, R25). -/
def Obligations.ReferenceLimitsFailTheStage : Prop :=
  ∀ (n : Nest) (p : Plan) (i : Nat) (r : RefCounters) (s : State), s.stageIs n p i .reference → s.quiet n →
    (s.channel n).enable = true →
    ((s.channel n).activity = .searching r → r.reverse = false → r.travel = 12287 →
      ∃ t, exec (.refSearchLimit ⟨n, .forward⟩) s = .next t ∧ s.runInFailed t n .refFail ∧ s.laterSkipped t n p i ∧
        t.channel n =
          { s.channel n with
            angle := (s.channel n).angle + 1, stopping := true, activity := .searching { r with travel := 12288 } } ∧
        s.sameElsewhere t n) ∧
    ((s.channel n).activity = .reversing r → r.reverse = true → r.travel = 12287 →
      ∃ t, exec (.refReverseLimit ⟨n, .reverse⟩) s = .next t ∧ s.runInFailed t n .refFail ∧ s.laterSkipped t n p i ∧
        t.channel n =
          { s.channel n with
            angle := (s.channel n).angle - 1, stopping := true, activity := .reversing { r with travel := 12288 } } ∧
        s.sameElsewhere t n) ∧
    ((s.channel n).activity = .creeping r → r.travel = 4096 * (p.indexCount + 1) - 1 →
      (r.reverse = false →
        ∃ t, exec (.refCreepLimit ⟨n, .forward⟩) s = .next t ∧ s.runInFailed t n .refFail ∧ s.laterSkipped t n p i ∧
          t.channel n =
            { s.channel n with
              angle := (s.channel n).angle + 1
              stopping := true
              activity := .creeping { r with travel := 4096 * (p.indexCount + 1) } } ∧
          s.sameElsewhere t n) ∧
      (r.reverse = true →
        ∃ t, exec (.refCreepLimit ⟨n, .reverse⟩) s = .next t ∧ s.runInFailed t n .refFail ∧ s.laterSkipped t n p i ∧
          t.channel n =
            { s.channel n with
              angle := (s.channel n).angle - 1
              stopping := true
              activity := .creeping { r with travel := 4096 * (p.indexCount + 1) } } ∧
          s.sameElsewhere t n))

/-- A legal change moves the angle counter by 1 round the circle of 4096, and while SEARCHING forward the travel count by 1, up at
a forward change and down at a reverse one; nothing else changes below the limit with no capture in progress (R67). An illegal
transition leaves the counter, clears the reference, reports ENCODER_FAULT, and, with a drive stage of a TESTING dossier in
progress and the enable on, gives run-in FAIL ENCODER_FAULT and requests a controlled stop (R68). -/
def Obligations.EncoderChangeCountsOrFaults : Prop :=
  ∀ (n : Nest) (s : State), s.captureUnit n = .idle →
    ((∀ r, (s.channel n).activity ≠ .searching r ∧ (s.channel n).activity ≠ .reversing r ∧
        (s.channel n).activity ≠ .creeping r) →
      exec (.encoderChange ⟨n, .forward⟩) s =
          .next { s with channels := s.channels.set n { s.channel n with angle := (s.channel n).angle + 1 } } ∧
      exec (.encoderChange ⟨n, .reverse⟩) s =
          .next { s with channels := s.channels.set n { s.channel n with angle := (s.channel n).angle - 1 } }) ∧
    (∀ r, (s.channel n).activity = .searching r → r.reverse = false → r.travel < 12287 →
      exec (.encoderChange ⟨n, .forward⟩) s =
          .next { s with
            channels := s.channels.set n
              { s.channel n with
                angle := (s.channel n).angle + 1, activity := .searching { r with travel := r.travel + 1 } } } ∧
      exec (.encoderChange ⟨n, .reverse⟩) s =
          .next { s with
            channels := s.channels.set n
              { s.channel n with
                angle := (s.channel n).angle - 1, activity := .searching { r with travel := r.travel - 1 } } }) ∧
    ∃ t, exec (.encoderChange ⟨n, .illegal⟩) s = .next t ∧ (t.channel n).reference = none ∧
      (t.channel n).angle = (s.channel n).angle ∧ t.dossier n.other = s.dossier n.other ∧
      t.channel n.other = s.channel n.other ∧
      (FaultCause.encoderFault ∈ (s.faultList n).causes → t.faultList n = s.faultList n) ∧
      (FaultCause.encoderFault ∉ (s.faultList n).causes → (s.faultList n).causes.length < 4 →
        t.faultList n = ⟨(s.faultList n).causes ++ [.encoderFault], (s.faultList n).more⟩ ∧
          t.bench.isPending (.nestFault n) = true) ∧
      (((s.dossier n).state ≠ .testing ∨ (s.channel n).activity = .idle) →
        t.channel n = { s.channel n with reference := none } ∧ t.dossier n = s.dossier n ∧ t.circuits = s.circuits) ∧
      ((s.dossier n).state = .testing → (s.channel n).activity ≠ .idle → (s.channel n).enable = true →
        s.runInFailed t n .encoderFault ∧ (t.channel n).stopping = true ∧ (t.channel n).enable = true ∧
          (t.channel n).setPoint = (s.channel n).setPoint ∧ t.circuits = s.circuits)

/-- A mark edge while SEARCHING begins the creep in mode A, with the travel count and the pulses 0 and, for k = 0, the angle counter 0,
and the reversal in mode B; while REVERSING it begins the creep when the set-point is negative and has no effect otherwise (R74, R75,
R76). With the reference PRESENT an index pulse within 2 counts of the recorded angle, round the circle, changes nothing and any other
is an encoder fault (R68). While CREEPING without a reference the first pulse for k = 0 records the angle counter, the k-th pulse sets
the counter to 0 and records 0, each with a controlled stop, and an earlier pulse is counted (R75, R77). In any other activity neither
changes anything. -/
def Obligations.MarkEdgesAndIndexPulsesAct : Prop :=
  (∀ (n : Nest) (p : Plan) (s : State), s.planOf n = some p → (s.channel n).stopping = false →
    (∀ r, (s.channel n).activity = .searching r →
      (p.refMode = .a →
        exec (.markEdge n) s =
          .next { s with
            channels := s.channels.set n
              { s.channel n with
                activity := .creeping { r with travel := 0, pulses := 0 }
                angle := if p.indexCount = 0 then 0 else (s.channel n).angle } }) ∧
      (p.refMode = .b →
        exec (.markEdge n) s =
          .next { s with channels := s.channels.set n { s.channel n with activity := .reversing r } })) ∧
    (∀ r, (s.channel n).activity = .reversing r →
      ((s.channel n).setPoint < 0 →
        exec (.markEdge n) s =
          .next { s with
            channels := s.channels.set n
              { s.channel n with
                activity := .creeping { r with travel := 0, pulses := 0 }
                angle := if p.indexCount = 0 then 0 else (s.channel n).angle } }) ∧
      (0 ≤ (s.channel n).setPoint → exec (.markEdge n) s = .next s)) ∧
    ((∀ r, (s.channel n).activity ≠ .searching r ∧ (s.channel n).activity ≠ .reversing r) →
      exec (.markEdge n) s = .next s)) ∧
  ∀ (n : Nest) (s : State),
    (∀ a, (s.channel n).reference = some a →
      (((s.channel n).angle - a).toNat ≤ 2 ∨ (a - (s.channel n).angle).toNat ≤ 2 → exec (.indexPulse n) s = .next s) ∧
      (2 < ((s.channel n).angle - a).toNat ∧ 2 < (a - (s.channel n).angle).toNat →
        exec (.indexPulse n) s = exec (.encoderChange ⟨n, .illegal⟩) s)) ∧
    ((s.channel n).reference = none → (∀ r, (s.channel n).activity ≠ .creeping r) → exec (.indexPulse n) s = .next s) ∧
    ∀ p r, s.planOf n = some p → (s.channel n).reference = none → (s.channel n).stopping = false →
      (s.channel n).enable = true → (s.channel n).activity = .creeping r →
      (p.indexCount = 0 →
        exec (.indexPulse n) s =
          .next { s with
            channels := s.channels.set n
              { s.channel n with reference := some (s.channel n).angle, stopping := true } }) ∧
      (r.pulses + 1 < p.indexCount →
        exec (.indexPulse n) s =
          .next { s with
            channels := s.channels.set n
              { s.channel n with activity := .creeping { r with pulses := r.pulses + 1 } } }) ∧
      (r.pulses + 1 = p.indexCount →
        exec (.indexPulse n) s =
          .next { s with
            channels := s.channels.set n
              { s.channel n with
                activity := .creeping { r with pulses := r.pulses + 1 }
                angle := 0
                reference := some 0
                stopping := true } })

/-- A legal change that brings the angle counter to a multiple of 16 is a sample point: in the capture's direction, which the first one
sets, the most recent conversion joins the block, counts as clipped at either end of the span and raises the peak of each window that
holds the angle (R124, R128, R133). The N-th sample completes the block, which becomes READY and joins the job queue, or ANALYSING with
an idle engine, and raises blocks requested: with a further block to follow the unit takes the lowest FREE slot or waits, and the K-th
block ends the capture (R127, R128, R130, R136). In the other direction a block that holds a sample begins again and counts a restart;
the third ends the capture, its slot FREE and a record with no block UNSTEADY (R129, R130, R132). An encoder fault during the capture
loses the reference: the record is marked windows-unmeasured, and the capture is withdrawn with the run-in failure (R68, R95, R134). -/
def Obligations.SamplePointWritesTheBlock : Prop :=
  (∀ (n : Nest) (d : Direction) (c : Capture) (b : BlockInProgress) (pr : ProfileCounters) (e : Quadrature) (a : BitVec 12)
    (x : Int) (s : State),
    s.captureUnit n = .sampling c b → (s.channel n).activity = .profiling pr →
    e = (match d with | .forward => .forward | .reverse => .reverse) →
    a = (match d with | .forward => (s.channel n).angle + 1 | .reverse => (s.channel n).angle - 1) → a.toNat % 16 = 0 →
    s.vibration.get n = x →
    ((c.direction = none ∨ c.direction = some d) → c.windows.length = b.peaks.length →
      (∀ w ∈ c.windows, w.start ≠ w.stop) →
      ∃ b' : BlockInProgress, b'.slot = b.slot ∧
        b'.clipped = (if x = -32768 ∨ x = 32767 then b.clipped + 1 else b.clipped) ∧
        (c.windowsValid = false → b'.peaks = b.peaks) ∧
        (c.windowsValid = true → b'.peaks.length = b.peaks.length ∧
          ∀ (k : Nat) w y, c.windows[k]? = some w → b.peaks[k]? = some y →
            b'.peaks[k]? =
              some (if (w.start < w.stop ∧ w.start ≤ a.toNat ∧ a.toNat < w.stop) ∨
                  (w.stop < w.start ∧ (w.start ≤ a.toNat ∨ a.toNat < w.stop)) then max y x.natAbs else y)) ∧
        ((s.slot b.slot).samples.length + 1 < 256 * c.revolutions →
          exec (.encoderChange ⟨n, e⟩) s =
            .next { s with
              channels := s.channels.set n { s.channel n with angle := a }
              slots := s.slots.set b.slot { s.slot b.slot with samples := (s.slot b.slot).samples ++ [x] }
              units := s.units.set n (.sampling { c with direction := some d } b') }) ∧
        ∀ (job : Job) (full : Slot) (ds : Dossier), (s.slot b.slot).samples.length + 1 = 256 * c.revolutions →
          job = ⟨b.slot, n, c.number, c.revolutions, c.side, if c.windowsValid then some b'.peaks else none⟩ →
          full = { s.slot b.slot with samples := (s.slot b.slot).samples ++ [x], state := .ready } →
          ds =
            { s.dossier n with
              captures := (s.dossier n).captures.map fun r =>
                if r.number = c.number then
                  { r with
                    blocksRequested := r.blocksRequested + 1
                    overload := r.overload || decide (16 < b'.clipped)
                    given := if r.given.any fun g => g.result = .fail then r.given else none }
                else r } →
          (c.blocksDone + 1 < c.blocks → (∀ i, i ≠ b.slot → (s.slot i).state ≠ .free) → s.engine.current ≠ none →
            exec (.encoderChange ⟨n, e⟩) s =
              .next { s with
                channels := s.channels.set n { s.channel n with angle := a }
                slots := s.slots.set b.slot full
                engine := { s.engine with queue := s.engine.queue ++ [job] }
                units := s.units.set n (.waitingSlot { c with direction := some d, blocksDone := c.blocksDone + 1 })
                dossiers := s.dossiers.set n ds }) ∧
          (∀ i : Fin 4, c.blocksDone + 1 < c.blocks → (s.slot i).state = .free → i ≠ b.slot →
            (∀ j, j < i → j ≠ b.slot → (s.slot j).state ≠ .free) → s.engine.current ≠ none →
            exec (.encoderChange ⟨n, e⟩) s =
              .next { s with
                channels := s.channels.set n { s.channel n with angle := a }
                slots :=
                  (s.slots.set b.slot full).set i ⟨.filling, false, some ⟨n, c.number, c.revolutions, c.side⟩, []⟩
                engine := { s.engine with queue := s.engine.queue ++ [job] }
                units :=
                  s.units.set n
                    (.sampling { c with direction := some d, blocksDone := c.blocksDone + 1 }
                      ⟨i, 0, c.windows.map fun _ => 0⟩)
                dossiers := s.dossiers.set n ds }) ∧
          (c.blocks ≤ c.blocksDone + 1 →
            (∀ r ∈ (s.dossier n).captures, r.number = c.number → r.blocksAnalysed ≤ r.blocksRequested) →
            (s.engine.current ≠ none →
              exec (.encoderChange ⟨n, e⟩) s =
                .next { s with
                  channels := s.channels.set n { s.channel n with angle := a, activity := .profiling pr.captureDone }
                  slots := s.slots.set b.slot full
                  engine := { s.engine with queue := s.engine.queue ++ [job] }
                  units := s.units.set n .idle
                  dossiers := s.dossiers.set n ds }) ∧
            (s.engine.current = none → s.engine.queue = [] →
              exec (.encoderChange ⟨n, e⟩) s =
                .next { s with
                  channels := s.channels.set n { s.channel n with angle := a, activity := .profiling pr.captureDone }
                  slots := s.slots.set b.slot { full with state := .analysing }
                  engine := ⟨[], some job, false⟩
                  units := s.units.set n .idle
                  dossiers := s.dossiers.set n ds }))) ∧
    (∀ d', c.direction = some d' → d' ≠ d →
      ((s.slot b.slot).samples = [] →
        exec (.encoderChange ⟨n, e⟩) s =
          .next { s with channels := s.channels.set n { s.channel n with angle := a } }) ∧
      ((s.slot b.slot).samples ≠ [] → c.restarts < 2 →
        exec (.encoderChange ⟨n, e⟩) s =
          .next { s with
            channels := s.channels.set n { s.channel n with angle := a }
            slots := s.slots.set b.slot { s.slot b.slot with samples := [] }
            units := s.units.set n
              (.sampling { c with restarts := c.restarts + 1 } ⟨b.slot, 0, c.windows.map fun _ => 0⟩)
            dossiers := s.dossiers.set n
              { s.dossier n with
                captures := (s.dossier n).captures.map fun r =>
                  if r.number = c.number then { r with restarts := r.restarts + 1 } else r } }) ∧
      ((s.slot b.slot).samples ≠ [] → c.restarts = 2 →
        (∀ r ∈ (s.dossier n).captures, r.number = c.number → r.blocksRequested = 0 ∧ r.given = none) →
        exec (.encoderChange ⟨n, e⟩) s =
          .next { s with
            channels := s.channels.set n { s.channel n with angle := a, activity := .profiling pr.captureDone }
            slots := s.slots.set b.slot ⟨.free, false, none, []⟩
            units := s.units.set n .idle
            dossiers := s.dossiers.set n
              { s.dossier n with
                captures := (s.dossier n).captures.map fun r =>
                  if r.number = c.number then
                    { r with restarts := r.restarts + 1, given := some ⟨.notMeasured, .unsteady⟩ }
                  else r } }))) ∧
  ∀ (n : Nest) (p : Plan) (i : Nat) (c : Capture) (b : BlockInProgress) (pr : ProfileCounters) (s : State),
    s.stageIs n p i .profile → (∀ j : Nat, i < j → p.stages[j]? ≠ some .profile) → s.captureUnit n = .sampling c b →
    (s.channel n).activity = .profiling pr → pr.stepCapture = .active → (s.channel n).enable = true → c.windows ≠ [] →
    (∀ r ∈ (s.dossier n).captures, r.number = c.number → r.blocksRequested = 0 ∧ r.given = none) →
    ∃ t, exec (.encoderChange ⟨n, .illegal⟩) s = .next t ∧ s.runInFailed t n .encoderFault ∧
      t.channel n =
        { s.channel n with reference := none, stopping := true, activity := .profiling { pr with stepCapture := .ended } } ∧
      t.captureUnit n = .idle ∧ t.slots = s.slots.set b.slot ⟨.free, false, none, []⟩ ∧
      (t.dossier n).captures =
        (s.dossier n).captures.map fun r =>
          if r.number = c.number then { r with unmeasured := true, given := some ⟨.notMeasured, .skipped⟩ } else r

/-! ### Pressure samples -/

/-- A sample enters the mean window, of at most 16, and raises the state count: all an IDLE circuit does with it. While FILLING a sample
at or above the fill target releases the grant and begins SETTLING, and the head of the waiting list is granted in the same event; a
chamber that is to follow then requests air (R100, R103, R107, R110). -/
def Obligations.PressureSampleFillsOrIdles : Prop :=
  ∀ (p : PressureInput) (s : State), s.interlock.zero = none → pressureInRange p →
    ((s.circuit p.nest p.chamber).state = .idle →
      ∃ k, exec (.pressureSample p) s =
          .next { s with
            circuits := s.circuits.set p.nest ((s.circuits.get p.nest).set p.chamber k) } ∧
        k = { s.circuit p.nest p.chamber with
          window := k.window
          count := min 60000 ((s.circuit p.nest p.chamber).count + 1)
          latest := s.pressureAt p
          latestFault := false } ∧
        ((s.circuit p.nest p.chamber).window.length < 16 →
          k.window = (s.circuit p.nest p.chamber).window ++ [s.pressureAt p]) ∧
        ((s.circuit p.nest p.chamber).window.length = 16 →
          k.window = (s.circuit p.nest p.chamber).window.tail ++ [s.pressureAt p])) ∧
    ∀ l, (s.circuit p.nest p.chamber).state = .filling → s.leakSetOf p.nest p.chamber = some l →
      (l.fillTarget : Int) ≤ s.pressureAt p → s.arbiter.holder = some ⟨p.nest, p.chamber⟩ →
      ⟨p.nest, p.chamber⟩ ∉ s.arbiter.waiting →
      (s.measures p.nest p.chamber → (s.arbiter.waiting = [] ∨ s.arbiter.supplyLow = true) →
        ∃ t, exec (.pressureSample p) s = .next t ∧ (t.circuit p.nest p.chamber).state = .settling ∧
          (t.circuit p.nest p.chamber).count = 0 ∧ t.arbiter = { s.arbiter with holder := none } ∧
          t.dossiers = s.dossiers ∧ t.channels = s.channels ∧ t.bench = s.bench) ∧
      (s.measures p.nest p.chamber → s.arbiter.supplyLow = false → ∀ y rest, s.arbiter.waiting = y :: rest →
        ∃ t, exec (.pressureSample p) s = .next t ∧ (t.circuit p.nest p.chamber).state = .settling ∧
          t.arbiter = ⟨some y, rest, false⟩ ∧ (t.circuit y.nest y.chamber).state = .filling ∧
          (t.circuit y.nest y.chamber).count = 0 ∧ t.dossiers = s.dossiers ∧ t.channels = s.channels) ∧
      ∀ m ix c', s.leakStage p.nest = some ⟨m, ix, some c'⟩ → c' = p.chamber.other → m.has p.chamber = true →
        (s.circuit p.nest p.chamber).resultGiven = false → (s.dossier p.nest).state = .testing →
        s.arbiter.waiting = [] →
        ∃ t, exec (.pressureSample p) s = .next t ∧ (t.circuit p.nest p.chamber).state = .settling ∧
          (t.circuit p.nest c').leakSet = some ix ∧ (t.circuit p.nest c').count = 0 ∧
          t.leakStage p.nest = some ⟨m, ix, none⟩ ∧
          (s.arbiter.supplyLow = false → (t.circuit p.nest c').state = .filling ∧ t.arbiter = ⟨some ⟨p.nest, c'⟩, [], false⟩) ∧
          (s.arbiter.supplyLow = true → (t.circuit p.nest c').state = .waitingAir ∧ t.arbiter = ⟨none, [⟨p.nest, c'⟩], true⟩)

/-- Sample 3,000 of WAITING_AIR gives NOT_MEASURED NO_AIR, leaves the waiting list and enters IDLE; the last sample of the fill timeout
below the target gives FAIL GROSS_LEAK, releases the grant and enters VENTING; sample 1,000 of VENTING at 500 Pa or more reports
VENT_FAIL once, and a sample below 500 Pa enters IDLE (R109, R110, R114). That entry to IDLE ends a LEAK stage whose measured chambers all
have their results, where the other circuit is IDLE too: after the last stage of the list the dossier is JUDGED unless an analysis job of
its nest is left, and else the next stage begins, here ENGAGE (R22, R28, R108); it completes a STOPPING dossier whose drive is at rest
and whose other circuit is IDLE, ABORTED with its stopping cause, and changes no other STOPPING dossier (R27, R118). A sample that is a
sensor fault reports SENSOR_PRESSURE in every state; a circuit in WAITING_AIR, FILLING, SETTLING, MEASURING or HOLDING enters VENTING,
leaving the list or releasing the grant, with NOT_MEASURED SENSOR for a pending record, and one in VENTING stays, with the vent limit at
sample 1,000 (R117, R165, R175). -/
def Obligations.LeakTimeLimitsAct : Prop :=
  (∀ (p : PressureInput) (s : State), s.interlock.zero = none → pressureInRange p →
    ((s.circuit p.nest p.chamber).state = .waitingAir → s.measures p.nest p.chamber → s.leakIsPending p.nest p.chamber →
      (∃ m ix, s.leakStage p.nest = some ⟨m, ix, none⟩ ∧ m.has p.chamber.other = true) →
      (s.circuit p.nest p.chamber.other).resultGiven = false → s.arbiter.holder ≠ none →
      s.arbiter.holder ≠ some ⟨p.nest, p.chamber⟩ →
      ((s.circuit p.nest p.chamber).count = 2999 →
        ∃ t, exec (.airWaitLimit p) s = .next t ∧ s.leakGiven t p.nest p.chamber ⟨.notMeasured, .noAir⟩ ∧
          (t.circuit p.nest p.chamber).state = .idle ∧ (t.circuit p.nest p.chamber).leakSet = none ∧
          (t.circuit p.nest p.chamber).resultGiven = true ∧
          t.arbiter.waiting = s.arbiter.waiting.filter (fun y => y ≠ ⟨p.nest, p.chamber⟩) ∧
          t.dossier p.nest.other = s.dossier p.nest.other ∧ t.channels = s.channels) ∧
      ((s.circuit p.nest p.chamber).count < 2999 →
        exec (.airWaitLimit p) s =
          .next { s with
            circuits := s.circuits.set p.nest
              ((s.circuits.get p.nest).set p.chamber ((s.circuit p.nest p.chamber).takeSample (s.pressureAt p) false)) })) ∧
    (∀ l, (s.circuit p.nest p.chamber).state = .filling → s.leakSetOf p.nest p.chamber = some l →
      s.measures p.nest p.chamber → s.leakIsPending p.nest p.chamber → s.pressureAt p < l.fillTarget →
      (s.circuit p.nest p.chamber).count + 1 = 10 * l.fillTimeout → 10 * l.fillTimeout ≤ 6000 →
      s.arbiter.holder = some ⟨p.nest, p.chamber⟩ → s.arbiter.waiting = [] →
      ∃ t, exec (.fillTimeout p) s = .next t ∧ s.leakGiven t p.nest p.chamber ⟨.fail, .grossLeak⟩ ∧
        (t.circuit p.nest p.chamber).state = .venting ∧ (t.circuit p.nest p.chamber).count = 0 ∧
        (t.circuit p.nest p.chamber).resultGiven = true ∧ t.arbiter = { s.arbiter with holder := none } ∧
        t.dossier p.nest.other = s.dossier p.nest.other ∧ t.channels = s.channels) ∧
    ((s.circuit p.nest p.chamber).state = .venting → 500 ≤ s.pressureAt p →
      (s.circuit p.nest p.chamber).count = 999 → (s.circuit p.nest p.chamber).ventReported = false →
      ∃ t, exec (.ventLimit p) s = .next t ∧
        t.circuit p.nest p.chamber =
          { (s.circuit p.nest p.chamber).takeSample (s.pressureAt p) false with ventReported := true } ∧
        (FaultCause.ventFail ∉ (s.faultList p.nest).causes → (s.faultList p.nest).causes.length < 4 →
          t.faultList p.nest = ⟨(s.faultList p.nest).causes ++ [.ventFail], (s.faultList p.nest).more⟩ ∧
            t.bench.isPending (.nestFault p.nest) = true) ∧
        t.dossiers = s.dossiers ∧ t.arbiter = s.arbiter ∧ t.channels = s.channels) ∧
    ((s.circuit p.nest p.chamber).state = .venting → s.pressureAt p < 500 → (s.dossier p.nest).state = .testing →
      (∃ m ix c, s.leakStage p.nest = some ⟨m, ix, none⟩ ∧ m.has c = true ∧ (s.circuit p.nest c).resultGiven = false) →
      (s.arbiter.holder ≠ none ∨ s.arbiter.waiting = [] ∨ s.arbiter.supplyLow = true) →
      ∃ t, exec (.ventLimit p) s = .next t ∧ (t.circuit p.nest p.chamber).state = .idle ∧
        (t.circuit p.nest p.chamber).leakSet = none ∧ (t.circuit p.nest p.chamber).pStart = none ∧
        (t.circuit p.nest p.chamber).classAtStart = none ∧ (t.circuit p.nest p.chamber).ventReported = false ∧
        t.dossiers = s.dossiers ∧ t.arbiter = s.arbiter ∧ t.channels = s.channels) ∧
    (∀ l q i mask, (s.circuit p.nest p.chamber).state = .venting → s.pressureAt p < 500 →
      (s.circuit p.nest p.chamber.other).state = .idle → s.leakStage p.nest = some l → l.next = none →
      (∀ c, l.measured.has c = true → (s.circuit p.nest c).resultGiven = true) →
      (s.arbiter.holder ≠ none ∨ s.arbiter.waiting = [] ∨ s.arbiter.supplyLow = true) →
      s.stageIs p.nest q i (.leak mask l.set) →
      (i + 1 = q.stages.length →
        ∃ t, exec (.ventLimit p) s = .next t ∧ (t.circuit p.nest p.chamber).state = .idle ∧ t.leakStage p.nest = none ∧
          (t.dossier p.nest).stageIndex = none ∧ (t.dossier p.nest).leaks = (s.dossier p.nest).leaks ∧
          ((∀ j ∈ s.engine.queue, j.owner ≠ p.nest) → (∀ j, s.engine.current = some j → j.owner ≠ p.nest) →
            ((t.dossier p.nest).state = .judged ∨ (t.dossier p.nest).state = .filed) ∧ (t.dossier p.nest).verdict ≠ none) ∧
          ((∃ j ∈ s.engine.queue, j.owner = p.nest) → (t.dossier p.nest).state = .testing)) ∧
      (∀ a as, q.stages[i + 1]? = some .engage → i + 1 ∉ (s.dossier p.nest).skipped → attemptsOf q.attemptsMask = a :: as →
        ∃ t, exec (.ventLimit p) s = .next t ∧ (t.circuit p.nest p.chamber).state = .idle ∧ t.leakStage p.nest = none ∧
          t.channel p.nest = (s.channel p.nest).engageBegun s.interlock.permitLive a ∧
          t.dossier p.nest =
            { s.dossier p.nest with
              stageIndex := some (i + 1)
              lastBegun := some (i + 1)
              runIn := (s.dossier p.nest).runIn.map fun r => { r with attemptUsed := 0 } })) ∧
    ((s.circuit p.nest p.chamber).state = .venting → s.pressureAt p < 500 → (s.dossier p.nest).state = .stopping →
      s.leakStage p.nest = none → (s.arbiter.holder ≠ none ∨ s.arbiter.waiting = [] ∨ s.arbiter.supplyLow = true) →
      (((s.circuit p.nest p.chamber.other).state ≠ .idle ∨ (s.channel p.nest).enable = true ∨
          (s.channel p.nest).setPoint ≠ 0) →
        ∃ t, exec (.ventLimit p) s = .next t ∧ (t.circuit p.nest p.chamber).state = .idle ∧ t.dossiers = s.dossiers ∧
          t.channels = s.channels) ∧
      ((s.circuit p.nest p.chamber.other).state = .idle → (s.channel p.nest).enable = false →
        (s.channel p.nest).setPoint = 0 → (s.dossier p.nest).stopped = true →
        ∃ t, exec (.ventLimit p) s = .next t ∧ (t.circuit p.nest p.chamber).state = .idle ∧
          ((t.dossier p.nest).state = .judged ∨ (t.dossier p.nest).state = .filed) ∧
          (t.dossier p.nest).verdict = some .aborted ∧
          (t.dossier p.nest).verdictCause = (s.dossier p.nest).stoppingCause ∧
          (∀ g ∈ (t.dossier p.nest).results, g ≠ none) ∧ t.bench.isPending (.judged p.nest) = true ∧
          t.dossier p.nest.other = s.dossier p.nest.other))) ∧
  ∀ (p : PressureInput) (s : State), s.interlock.zero = none → ¬ pressureInRange p →
    ∃ t, exec (.pressureSample p) s = .next t ∧ (t.circuit p.nest p.chamber).latestFault = true ∧
      (FaultCause.sensorPressure ∈ (s.faultList p.nest).causes → FaultCause.sensorPressure ∈ (t.faultList p.nest).causes) ∧
      (FaultCause.sensorPressure ∉ (s.faultList p.nest).causes → (s.faultList p.nest).causes.length < 4 →
        ((s.faultList p.nest).causes ++ [FaultCause.sensorPressure]) <+: (t.faultList p.nest).causes ∧
          t.bench.isPending (.nestFault p.nest) = true) ∧
      ((s.circuit p.nest p.chamber).state = .idle →
        t.circuit p.nest p.chamber = (s.circuit p.nest p.chamber).takeSample (s.pressureAt p) true ∧ t.dossiers = s.dossiers ∧
          t.arbiter = s.arbiter) ∧
      (((s.circuit p.nest p.chamber).state = .waitingAir ∨ (s.circuit p.nest p.chamber).state = .filling ∨
          (s.circuit p.nest p.chamber).state = .settling ∨ (s.circuit p.nest p.chamber).state = .measuring) →
        s.measures p.nest p.chamber → s.leakIsPending p.nest p.chamber → s.listSound p.nest →
        (∃ r ∈ (s.dossier p.nest).leaks, r.chamber = p.chamber) →
        (t.circuit p.nest p.chamber).state = .venting ∧ (t.circuit p.nest p.chamber).count = 0 ∧
          (t.circuit p.nest p.chamber).resultGiven = true ∧
          s.leakGiven t p.nest p.chamber ⟨.notMeasured, .sensor⟩ ∧
          (((s.circuit p.nest p.chamber).state = .waitingAir ∨ (s.circuit p.nest p.chamber).state = .filling) →
            ⟨p.nest, p.chamber⟩ ∉ t.arbiter.waiting ∧ t.arbiter.holder ≠ some ⟨p.nest, p.chamber⟩)) ∧
      ((s.circuit p.nest p.chamber).state = .holding → s.listSound p.nest → (∀ l, s.leakStage p.nest = some l → l.next = none) →
        (t.circuit p.nest p.chamber).state = .venting ∧ t.dossiers = s.dossiers) ∧
      ((s.circuit p.nest p.chamber).state = .venting →
        (t.circuit p.nest p.chamber).state = .venting ∧ t.dossiers = s.dossiers ∧ t.arbiter = s.arbiter ∧
          ((s.circuit p.nest p.chamber).count = 999 → (s.circuit p.nest p.chamber).ventReported = false →
            (s.faultList p.nest).causes = [] →
            (t.circuit p.nest p.chamber).ventReported = true ∧
              (t.faultList p.nest).causes = [.sensorPressure, .ventFail]))

/-- Below the settling floor of nine tenths of the target a sample gives FAIL GROSS_LEAK; else the last sample of the settle time gives
NOT_MEASURED TEMP_HOLD in class 0 or 7 and in classes 1 to 6 begins the measurement with P_start the mean and the class. The last
sample of the measure time gives NOT_MEASURED TEMP_MOVED for a moved class and else ΔP, ΔPc and PASS or FAIL DECAY by the decay limit
(R111, R112). The circuit then goes to VENTING, or with after-measure HOLD to HOLDING while the other measured chamber has no result;
the stage's last result sends every circuit in HOLDING to VENTING, its own among them (R108, R113). -/
def Obligations.SettlingAndMeasuringEnd : Prop :=
  ∀ (p : PressureInput) (l : LeakSet) (mean : Int) (s : State), pressureInRange p → s.interlock.zero = none →
    s.measures p.nest p.chamber → s.leakIsPending p.nest p.chamber → s.leakSetOf p.nest p.chamber = some l →
    (s.arbiter.holder ≠ none ∨ s.arbiter.waiting = [] ∨ s.arbiter.supplyLow = true) →
    mean = meanOf ((s.circuit p.nest p.chamber).takeSample (s.pressureAt p) false).window →
    ((s.circuit p.nest p.chamber).state = .settling →
      (s.pressureAt p < (l.fillTarget * 9 / 10 : Nat) →
        ∃ t, exec (.settleEnd p) s = .next t ∧ s.leakGiven t p.nest p.chamber ⟨.fail, .grossLeak⟩ ∧
          (t.circuit p.nest p.chamber).state = .venting ∧ (t.circuit p.nest p.chamber).resultGiven = true ∧
          t.channels = s.channels ∧ t.arbiter = s.arbiter) ∧
      ((l.fillTarget * 9 / 10 : Nat) ≤ s.pressureAt p → (s.circuit p.nest p.chamber).count + 1 = 10 * l.settleTime →
        l.settleTime ≤ 600 →
        ((s.classOf p.nest = 0 ∨ s.classOf p.nest = 7) →
          ∃ t, exec (.settleEnd p) s = .next t ∧ s.leakGiven t p.nest p.chamber ⟨.notMeasured, .tempHold⟩ ∧
            (t.circuit p.nest p.chamber).state = .venting ∧ t.channels = s.channels ∧ t.arbiter = s.arbiter) ∧
        (1 ≤ s.classOf p.nest → s.classOf p.nest ≤ 6 →
          ∃ t, exec (.settleEnd p) s = .next t ∧
            (t.dossier p.nest).leaks =
              (s.dossier p.nest).leaks.map (fun r =>
                if r.chamber = p.chamber then
                  { r with classAtStart := some (s.classOf p.nest), pStart := some mean }
                else r) ∧
            (t.circuit p.nest p.chamber).state = .measuring ∧ (t.circuit p.nest p.chamber).count = 0 ∧
            (t.circuit p.nest p.chamber).pStart = some mean ∧
            (t.circuit p.nest p.chamber).classAtStart = some (s.classOf p.nest) ∧
            t.channels = s.channels ∧ t.arbiter = s.arbiter))) ∧
    ∀ start cls, (s.circuit p.nest p.chamber).state = .measuring →
      (s.circuit p.nest p.chamber).count + 1 = 10 * l.measureTime → l.measureTime ≤ 600 →
      (s.circuit p.nest p.chamber).pStart = some start → (s.circuit p.nest p.chamber).classAtStart = some cls →
      1 ≤ cls → cls ≤ 6 → l.compensation.length = 6 →
      (s.classOf p.nest ≠ cls →
        ∃ t, exec (.measureEnd p) s = .next t ∧ s.leakGiven t p.nest p.chamber ⟨.notMeasured, .tempMoved⟩ ∧
          s.measuredEnds t p.nest p.chamber l.afterMeasure ∧ t.channels = s.channels ∧ t.arbiter = s.arbiter) ∧
      (s.classOf p.nest = cls →
        ∃ t comp dpc, l.compensation[cls - 1]? = some comp ∧ dpc = max 0 (start - mean - comp) ∧
          exec (.measureEnd p) s = .next t ∧
          (t.dossier p.nest).leaks =
            (s.dossier p.nest).leaks.map (fun r =>
              if r.chamber = p.chamber then
                { r with
                  deltaP := some (start - mean)
                  deltaPc := some dpc
                  given := some (if dpc ≤ l.decayLimit then ⟨.pass, .none⟩ else ⟨.fail, .decay⟩) }
              else r) ∧
          s.measuredEnds t p.nest p.chamber l.afterMeasure ∧ t.channels = s.channels ∧ t.arbiter = s.arbiter)

/-! ### Supply, temperature and vibration -/

/-- A supply sample below 250,000 Pa makes the supply low and grants nothing; one at or above it makes it not low and grants the free
grant to the head of the waiting list, which enters FILLING (R103, R104). -/
def Obligations.SupplySampleGrantsTheHead : Prop :=
  ∀ (x : Int) (s : State),
    (x < 250000 →
      exec (.supplySample x) s = .next { s with arbiter := { s.arbiter with supplyLow := true } }) ∧
    (250000 ≤ x → (s.arbiter.holder ≠ none ∨ s.arbiter.waiting = []) →
      exec (.supplySample x) s = .next { s with arbiter := { s.arbiter with supplyLow := false } }) ∧
    ∀ y rest, 250000 ≤ x → s.arbiter.holder = none → s.arbiter.waiting = y :: rest →
      exec (.supplySample x) s =
        .next { s with
          arbiter := ⟨some y, rest, false⟩
          circuits := s.circuits.set y.nest
            ((s.circuits.get y.nest).set y.chamber { s.circuit y.nest y.chamber with state := .filling, count := 0 }) }

/-- A temperature sample sets T, clamped to −60.0 to 200.0 °C, and the sensor fault, outside −40.0 to 150.0 °C; the class is the band
class at the first sample, and after it moves up to a higher band and down only at or below the threshold of the class held; a change
after the first sample sets the changed flag and makes the cause pending; a sensor fault is reported (R49 to R53, R57). A vibration
conversion is held, clamped to 16 bits (R124). -/
def Obligations.TemperatureMovesTheClass : Prop :=
  (∀ (n : Nest) (input reading : Int) (b cls : Nat) (s : State),
    reading = max (-600) (min 2000 input) →
    ((-400 ≤ reading ∧ reading ≤ 1500 ∧ inBand reading b) ∨ ((reading < -400 ∨ 1500 < reading) ∧ b = 7)) →
    cls = (if (s.monitor n).sampled = false then b
      else if (s.monitor n).tempClass < b then b
      else if b < (s.monitor n).tempClass ∧ reading ≤ downThreshold (s.monitor n).tempClass then b
      else (s.monitor n).tempClass) →
    (s.monitor n).tempClass ≤ 7 →
    (-400 ≤ reading → reading ≤ 1500 →
      exec (.tempSample n input) s =
        .next { s with
          monitors := s.monitors.set n
            ⟨some reading, cls,
              (s.monitor n).changed || ((s.monitor n).sampled && decide (cls ≠ (s.monitor n).tempClass)), false, true⟩
          bench :=
            if (s.monitor n).sampled = true ∧ cls ≠ (s.monitor n).tempClass then
              { s.bench with causes := s.bench.causes ||| AttentionCause.bit (.classChanged n) }
            else s.bench }) ∧
    ((reading < -400 ∨ 1500 < reading) →
      ∃ t, exec (.tempSample n input) s = .next t ∧
        t.monitors = s.monitors.set n
          ⟨some reading, 7,
            (s.monitor n).changed || ((s.monitor n).sampled && decide ((s.monitor n).tempClass ≠ 7)), true, true⟩ ∧
        (FaultCause.sensorTemp ∈ (s.faultList n).causes → t.faultList n = s.faultList n) ∧
        (FaultCause.sensorTemp ∉ (s.faultList n).causes → (s.faultList n).causes.length < 4 →
          t.faultList n = ⟨(s.faultList n).causes ++ [.sensorTemp], (s.faultList n).more⟩ ∧
            t.bench.isPending (.nestFault n) = true) ∧
        ((s.monitor n).sampled = true → (s.monitor n).tempClass ≠ 7 → t.bench.isPending (.classChanged n) = true) ∧
        t.dossiers = s.dossiers ∧ t.channels = s.channels ∧ t.circuits = s.circuits)) ∧
  ∀ (n : Nest) (x : Int) (s : State),
    exec (.vibrationConversion n x) s =
      .next { s with vibration := s.vibration.set n (max (-32768) (min 32767 x)) }

/-! ### Analysis -/

/-- The completion of a job gives its slot back: it becomes FREE, or PINNED when marked, with the pinned-slot-ready cause pending; the
engine takes the head of its queue, which is ANALYSING, or becomes IDLE; every other slot is as it was (R136, R138). A job that is
discarded merges nothing. One that is not merges its block into the capture record: each line's maximum, saturated and exceeded flags,
the overall maximum, the windows' peaks, and the count of blocks analysed; the record's result is given once every requested block is
analysed and no capture is in progress: OVERLOAD, then ORDER_LIMIT, then OVERALL_LIMIT, then WINDOW_LIMIT for a measured window's maximum
above its peak limit, and PASS where none fails; the windows of a record marked windows-unmeasured take no part (R145, R146, R147). -/
def Obligations.JobCompletionMergesTheBlock : Prop :=
  ∀ (j : Job) (s : State), s.engine.current = some j → (∀ k ∈ s.engine.queue, k.slot ≠ j.slot) →
    ∃ t, exec .jobComplete s = .next t ∧
      ((s.slot j.slot).pinMark = false → t.slot j.slot = ⟨.free, false, none, []⟩) ∧
      ((s.slot j.slot).pinMark = true →
        t.slot j.slot = { s.slot j.slot with state := .pinned, pinMark := false } ∧ t.bench.isPending .pinnedReady = true) ∧
      (s.engine.queue = [] → t.engine = ⟨[], none, false⟩ ∧ ∀ i, i ≠ j.slot → t.slot i = s.slot i) ∧
      (∀ k rest, s.engine.queue = k :: rest →
        t.engine = ⟨rest, some k, false⟩ ∧ t.slot k.slot = { s.slot k.slot with state := .analysing } ∧
          ∀ i, i ≠ j.slot → i ≠ k.slot → t.slot i = s.slot i) ∧
      (s.engine.discard = true → t.dossiers = s.dossiers ∧ t.reports = s.reports) ∧
      ∀ d r, s.engine.discard = false → s.captureDef j.owner j.number = some d → r ∈ (s.dossier j.owner).captures →
        r.number = j.number → ((s.dossier j.owner).captures.map CaptureRecord.number).Nodup → r.given = none →
        (s.dossier j.owner).stageIndex ≠ none → r.lines.length = d.lines.length → r.windows.length = d.windows.length →
        (∀ peaks, j.peaks = some peaks → peaks.length = d.windows.length) →
        ∃ r', r' ∈ (t.dossier j.owner).captures ∧ r'.number = j.number ∧
          (t.dossier j.owner).state = (s.dossier j.owner).state ∧ t.dossier j.owner.other = s.dossier j.owner.other ∧
          r'.blocksAnalysed = r.blocksAnalysed + 1 ∧ r'.blocksRequested = r.blocksRequested ∧
          r'.overallMax = some (max (r.overallMax.getD 0) (overallLevel (256 * j.revolutions) (s.slot j.slot).samples)) ∧
          r'.lines.length = r.lines.length ∧
          (∀ (k : Nat) l e m, d.lines[k]? = some l → r.lines[k]? = some e →
            m = lineAmplitude j.revolutions l.q (s.slot j.slot).samples →
            r'.lines[k]? =
              some ⟨e.q, max e.maximum (min 65535 m), e.saturated || decide (65535 < m),
                e.exceeded || decide ((match j.side with | .drive => l.driveLimit | .coast => l.coastLimit) < m)⟩) ∧
          r'.windows.length = r.windows.length ∧
          (∀ peaks, j.peaks = some peaks → r.unmeasured = false →
            ∀ (k : Nat) x y, r.windows[k]? = some x → peaks[k]? = some y → r'.windows[k]? = some (max x y)) ∧
          ((j.peaks = none ∨ r.unmeasured = true) → r'.windows = r.windows) ∧
          (r.blocksAnalysed + 1 < r.blocksRequested → r'.given = none) ∧
          (∀ c, (s.captureUnit j.owner = .waitingSlot c ∨ ∃ b, s.captureUnit j.owner = .sampling c b) → c.number = j.number →
            r'.given = none) ∧
          (r.blocksAnalysed + 1 = r.blocksRequested →
            (∀ c, (s.captureUnit j.owner = .waitingSlot c ∨ ∃ b, s.captureUnit j.owner = .sampling c b) → c.number ≠ j.number) →
            (r.overload = true → r'.given = some ⟨.fail, .overload⟩) ∧
            (r.overload = false → (∃ e ∈ r'.lines, e.exceeded = true) → r'.given = some ⟨.fail, .orderLimit⟩) ∧
            (r.overload = false → (∀ e ∈ r'.lines, e.exceeded = false) →
              (d.overallLimit < r'.overallMax.getD 0 → r'.given = some ⟨.fail, .overallLimit⟩) ∧
              (r'.overallMax.getD 0 ≤ d.overallLimit →
                (r.unmeasured = true → r'.given = some ⟨.pass, .none⟩) ∧
                (r.unmeasured = false →
                  (∃ (k : Nat) (w : ImpactWindow) (x : Nat),
                    d.windows[k]? = some w ∧ r'.windows[k]? = some x ∧ w.peakLimit < x) →
                  r'.given = some ⟨.fail, .windowLimit⟩) ∧
                (r.unmeasured = false →
                  (∀ (k : Nat) (w : ImpactWindow) (x : Nat),
                    d.windows[k]? = some w → r'.windows[k]? = some x → x ≤ w.peakLimit) →
                  r'.given = some ⟨.pass, .none⟩))))

/-- The completion of the last job of a TESTING dossier whose last stage has ended is its entry to JUDGED: the verdict is ABORTED for
a stopped dossier, else FAIL or INCOMPLETE with the cause of the first such record in the order leak records, run-in record, capture
records, else PASS with cause NONE; judged time, class and first verdict are recorded, engagement and reference cleared, the judged
cause pending (R28, R29, R30); the dossier is then filed, waits for room, or stays JUDGED (R31, R154). -/
def Obligations.LastJobJudgesTheDossier : Prop :=
  ∀ (j : Job) (n : Nest) (p : Plan) (s : State), s.engine.current = some j → s.engine.discard = false → j.owner = n →
    (∀ k ∈ s.engine.queue, k.owner ≠ n) → (s.dossier n).state = .testing → (s.dossier n).stageIndex = none →
    (s.dossier n).filingPending = false → s.planOf n = some p →
    ∃ t, exec .jobComplete s = .next t ∧
      ((s.dossier n).stopped = true →
        (t.dossier n).verdict = some .aborted ∧ (t.dossier n).verdictCause = (s.dossier n).stoppingCause) ∧
      ((s.dossier n).stopped = false →
        (∀ before g after, (t.dossier n).results.filterMap id = before ++ g :: after → g.result = .fail →
          (∀ x ∈ before, x.result ≠ .fail) →
          (t.dossier n).verdict = some .fail ∧ (t.dossier n).verdictCause = some g.cause) ∧
        (∀ before g after, (t.dossier n).results.filterMap id = before ++ g :: after → g.result = .notMeasured →
          (∀ x ∈ before, x.result ≠ .notMeasured) → (∀ x ∈ (t.dossier n).results.filterMap id, x.result ≠ .fail) →
          (t.dossier n).verdict = some .incomplete ∧ (t.dossier n).verdictCause = some g.cause) ∧
        ((∀ x ∈ (t.dossier n).results.filterMap id, x.result = .pass) →
          (t.dossier n).verdict = some .pass ∧ (t.dossier n).verdictCause = some .none)) ∧
      (t.dossier n).judgedTime = some s.reports.clock ∧ (t.dossier n).classAtJudgment = some (s.classOf n) ∧
      (∀ v, (s.dossier n).firstVerdict = some v → (t.dossier n).firstVerdict = some v) ∧
      ((s.dossier n).firstVerdict = none → (t.dossier n).firstVerdict = (t.dossier n).verdict) ∧
      t.channel n = { s.channel n with engaged := false, reference := none } ∧
      t.bench.isPending (.judged n) = true ∧ t.dossier n.other = s.dossier n.other ∧
      ((p.autoFile = false ∨ (s.dossier n).quarantine = true) →
        (t.dossier n).state = .judged ∧ (t.dossier n).filingPending = false ∧ t.reports = s.reports) ∧
      (p.autoFile = true → (s.dossier n).quarantine = false → s.reports.reports.length < 16 →
        (t.dossier n).state = .filed ∧ (t.dossier n).reportNumber = some s.reports.nextNumber ∧
          t.reports.nextNumber = numberAfter s.reports.nextNumber ∧
          ∃ r, t.reports.reports = s.reports.reports ++ [r] ∧ r.number = some s.reports.nextNumber ∧ r.nest = n ∧
            r.verdict = (t.dossier n).verdict ∧ r.captures = (t.dossier n).captures) ∧
      (p.autoFile = true → (s.dossier n).quarantine = false → 16 ≤ s.reports.reports.length →
        (t.dossier n).state = .judged ∧ (t.dossier n).filingPending = true ∧
          t.reports = { s.reports with filingPending := s.reports.filingPending ++ [n] } ∧
          t.bench.isPending .filingBlocked = true)

/-- The sine table is 0, 23170, 32767, 0 and −32767 at 0, 128, 256, 512 and 768, equal at i and 512 − i, and opposite at i and 1024 − i
(R140). M is the integer square root of I′² + Q′², where I′ and Q′ are the sums of the samples with the cosine and the sine of index
(q × n) mod 1024, scaled by 2^s with ties taken upward, s = 22 + log2 R; the overall level is the integer square root of the mean
square (R141, R142, R143, R144). -/
def Obligations.OrderAmplitudeIsIntegerRoot : Prop :=
  (sineTable 0 = 0 ∧ sineTable 128 = 23170 ∧ sineTable 256 = 32767 ∧ sineTable 512 = 0 ∧ sineTable 768 = -32767 ∧
    (∀ i, i ≤ 512 → sineTable (512 - i) = sineTable i) ∧
    ∀ i, 1 ≤ i → i ≤ 1023 → sineTable (1024 - i) = -sineTable i) ∧
  (∀ (rev q shift : Nat) (xs : List Int) (i p : Int),
    (rev = 4 ∧ shift = 24 ∨ rev = 8 ∧ shift = 25 ∨ rev = 16 ∧ shift = 26 ∨ rev = 32 ∧ shift = 27) →
    xs.length = 256 * rev → (∀ x ∈ xs, -32768 ≤ x ∧ x ≤ 32767) →
    i = (((List.range xs.length).map fun n => xs.getD n 0 * sineTable ((q * n + 256) % 1024)).sum + 2 ^ (shift - 1)) /
      2 ^ shift →
    p = (((List.range xs.length).map fun n => xs.getD n 0 * sineTable (q * n % 1024)).sum + 2 ^ (shift - 1)) / 2 ^ shift →
    (lineAmplitude rev q xs : Int) * lineAmplitude rev q xs ≤ i * i + p * p ∧
      i * i + p * p < ((lineAmplitude rev q xs : Int) + 1) * ((lineAmplitude rev q xs : Int) + 1) ∧
      lineAmplitude rev q xs ≤ 92680) ∧
  ∀ (n : Nat) (xs : List Int), xs.length = n → 0 < n → (∀ x ∈ xs, -32768 ≤ x ∧ x ≤ 32767) →
    overallLevel n xs * overallLevel n xs ≤ (xs.map fun x => x.natAbs * x.natAbs).sum / n ∧
      (xs.map fun x => x.natAbs * x.natAbs).sum / n < (overallLevel n xs + 1) * (overallLevel n xs + 1)

/-! ### What every step keeps -/

/-- Every step keeps the drive at rest while its enable is off and every set-point, and every stored search speed, within its range, and
keeps the step capture NONE while a profile's phase is RAMP. -/
def Obligations.StepsKeepDriveWithinBounds : Prop :=
  ∀ s t : State, step s = .next t →
    (s.restsWhenOff → s.speedBounded → t.restsWhenOff ∧ t.speedBounded) ∧ (s.rampSound → t.rampSound)

/-- Every step keeps sound the report queue and the in-use counts (at most 16 reports with numbers that run up, a filing-pending list
of JUDGED dossiers that is empty while there is room, each in-use count the number of live dossiers, which name VALID plans); the fault
lists (at most four distinct causes); the air supply with the stages (the grant held by exactly the FILLING circuit, a waiting list of
exactly the WAITING_AIR circuits, each once); and the captures and slots with the stages (a job queue of exactly the READY slots, each
once, at most two slots PINNED or marked). -/
def Obligations.StepsKeepQueueAndCountsSound : Prop :=
  ∀ s t : State, step s = .next t →
    (s.queueSound → s.inUseSound → t.queueSound ∧ t.inUseSound) ∧
      (s.faultsSound → t.faultsSound) ∧
      (s.airSound → s.stagesSound → t.airSound ∧ t.stagesSound) ∧
      (s.stagesSound → s.capturesSound → t.capturesSound ∧ (s.slotsSound → t.slotsSound))

/-- Every step keeps the intake buffer in its canonical form: addresses strictly rising and below 1,024, no word 0 listed. -/
def Obligations.StepsKeepIntakeCanonical : Prop :=
  ∀ s t : State, WordMem.wf s.bench.intake = true → step s = .next t → WordMem.wf t.bench.intake = true

/-- The state after reset has every property that the steps keep. -/
def Obligations.ResetHasTheInvariants : Prop :=
  State.reset.restsWhenOff ∧ State.reset.speedBounded ∧ State.reset.rampSound ∧ State.reset.queueSound ∧ State.reset.inUseSound ∧
    WordMem.wf State.reset.bench.intake = true ∧ State.reset.faultsSound ∧ State.reset.airSound ∧ State.reset.stagesSound ∧
    State.reset.capturesSound ∧ State.reset.slotsSound
end

