-- ==== Sys2Proof/Laws/Invariants.lean ====
section
/-! SUPPORT. What the invariants give the statements that assume less. -/

namespace Sys2Proof.Machine

/-- A sound air supply meets the premise of the statements about stops: its list holds circuits in WAITING_AIR alone. -/
theorem State.listSound_of_airSound {s : State} (h : s.airSound) (n : Nest) : s.listSound n := fun c => (h.2.2 n c).1

end Sys2Proof.Machine
end

