-- ==== Sys2Proof/Laws/Memory.lean ====
section
/-! SUPPORT. The laws of the intake buffer: a write is read back, leaves every other address alone and keeps the canonical form. -/

namespace Sys2Proof.Machine

theorem WordMem.read_of_lt {m : List (Nat × Word)} {lo a : Nat} (h : WordMem.wfFrom lo m = true) (ha : a < lo) :
    WordMem.read m a = 0 := by
  induction m generalizing lo with
  | nil => rfl
  | cons x rest ih =>
    obtain ⟨b, w⟩ := x
    simp only [WordMem.wfFrom, Bool.and_eq_true, decide_eq_true_eq] at h
    obtain ⟨⟨⟨h1, -⟩, -⟩, h4⟩ := h
    simp only [WordMem.read]
    rw [if_neg (by omega)]
    exact ih h4 (by omega)

theorem WordMem.wfFrom_mono {m : List (Nat × Word)} {lo lo' : Nat} (h : WordMem.wfFrom lo m = true) (hl : lo' ≤ lo) :
    WordMem.wfFrom lo' m = true := by
  cases m with
  | nil => rfl
  | cons x rest =>
    obtain ⟨b, w⟩ := x
    simp only [WordMem.wfFrom, Bool.and_eq_true, decide_eq_true_eq] at h ⊢
    exact ⟨⟨⟨by omega, h.1.1.2⟩, h.1.2⟩, h.2⟩

/-- A write from address `lo` on keeps the canonical form from `lo` on. -/
theorem WordMem.wfFrom_write {m : List (Nat × Word)} {lo a : Nat} (w : Word) (h : WordMem.wfFrom lo m = true)
    (hlo : lo ≤ a) (ha : a < 1024) : WordMem.wfFrom lo (WordMem.write m a w) = true := by
  induction m generalizing lo with
  | nil =>
    simp only [WordMem.write]
    split <;> simp_all [WordMem.wfFrom]
  | cons x rest ih =>
    obtain ⟨b, x⟩ := x
    have h' := h
    simp only [WordMem.wfFrom, Bool.and_eq_true, decide_eq_true_eq] at h
    obtain ⟨⟨⟨h1, h2⟩, h3⟩, h4⟩ := h
    simp only [WordMem.write]
    split
    · split
      · exact h'
      · simp_all [WordMem.wfFrom]
    · split
      · split
        · exact WordMem.wfFrom_mono h4 (by omega)
        · simp_all [WordMem.wfFrom]
      · simp only [WordMem.wfFrom, Bool.and_eq_true, decide_eq_true_eq]
        exact ⟨⟨⟨h1, h2⟩, h3⟩, ih h4 (by omega)⟩

/-- A write within the buffer keeps the canonical form. -/
theorem WordMem.wf_write {m : List (Nat × Word)} {a : Nat} (w : Word) (h : WordMem.wf m = true) (ha : a < 1024) :
    WordMem.wf (WordMem.write m a w) = true :=
  WordMem.wfFrom_write w h (Nat.zero_le a) ha

/-- A read after a write to the same address gives the word written. -/
theorem WordMem.read_write_same {m : List (Nat × Word)} {lo : Nat} (a : Nat) (w : Word) (h : WordMem.wfFrom lo m = true) :
    WordMem.read (WordMem.write m a w) a = w := by
  induction m generalizing lo with
  | nil =>
    simp only [WordMem.write]
    split <;> simp_all [WordMem.read]
  | cons x rest ih =>
    obtain ⟨b, x⟩ := x
    simp only [WordMem.wfFrom, Bool.and_eq_true, decide_eq_true_eq] at h
    obtain ⟨-, h4⟩ := h
    simp only [WordMem.write]
    split
    · split
      · subst_vars
        simp only [WordMem.read]
        rw [if_neg (by omega)]
        exact WordMem.read_of_lt h4 (by omega)
      · simp [WordMem.read]
    · split
      · subst_vars
        split
        · subst_vars
          exact WordMem.read_of_lt h4 (by omega)
        · simp [WordMem.read]
      · simp only [WordMem.read]
        rw [if_neg (by omega)]
        exact ih h4

/-- A write leaves every other address alone. -/
theorem WordMem.read_write_ne {m : List (Nat × Word)} {a c : Nat} (w : Word) (hc : c ≠ a) :
    WordMem.read (WordMem.write m a w) c = WordMem.read m c := by
  induction m with
  | nil =>
    simp only [WordMem.write]
    split <;> simp_all [WordMem.read]
  | cons x rest ih =>
    obtain ⟨b, x⟩ := x
    simp only [WordMem.write]
    split
    · split
      · rfl
      · simp [WordMem.read, hc]
    · split
      · subst_vars
        split <;> simp [WordMem.read, hc]
      · simp only [WordMem.read, ih]

/-- The intake buffer of the reset state has the canonical form. -/
theorem reset_intake_wf : WordMem.wf State.reset.bench.intake = true := rfl

end Sys2Proof.Machine
end

