-- ==== Sys2Proof/Laws/State.lean ====
section
/-! SUPPORT. The small lemmas of State: what each named update does to each field and to each accessor. -/

namespace Sys2Proof.Machine

variable {α : Type}

@[simp] theorem PerNest.get_set_same (p : PerNest α) (n : Nest) (a : α) : (p.set n a).get n = a := by cases n <;> rfl

theorem PerNest.get_set_ne (p : PerNest α) {n m : Nest} (a : α) (h : m ≠ n) : (p.set n a).get m = p.get m := by
  cases n <;> cases m <;> first | rfl | exact absurd rfl h

@[simp] theorem PerNest.get_set_other (p : PerNest α) (n : Nest) (a : α) : (p.set n a).get n.other = p.get n.other := by
  cases n <;> rfl

@[simp] theorem PerNest.set_set (p : PerNest α) (n : Nest) (a b : α) : (p.set n a).set n b = p.set n b := by cases n <;> rfl

@[simp] theorem PerNest.set_get (p : PerNest α) (n : Nest) : p.set n (p.get n) = p := by cases n <;> rfl

@[simp] theorem PerNest.mod_get_same (p : PerNest α) (n : Nest) (f : α → α) : (p.mod n f).get n = f (p.get n) := by
  cases n <;> rfl

theorem PerNest.mod_get_ne (p : PerNest α) {n m : Nest} (f : α → α) (h : m ≠ n) : (p.mod n f).get m = p.get m :=
  PerNest.get_set_ne p _ h

@[simp] theorem PerChamber.get_set_same (p : PerChamber α) (c : Chamber) (a : α) : (p.set c a).get c = a := by
  cases c <;> rfl

theorem PerChamber.get_set_ne (p : PerChamber α) {c d : Chamber} (a : α) (h : d ≠ c) : (p.set c a).get d = p.get d := by
  cases c <;> cases d <;> first | rfl | exact absurd rfl h

@[simp] theorem PerLink.get_set_same (p : PerLink α) (l : Link) (a : α) : (p.set l a).get l = a := by cases l <;> rfl

theorem PerLink.get_set_ne (p : PerLink α) {l k : Link} (a : α) (h : k ≠ l) : (p.set l a).get k = p.get k := by
  cases l <;> cases k <;> first | rfl | exact absurd rfl h

/-! ### The fields of State under each update -/

@[simp] theorem State.modDossier_dossiers (s : State) (n : Nest) (f : Dossier → Dossier) : (s.modDossier n f).dossiers = s.dossiers.mod n f := rfl
@[simp] theorem State.modDossier_plans (s : State) (n : Nest) (f : Dossier → Dossier) : (s.modDossier n f).plans = s.plans := rfl
@[simp] theorem State.modDossier_monitors (s : State) (n : Nest) (f : Dossier → Dossier) : (s.modDossier n f).monitors = s.monitors := rfl
@[simp] theorem State.modDossier_channels (s : State) (n : Nest) (f : Dossier → Dossier) : (s.modDossier n f).channels = s.channels := rfl
@[simp] theorem State.modDossier_circuits (s : State) (n : Nest) (f : Dossier → Dossier) : (s.modDossier n f).circuits = s.circuits := rfl
@[simp] theorem State.modDossier_leakStages (s : State) (n : Nest) (f : Dossier → Dossier) : (s.modDossier n f).leakStages = s.leakStages := rfl
@[simp] theorem State.modDossier_arbiter (s : State) (n : Nest) (f : Dossier → Dossier) : (s.modDossier n f).arbiter = s.arbiter := rfl
@[simp] theorem State.modDossier_slots (s : State) (n : Nest) (f : Dossier → Dossier) : (s.modDossier n f).slots = s.slots := rfl
@[simp] theorem State.modDossier_units (s : State) (n : Nest) (f : Dossier → Dossier) : (s.modDossier n f).units = s.units := rfl
@[simp] theorem State.modDossier_vibration (s : State) (n : Nest) (f : Dossier → Dossier) : (s.modDossier n f).vibration = s.vibration := rfl
@[simp] theorem State.modDossier_engine (s : State) (n : Nest) (f : Dossier → Dossier) : (s.modDossier n f).engine = s.engine := rfl
@[simp] theorem State.modDossier_reports (s : State) (n : Nest) (f : Dossier → Dossier) : (s.modDossier n f).reports = s.reports := rfl
@[simp] theorem State.modDossier_interlock (s : State) (n : Nest) (f : Dossier → Dossier) : (s.modDossier n f).interlock = s.interlock := rfl
@[simp] theorem State.modDossier_bench (s : State) (n : Nest) (f : Dossier → Dossier) : (s.modDossier n f).bench = s.bench := rfl
@[simp] theorem State.modDossier_links (s : State) (n : Nest) (f : Dossier → Dossier) : (s.modDossier n f).links = s.links := rfl
@[simp] theorem State.modDossier_fastLinks (s : State) (n : Nest) (f : Dossier → Dossier) : (s.modDossier n f).fastLinks = s.fastLinks := rfl
@[simp] theorem State.modDossier_freeCount (s : State) (n : Nest) (f : Dossier → Dossier) : (s.modDossier n f).freeCount = s.freeCount := rfl
@[simp] theorem State.modDossier_pending (s : State) (n : Nest) (f : Dossier → Dossier) : (s.modDossier n f).pending = s.pending := rfl

@[simp] theorem State.modPlan_dossiers (s : State) (v : Fin 32) (f : PlanEntry → PlanEntry) : (s.modPlan v f).dossiers = s.dossiers := rfl
@[simp] theorem State.modPlan_plans (s : State) (v : Fin 32) (f : PlanEntry → PlanEntry) : (s.modPlan v f).plans = s.plans.set v (f s.plans[v]) := rfl
@[simp] theorem State.modPlan_monitors (s : State) (v : Fin 32) (f : PlanEntry → PlanEntry) : (s.modPlan v f).monitors = s.monitors := rfl
@[simp] theorem State.modPlan_channels (s : State) (v : Fin 32) (f : PlanEntry → PlanEntry) : (s.modPlan v f).channels = s.channels := rfl
@[simp] theorem State.modPlan_circuits (s : State) (v : Fin 32) (f : PlanEntry → PlanEntry) : (s.modPlan v f).circuits = s.circuits := rfl
@[simp] theorem State.modPlan_leakStages (s : State) (v : Fin 32) (f : PlanEntry → PlanEntry) : (s.modPlan v f).leakStages = s.leakStages := rfl
@[simp] theorem State.modPlan_arbiter (s : State) (v : Fin 32) (f : PlanEntry → PlanEntry) : (s.modPlan v f).arbiter = s.arbiter := rfl
@[simp] theorem State.modPlan_slots (s : State) (v : Fin 32) (f : PlanEntry → PlanEntry) : (s.modPlan v f).slots = s.slots := rfl
@[simp] theorem State.modPlan_units (s : State) (v : Fin 32) (f : PlanEntry → PlanEntry) : (s.modPlan v f).units = s.units := rfl
@[simp] theorem State.modPlan_vibration (s : State) (v : Fin 32) (f : PlanEntry → PlanEntry) : (s.modPlan v f).vibration = s.vibration := rfl
@[simp] theorem State.modPlan_engine (s : State) (v : Fin 32) (f : PlanEntry → PlanEntry) : (s.modPlan v f).engine = s.engine := rfl
@[simp] theorem State.modPlan_reports (s : State) (v : Fin 32) (f : PlanEntry → PlanEntry) : (s.modPlan v f).reports = s.reports := rfl
@[simp] theorem State.modPlan_interlock (s : State) (v : Fin 32) (f : PlanEntry → PlanEntry) : (s.modPlan v f).interlock = s.interlock := rfl
@[simp] theorem State.modPlan_bench (s : State) (v : Fin 32) (f : PlanEntry → PlanEntry) : (s.modPlan v f).bench = s.bench := rfl
@[simp] theorem State.modPlan_links (s : State) (v : Fin 32) (f : PlanEntry → PlanEntry) : (s.modPlan v f).links = s.links := rfl
@[simp] theorem State.modPlan_fastLinks (s : State) (v : Fin 32) (f : PlanEntry → PlanEntry) : (s.modPlan v f).fastLinks = s.fastLinks := rfl
@[simp] theorem State.modPlan_freeCount (s : State) (v : Fin 32) (f : PlanEntry → PlanEntry) : (s.modPlan v f).freeCount = s.freeCount := rfl
@[simp] theorem State.modPlan_pending (s : State) (v : Fin 32) (f : PlanEntry → PlanEntry) : (s.modPlan v f).pending = s.pending := rfl

@[simp] theorem State.modMonitor_dossiers (s : State) (n : Nest) (f : Monitor → Monitor) : (s.modMonitor n f).dossiers = s.dossiers := rfl
@[simp] theorem State.modMonitor_plans (s : State) (n : Nest) (f : Monitor → Monitor) : (s.modMonitor n f).plans = s.plans := rfl
@[simp] theorem State.modMonitor_monitors (s : State) (n : Nest) (f : Monitor → Monitor) : (s.modMonitor n f).monitors = s.monitors.mod n f := rfl
@[simp] theorem State.modMonitor_channels (s : State) (n : Nest) (f : Monitor → Monitor) : (s.modMonitor n f).channels = s.channels := rfl
@[simp] theorem State.modMonitor_circuits (s : State) (n : Nest) (f : Monitor → Monitor) : (s.modMonitor n f).circuits = s.circuits := rfl
@[simp] theorem State.modMonitor_leakStages (s : State) (n : Nest) (f : Monitor → Monitor) : (s.modMonitor n f).leakStages = s.leakStages := rfl
@[simp] theorem State.modMonitor_arbiter (s : State) (n : Nest) (f : Monitor → Monitor) : (s.modMonitor n f).arbiter = s.arbiter := rfl
@[simp] theorem State.modMonitor_slots (s : State) (n : Nest) (f : Monitor → Monitor) : (s.modMonitor n f).slots = s.slots := rfl
@[simp] theorem State.modMonitor_units (s : State) (n : Nest) (f : Monitor → Monitor) : (s.modMonitor n f).units = s.units := rfl
@[simp] theorem State.modMonitor_vibration (s : State) (n : Nest) (f : Monitor → Monitor) : (s.modMonitor n f).vibration = s.vibration := rfl
@[simp] theorem State.modMonitor_engine (s : State) (n : Nest) (f : Monitor → Monitor) : (s.modMonitor n f).engine = s.engine := rfl
@[simp] theorem State.modMonitor_reports (s : State) (n : Nest) (f : Monitor → Monitor) : (s.modMonitor n f).reports = s.reports := rfl
@[simp] theorem State.modMonitor_interlock (s : State) (n : Nest) (f : Monitor → Monitor) : (s.modMonitor n f).interlock = s.interlock := rfl
@[simp] theorem State.modMonitor_bench (s : State) (n : Nest) (f : Monitor → Monitor) : (s.modMonitor n f).bench = s.bench := rfl
@[simp] theorem State.modMonitor_links (s : State) (n : Nest) (f : Monitor → Monitor) : (s.modMonitor n f).links = s.links := rfl
@[simp] theorem State.modMonitor_fastLinks (s : State) (n : Nest) (f : Monitor → Monitor) : (s.modMonitor n f).fastLinks = s.fastLinks := rfl
@[simp] theorem State.modMonitor_freeCount (s : State) (n : Nest) (f : Monitor → Monitor) : (s.modMonitor n f).freeCount = s.freeCount := rfl
@[simp] theorem State.modMonitor_pending (s : State) (n : Nest) (f : Monitor → Monitor) : (s.modMonitor n f).pending = s.pending := rfl

@[simp] theorem State.modChannel_dossiers (s : State) (n : Nest) (f : Channel → Channel) : (s.modChannel n f).dossiers = s.dossiers := rfl
@[simp] theorem State.modChannel_plans (s : State) (n : Nest) (f : Channel → Channel) : (s.modChannel n f).plans = s.plans := rfl
@[simp] theorem State.modChannel_monitors (s : State) (n : Nest) (f : Channel → Channel) : (s.modChannel n f).monitors = s.monitors := rfl
@[simp] theorem State.modChannel_channels (s : State) (n : Nest) (f : Channel → Channel) : (s.modChannel n f).channels = s.channels.mod n f := rfl
@[simp] theorem State.modChannel_circuits (s : State) (n : Nest) (f : Channel → Channel) : (s.modChannel n f).circuits = s.circuits := rfl
@[simp] theorem State.modChannel_leakStages (s : State) (n : Nest) (f : Channel → Channel) : (s.modChannel n f).leakStages = s.leakStages := rfl
@[simp] theorem State.modChannel_arbiter (s : State) (n : Nest) (f : Channel → Channel) : (s.modChannel n f).arbiter = s.arbiter := rfl
@[simp] theorem State.modChannel_slots (s : State) (n : Nest) (f : Channel → Channel) : (s.modChannel n f).slots = s.slots := rfl
@[simp] theorem State.modChannel_units (s : State) (n : Nest) (f : Channel → Channel) : (s.modChannel n f).units = s.units := rfl
@[simp] theorem State.modChannel_vibration (s : State) (n : Nest) (f : Channel → Channel) : (s.modChannel n f).vibration = s.vibration := rfl
@[simp] theorem State.modChannel_engine (s : State) (n : Nest) (f : Channel → Channel) : (s.modChannel n f).engine = s.engine := rfl
@[simp] theorem State.modChannel_reports (s : State) (n : Nest) (f : Channel → Channel) : (s.modChannel n f).reports = s.reports := rfl
@[simp] theorem State.modChannel_interlock (s : State) (n : Nest) (f : Channel → Channel) : (s.modChannel n f).interlock = s.interlock := rfl
@[simp] theorem State.modChannel_bench (s : State) (n : Nest) (f : Channel → Channel) : (s.modChannel n f).bench = s.bench := rfl
@[simp] theorem State.modChannel_links (s : State) (n : Nest) (f : Channel → Channel) : (s.modChannel n f).links = s.links := rfl
@[simp] theorem State.modChannel_fastLinks (s : State) (n : Nest) (f : Channel → Channel) : (s.modChannel n f).fastLinks = s.fastLinks := rfl
@[simp] theorem State.modChannel_freeCount (s : State) (n : Nest) (f : Channel → Channel) : (s.modChannel n f).freeCount = s.freeCount := rfl
@[simp] theorem State.modChannel_pending (s : State) (n : Nest) (f : Channel → Channel) : (s.modChannel n f).pending = s.pending := rfl

@[simp] theorem State.modCircuit_dossiers (s : State) (n : Nest) (c : Chamber) (f : Circuit → Circuit) : (s.modCircuit n c f).dossiers = s.dossiers := rfl
@[simp] theorem State.modCircuit_plans (s : State) (n : Nest) (c : Chamber) (f : Circuit → Circuit) : (s.modCircuit n c f).plans = s.plans := rfl
@[simp] theorem State.modCircuit_monitors (s : State) (n : Nest) (c : Chamber) (f : Circuit → Circuit) : (s.modCircuit n c f).monitors = s.monitors := rfl
@[simp] theorem State.modCircuit_channels (s : State) (n : Nest) (c : Chamber) (f : Circuit → Circuit) : (s.modCircuit n c f).channels = s.channels := rfl
@[simp] theorem State.modCircuit_circuits (s : State) (n : Nest) (c : Chamber) (f : Circuit → Circuit) : (s.modCircuit n c f).circuits = s.circuits.mod n fun p => p.set c (f (p.get c)) := rfl
@[simp] theorem State.modCircuit_leakStages (s : State) (n : Nest) (c : Chamber) (f : Circuit → Circuit) : (s.modCircuit n c f).leakStages = s.leakStages := rfl
@[simp] theorem State.modCircuit_arbiter (s : State) (n : Nest) (c : Chamber) (f : Circuit → Circuit) : (s.modCircuit n c f).arbiter = s.arbiter := rfl
@[simp] theorem State.modCircuit_slots (s : State) (n : Nest) (c : Chamber) (f : Circuit → Circuit) : (s.modCircuit n c f).slots = s.slots := rfl
@[simp] theorem State.modCircuit_units (s : State) (n : Nest) (c : Chamber) (f : Circuit → Circuit) : (s.modCircuit n c f).units = s.units := rfl
@[simp] theorem State.modCircuit_vibration (s : State) (n : Nest) (c : Chamber) (f : Circuit → Circuit) : (s.modCircuit n c f).vibration = s.vibration := rfl
@[simp] theorem State.modCircuit_engine (s : State) (n : Nest) (c : Chamber) (f : Circuit → Circuit) : (s.modCircuit n c f).engine = s.engine := rfl
@[simp] theorem State.modCircuit_reports (s : State) (n : Nest) (c : Chamber) (f : Circuit → Circuit) : (s.modCircuit n c f).reports = s.reports := rfl
@[simp] theorem State.modCircuit_interlock (s : State) (n : Nest) (c : Chamber) (f : Circuit → Circuit) : (s.modCircuit n c f).interlock = s.interlock := rfl
@[simp] theorem State.modCircuit_bench (s : State) (n : Nest) (c : Chamber) (f : Circuit → Circuit) : (s.modCircuit n c f).bench = s.bench := rfl
@[simp] theorem State.modCircuit_links (s : State) (n : Nest) (c : Chamber) (f : Circuit → Circuit) : (s.modCircuit n c f).links = s.links := rfl
@[simp] theorem State.modCircuit_fastLinks (s : State) (n : Nest) (c : Chamber) (f : Circuit → Circuit) : (s.modCircuit n c f).fastLinks = s.fastLinks := rfl
@[simp] theorem State.modCircuit_freeCount (s : State) (n : Nest) (c : Chamber) (f : Circuit → Circuit) : (s.modCircuit n c f).freeCount = s.freeCount := rfl
@[simp] theorem State.modCircuit_pending (s : State) (n : Nest) (c : Chamber) (f : Circuit → Circuit) : (s.modCircuit n c f).pending = s.pending := rfl

@[simp] theorem State.setLeakStage_dossiers (s : State) (n : Nest) (l : Option LeakStage) : (s.setLeakStage n l).dossiers = s.dossiers := rfl
@[simp] theorem State.setLeakStage_plans (s : State) (n : Nest) (l : Option LeakStage) : (s.setLeakStage n l).plans = s.plans := rfl
@[simp] theorem State.setLeakStage_monitors (s : State) (n : Nest) (l : Option LeakStage) : (s.setLeakStage n l).monitors = s.monitors := rfl
@[simp] theorem State.setLeakStage_channels (s : State) (n : Nest) (l : Option LeakStage) : (s.setLeakStage n l).channels = s.channels := rfl
@[simp] theorem State.setLeakStage_circuits (s : State) (n : Nest) (l : Option LeakStage) : (s.setLeakStage n l).circuits = s.circuits := rfl
@[simp] theorem State.setLeakStage_leakStages (s : State) (n : Nest) (l : Option LeakStage) : (s.setLeakStage n l).leakStages = s.leakStages.set n l := rfl
@[simp] theorem State.setLeakStage_arbiter (s : State) (n : Nest) (l : Option LeakStage) : (s.setLeakStage n l).arbiter = s.arbiter := rfl
@[simp] theorem State.setLeakStage_slots (s : State) (n : Nest) (l : Option LeakStage) : (s.setLeakStage n l).slots = s.slots := rfl
@[simp] theorem State.setLeakStage_units (s : State) (n : Nest) (l : Option LeakStage) : (s.setLeakStage n l).units = s.units := rfl
@[simp] theorem State.setLeakStage_vibration (s : State) (n : Nest) (l : Option LeakStage) : (s.setLeakStage n l).vibration = s.vibration := rfl
@[simp] theorem State.setLeakStage_engine (s : State) (n : Nest) (l : Option LeakStage) : (s.setLeakStage n l).engine = s.engine := rfl
@[simp] theorem State.setLeakStage_reports (s : State) (n : Nest) (l : Option LeakStage) : (s.setLeakStage n l).reports = s.reports := rfl
@[simp] theorem State.setLeakStage_interlock (s : State) (n : Nest) (l : Option LeakStage) : (s.setLeakStage n l).interlock = s.interlock := rfl
@[simp] theorem State.setLeakStage_bench (s : State) (n : Nest) (l : Option LeakStage) : (s.setLeakStage n l).bench = s.bench := rfl
@[simp] theorem State.setLeakStage_links (s : State) (n : Nest) (l : Option LeakStage) : (s.setLeakStage n l).links = s.links := rfl
@[simp] theorem State.setLeakStage_fastLinks (s : State) (n : Nest) (l : Option LeakStage) : (s.setLeakStage n l).fastLinks = s.fastLinks := rfl
@[simp] theorem State.setLeakStage_freeCount (s : State) (n : Nest) (l : Option LeakStage) : (s.setLeakStage n l).freeCount = s.freeCount := rfl
@[simp] theorem State.setLeakStage_pending (s : State) (n : Nest) (l : Option LeakStage) : (s.setLeakStage n l).pending = s.pending := rfl

@[simp] theorem State.modArbiter_dossiers (s : State) (f : Arbiter → Arbiter) : (s.modArbiter f).dossiers = s.dossiers := rfl
@[simp] theorem State.modArbiter_plans (s : State) (f : Arbiter → Arbiter) : (s.modArbiter f).plans = s.plans := rfl
@[simp] theorem State.modArbiter_monitors (s : State) (f : Arbiter → Arbiter) : (s.modArbiter f).monitors = s.monitors := rfl
@[simp] theorem State.modArbiter_channels (s : State) (f : Arbiter → Arbiter) : (s.modArbiter f).channels = s.channels := rfl
@[simp] theorem State.modArbiter_circuits (s : State) (f : Arbiter → Arbiter) : (s.modArbiter f).circuits = s.circuits := rfl
@[simp] theorem State.modArbiter_leakStages (s : State) (f : Arbiter → Arbiter) : (s.modArbiter f).leakStages = s.leakStages := rfl
@[simp] theorem State.modArbiter_arbiter (s : State) (f : Arbiter → Arbiter) : (s.modArbiter f).arbiter = f s.arbiter := rfl
@[simp] theorem State.modArbiter_slots (s : State) (f : Arbiter → Arbiter) : (s.modArbiter f).slots = s.slots := rfl
@[simp] theorem State.modArbiter_units (s : State) (f : Arbiter → Arbiter) : (s.modArbiter f).units = s.units := rfl
@[simp] theorem State.modArbiter_vibration (s : State) (f : Arbiter → Arbiter) : (s.modArbiter f).vibration = s.vibration := rfl
@[simp] theorem State.modArbiter_engine (s : State) (f : Arbiter → Arbiter) : (s.modArbiter f).engine = s.engine := rfl
@[simp] theorem State.modArbiter_reports (s : State) (f : Arbiter → Arbiter) : (s.modArbiter f).reports = s.reports := rfl
@[simp] theorem State.modArbiter_interlock (s : State) (f : Arbiter → Arbiter) : (s.modArbiter f).interlock = s.interlock := rfl
@[simp] theorem State.modArbiter_bench (s : State) (f : Arbiter → Arbiter) : (s.modArbiter f).bench = s.bench := rfl
@[simp] theorem State.modArbiter_links (s : State) (f : Arbiter → Arbiter) : (s.modArbiter f).links = s.links := rfl
@[simp] theorem State.modArbiter_fastLinks (s : State) (f : Arbiter → Arbiter) : (s.modArbiter f).fastLinks = s.fastLinks := rfl
@[simp] theorem State.modArbiter_freeCount (s : State) (f : Arbiter → Arbiter) : (s.modArbiter f).freeCount = s.freeCount := rfl
@[simp] theorem State.modArbiter_pending (s : State) (f : Arbiter → Arbiter) : (s.modArbiter f).pending = s.pending := rfl

@[simp] theorem State.modSlot_dossiers (s : State) (i : Fin 4) (f : Slot → Slot) : (s.modSlot i f).dossiers = s.dossiers := rfl
@[simp] theorem State.modSlot_plans (s : State) (i : Fin 4) (f : Slot → Slot) : (s.modSlot i f).plans = s.plans := rfl
@[simp] theorem State.modSlot_monitors (s : State) (i : Fin 4) (f : Slot → Slot) : (s.modSlot i f).monitors = s.monitors := rfl
@[simp] theorem State.modSlot_channels (s : State) (i : Fin 4) (f : Slot → Slot) : (s.modSlot i f).channels = s.channels := rfl
@[simp] theorem State.modSlot_circuits (s : State) (i : Fin 4) (f : Slot → Slot) : (s.modSlot i f).circuits = s.circuits := rfl
@[simp] theorem State.modSlot_leakStages (s : State) (i : Fin 4) (f : Slot → Slot) : (s.modSlot i f).leakStages = s.leakStages := rfl
@[simp] theorem State.modSlot_arbiter (s : State) (i : Fin 4) (f : Slot → Slot) : (s.modSlot i f).arbiter = s.arbiter := rfl
@[simp] theorem State.modSlot_slots (s : State) (i : Fin 4) (f : Slot → Slot) : (s.modSlot i f).slots = s.slots.set i (f s.slots[i]) := rfl
@[simp] theorem State.modSlot_units (s : State) (i : Fin 4) (f : Slot → Slot) : (s.modSlot i f).units = s.units := rfl
@[simp] theorem State.modSlot_vibration (s : State) (i : Fin 4) (f : Slot → Slot) : (s.modSlot i f).vibration = s.vibration := rfl
@[simp] theorem State.modSlot_engine (s : State) (i : Fin 4) (f : Slot → Slot) : (s.modSlot i f).engine = s.engine := rfl
@[simp] theorem State.modSlot_reports (s : State) (i : Fin 4) (f : Slot → Slot) : (s.modSlot i f).reports = s.reports := rfl
@[simp] theorem State.modSlot_interlock (s : State) (i : Fin 4) (f : Slot → Slot) : (s.modSlot i f).interlock = s.interlock := rfl
@[simp] theorem State.modSlot_bench (s : State) (i : Fin 4) (f : Slot → Slot) : (s.modSlot i f).bench = s.bench := rfl
@[simp] theorem State.modSlot_links (s : State) (i : Fin 4) (f : Slot → Slot) : (s.modSlot i f).links = s.links := rfl
@[simp] theorem State.modSlot_fastLinks (s : State) (i : Fin 4) (f : Slot → Slot) : (s.modSlot i f).fastLinks = s.fastLinks := rfl
@[simp] theorem State.modSlot_freeCount (s : State) (i : Fin 4) (f : Slot → Slot) : (s.modSlot i f).freeCount = s.freeCount := rfl
@[simp] theorem State.modSlot_pending (s : State) (i : Fin 4) (f : Slot → Slot) : (s.modSlot i f).pending = s.pending := rfl

@[simp] theorem State.setUnit_dossiers (s : State) (n : Nest) (u : CaptureUnit) : (s.setUnit n u).dossiers = s.dossiers := rfl
@[simp] theorem State.setUnit_plans (s : State) (n : Nest) (u : CaptureUnit) : (s.setUnit n u).plans = s.plans := rfl
@[simp] theorem State.setUnit_monitors (s : State) (n : Nest) (u : CaptureUnit) : (s.setUnit n u).monitors = s.monitors := rfl
@[simp] theorem State.setUnit_channels (s : State) (n : Nest) (u : CaptureUnit) : (s.setUnit n u).channels = s.channels := rfl
@[simp] theorem State.setUnit_circuits (s : State) (n : Nest) (u : CaptureUnit) : (s.setUnit n u).circuits = s.circuits := rfl
@[simp] theorem State.setUnit_leakStages (s : State) (n : Nest) (u : CaptureUnit) : (s.setUnit n u).leakStages = s.leakStages := rfl
@[simp] theorem State.setUnit_arbiter (s : State) (n : Nest) (u : CaptureUnit) : (s.setUnit n u).arbiter = s.arbiter := rfl
@[simp] theorem State.setUnit_slots (s : State) (n : Nest) (u : CaptureUnit) : (s.setUnit n u).slots = s.slots := rfl
@[simp] theorem State.setUnit_units (s : State) (n : Nest) (u : CaptureUnit) : (s.setUnit n u).units = s.units.set n u := rfl
@[simp] theorem State.setUnit_vibration (s : State) (n : Nest) (u : CaptureUnit) : (s.setUnit n u).vibration = s.vibration := rfl
@[simp] theorem State.setUnit_engine (s : State) (n : Nest) (u : CaptureUnit) : (s.setUnit n u).engine = s.engine := rfl
@[simp] theorem State.setUnit_reports (s : State) (n : Nest) (u : CaptureUnit) : (s.setUnit n u).reports = s.reports := rfl
@[simp] theorem State.setUnit_interlock (s : State) (n : Nest) (u : CaptureUnit) : (s.setUnit n u).interlock = s.interlock := rfl
@[simp] theorem State.setUnit_bench (s : State) (n : Nest) (u : CaptureUnit) : (s.setUnit n u).bench = s.bench := rfl
@[simp] theorem State.setUnit_links (s : State) (n : Nest) (u : CaptureUnit) : (s.setUnit n u).links = s.links := rfl
@[simp] theorem State.setUnit_fastLinks (s : State) (n : Nest) (u : CaptureUnit) : (s.setUnit n u).fastLinks = s.fastLinks := rfl
@[simp] theorem State.setUnit_freeCount (s : State) (n : Nest) (u : CaptureUnit) : (s.setUnit n u).freeCount = s.freeCount := rfl
@[simp] theorem State.setUnit_pending (s : State) (n : Nest) (u : CaptureUnit) : (s.setUnit n u).pending = s.pending := rfl

@[simp] theorem State.setVibration_dossiers (s : State) (n : Nest) (x : Int) : (s.setVibration n x).dossiers = s.dossiers := rfl
@[simp] theorem State.setVibration_plans (s : State) (n : Nest) (x : Int) : (s.setVibration n x).plans = s.plans := rfl
@[simp] theorem State.setVibration_monitors (s : State) (n : Nest) (x : Int) : (s.setVibration n x).monitors = s.monitors := rfl
@[simp] theorem State.setVibration_channels (s : State) (n : Nest) (x : Int) : (s.setVibration n x).channels = s.channels := rfl
@[simp] theorem State.setVibration_circuits (s : State) (n : Nest) (x : Int) : (s.setVibration n x).circuits = s.circuits := rfl
@[simp] theorem State.setVibration_leakStages (s : State) (n : Nest) (x : Int) : (s.setVibration n x).leakStages = s.leakStages := rfl
@[simp] theorem State.setVibration_arbiter (s : State) (n : Nest) (x : Int) : (s.setVibration n x).arbiter = s.arbiter := rfl
@[simp] theorem State.setVibration_slots (s : State) (n : Nest) (x : Int) : (s.setVibration n x).slots = s.slots := rfl
@[simp] theorem State.setVibration_units (s : State) (n : Nest) (x : Int) : (s.setVibration n x).units = s.units := rfl
@[simp] theorem State.setVibration_vibration (s : State) (n : Nest) (x : Int) : (s.setVibration n x).vibration = s.vibration.set n x := rfl
@[simp] theorem State.setVibration_engine (s : State) (n : Nest) (x : Int) : (s.setVibration n x).engine = s.engine := rfl
@[simp] theorem State.setVibration_reports (s : State) (n : Nest) (x : Int) : (s.setVibration n x).reports = s.reports := rfl
@[simp] theorem State.setVibration_interlock (s : State) (n : Nest) (x : Int) : (s.setVibration n x).interlock = s.interlock := rfl
@[simp] theorem State.setVibration_bench (s : State) (n : Nest) (x : Int) : (s.setVibration n x).bench = s.bench := rfl
@[simp] theorem State.setVibration_links (s : State) (n : Nest) (x : Int) : (s.setVibration n x).links = s.links := rfl
@[simp] theorem State.setVibration_fastLinks (s : State) (n : Nest) (x : Int) : (s.setVibration n x).fastLinks = s.fastLinks := rfl
@[simp] theorem State.setVibration_freeCount (s : State) (n : Nest) (x : Int) : (s.setVibration n x).freeCount = s.freeCount := rfl
@[simp] theorem State.setVibration_pending (s : State) (n : Nest) (x : Int) : (s.setVibration n x).pending = s.pending := rfl

@[simp] theorem State.modEngine_dossiers (s : State) (f : Engine → Engine) : (s.modEngine f).dossiers = s.dossiers := rfl
@[simp] theorem State.modEngine_plans (s : State) (f : Engine → Engine) : (s.modEngine f).plans = s.plans := rfl
@[simp] theorem State.modEngine_monitors (s : State) (f : Engine → Engine) : (s.modEngine f).monitors = s.monitors := rfl
@[simp] theorem State.modEngine_channels (s : State) (f : Engine → Engine) : (s.modEngine f).channels = s.channels := rfl
@[simp] theorem State.modEngine_circuits (s : State) (f : Engine → Engine) : (s.modEngine f).circuits = s.circuits := rfl
@[simp] theorem State.modEngine_leakStages (s : State) (f : Engine → Engine) : (s.modEngine f).leakStages = s.leakStages := rfl
@[simp] theorem State.modEngine_arbiter (s : State) (f : Engine → Engine) : (s.modEngine f).arbiter = s.arbiter := rfl
@[simp] theorem State.modEngine_slots (s : State) (f : Engine → Engine) : (s.modEngine f).slots = s.slots := rfl
@[simp] theorem State.modEngine_units (s : State) (f : Engine → Engine) : (s.modEngine f).units = s.units := rfl
@[simp] theorem State.modEngine_vibration (s : State) (f : Engine → Engine) : (s.modEngine f).vibration = s.vibration := rfl
@[simp] theorem State.modEngine_engine (s : State) (f : Engine → Engine) : (s.modEngine f).engine = f s.engine := rfl
@[simp] theorem State.modEngine_reports (s : State) (f : Engine → Engine) : (s.modEngine f).reports = s.reports := rfl
@[simp] theorem State.modEngine_interlock (s : State) (f : Engine → Engine) : (s.modEngine f).interlock = s.interlock := rfl
@[simp] theorem State.modEngine_bench (s : State) (f : Engine → Engine) : (s.modEngine f).bench = s.bench := rfl
@[simp] theorem State.modEngine_links (s : State) (f : Engine → Engine) : (s.modEngine f).links = s.links := rfl
@[simp] theorem State.modEngine_fastLinks (s : State) (f : Engine → Engine) : (s.modEngine f).fastLinks = s.fastLinks := rfl
@[simp] theorem State.modEngine_freeCount (s : State) (f : Engine → Engine) : (s.modEngine f).freeCount = s.freeCount := rfl
@[simp] theorem State.modEngine_pending (s : State) (f : Engine → Engine) : (s.modEngine f).pending = s.pending := rfl

@[simp] theorem State.modReports_dossiers (s : State) (f : ReportQueue → ReportQueue) : (s.modReports f).dossiers = s.dossiers := rfl
@[simp] theorem State.modReports_plans (s : State) (f : ReportQueue → ReportQueue) : (s.modReports f).plans = s.plans := rfl
@[simp] theorem State.modReports_monitors (s : State) (f : ReportQueue → ReportQueue) : (s.modReports f).monitors = s.monitors := rfl
@[simp] theorem State.modReports_channels (s : State) (f : ReportQueue → ReportQueue) : (s.modReports f).channels = s.channels := rfl
@[simp] theorem State.modReports_circuits (s : State) (f : ReportQueue → ReportQueue) : (s.modReports f).circuits = s.circuits := rfl
@[simp] theorem State.modReports_leakStages (s : State) (f : ReportQueue → ReportQueue) : (s.modReports f).leakStages = s.leakStages := rfl
@[simp] theorem State.modReports_arbiter (s : State) (f : ReportQueue → ReportQueue) : (s.modReports f).arbiter = s.arbiter := rfl
@[simp] theorem State.modReports_slots (s : State) (f : ReportQueue → ReportQueue) : (s.modReports f).slots = s.slots := rfl
@[simp] theorem State.modReports_units (s : State) (f : ReportQueue → ReportQueue) : (s.modReports f).units = s.units := rfl
@[simp] theorem State.modReports_vibration (s : State) (f : ReportQueue → ReportQueue) : (s.modReports f).vibration = s.vibration := rfl
@[simp] theorem State.modReports_engine (s : State) (f : ReportQueue → ReportQueue) : (s.modReports f).engine = s.engine := rfl
@[simp] theorem State.modReports_reports (s : State) (f : ReportQueue → ReportQueue) : (s.modReports f).reports = f s.reports := rfl
@[simp] theorem State.modReports_interlock (s : State) (f : ReportQueue → ReportQueue) : (s.modReports f).interlock = s.interlock := rfl
@[simp] theorem State.modReports_bench (s : State) (f : ReportQueue → ReportQueue) : (s.modReports f).bench = s.bench := rfl
@[simp] theorem State.modReports_links (s : State) (f : ReportQueue → ReportQueue) : (s.modReports f).links = s.links := rfl
@[simp] theorem State.modReports_fastLinks (s : State) (f : ReportQueue → ReportQueue) : (s.modReports f).fastLinks = s.fastLinks := rfl
@[simp] theorem State.modReports_freeCount (s : State) (f : ReportQueue → ReportQueue) : (s.modReports f).freeCount = s.freeCount := rfl
@[simp] theorem State.modReports_pending (s : State) (f : ReportQueue → ReportQueue) : (s.modReports f).pending = s.pending := rfl

@[simp] theorem State.modInterlock_dossiers (s : State) (f : Interlock → Interlock) : (s.modInterlock f).dossiers = s.dossiers := rfl
@[simp] theorem State.modInterlock_plans (s : State) (f : Interlock → Interlock) : (s.modInterlock f).plans = s.plans := rfl
@[simp] theorem State.modInterlock_monitors (s : State) (f : Interlock → Interlock) : (s.modInterlock f).monitors = s.monitors := rfl
@[simp] theorem State.modInterlock_channels (s : State) (f : Interlock → Interlock) : (s.modInterlock f).channels = s.channels := rfl
@[simp] theorem State.modInterlock_circuits (s : State) (f : Interlock → Interlock) : (s.modInterlock f).circuits = s.circuits := rfl
@[simp] theorem State.modInterlock_leakStages (s : State) (f : Interlock → Interlock) : (s.modInterlock f).leakStages = s.leakStages := rfl
@[simp] theorem State.modInterlock_arbiter (s : State) (f : Interlock → Interlock) : (s.modInterlock f).arbiter = s.arbiter := rfl
@[simp] theorem State.modInterlock_slots (s : State) (f : Interlock → Interlock) : (s.modInterlock f).slots = s.slots := rfl
@[simp] theorem State.modInterlock_units (s : State) (f : Interlock → Interlock) : (s.modInterlock f).units = s.units := rfl
@[simp] theorem State.modInterlock_vibration (s : State) (f : Interlock → Interlock) : (s.modInterlock f).vibration = s.vibration := rfl
@[simp] theorem State.modInterlock_engine (s : State) (f : Interlock → Interlock) : (s.modInterlock f).engine = s.engine := rfl
@[simp] theorem State.modInterlock_reports (s : State) (f : Interlock → Interlock) : (s.modInterlock f).reports = s.reports := rfl
@[simp] theorem State.modInterlock_interlock (s : State) (f : Interlock → Interlock) : (s.modInterlock f).interlock = f s.interlock := rfl
@[simp] theorem State.modInterlock_bench (s : State) (f : Interlock → Interlock) : (s.modInterlock f).bench = s.bench := rfl
@[simp] theorem State.modInterlock_links (s : State) (f : Interlock → Interlock) : (s.modInterlock f).links = s.links := rfl
@[simp] theorem State.modInterlock_fastLinks (s : State) (f : Interlock → Interlock) : (s.modInterlock f).fastLinks = s.fastLinks := rfl
@[simp] theorem State.modInterlock_freeCount (s : State) (f : Interlock → Interlock) : (s.modInterlock f).freeCount = s.freeCount := rfl
@[simp] theorem State.modInterlock_pending (s : State) (f : Interlock → Interlock) : (s.modInterlock f).pending = s.pending := rfl

@[simp] theorem State.modBench_dossiers (s : State) (f : Bench → Bench) : (s.modBench f).dossiers = s.dossiers := rfl
@[simp] theorem State.modBench_plans (s : State) (f : Bench → Bench) : (s.modBench f).plans = s.plans := rfl
@[simp] theorem State.modBench_monitors (s : State) (f : Bench → Bench) : (s.modBench f).monitors = s.monitors := rfl
@[simp] theorem State.modBench_channels (s : State) (f : Bench → Bench) : (s.modBench f).channels = s.channels := rfl
@[simp] theorem State.modBench_circuits (s : State) (f : Bench → Bench) : (s.modBench f).circuits = s.circuits := rfl
@[simp] theorem State.modBench_leakStages (s : State) (f : Bench → Bench) : (s.modBench f).leakStages = s.leakStages := rfl
@[simp] theorem State.modBench_arbiter (s : State) (f : Bench → Bench) : (s.modBench f).arbiter = s.arbiter := rfl
@[simp] theorem State.modBench_slots (s : State) (f : Bench → Bench) : (s.modBench f).slots = s.slots := rfl
@[simp] theorem State.modBench_units (s : State) (f : Bench → Bench) : (s.modBench f).units = s.units := rfl
@[simp] theorem State.modBench_vibration (s : State) (f : Bench → Bench) : (s.modBench f).vibration = s.vibration := rfl
@[simp] theorem State.modBench_engine (s : State) (f : Bench → Bench) : (s.modBench f).engine = s.engine := rfl
@[simp] theorem State.modBench_reports (s : State) (f : Bench → Bench) : (s.modBench f).reports = s.reports := rfl
@[simp] theorem State.modBench_interlock (s : State) (f : Bench → Bench) : (s.modBench f).interlock = s.interlock := rfl
@[simp] theorem State.modBench_bench (s : State) (f : Bench → Bench) : (s.modBench f).bench = f s.bench := rfl
@[simp] theorem State.modBench_links (s : State) (f : Bench → Bench) : (s.modBench f).links = s.links := rfl
@[simp] theorem State.modBench_fastLinks (s : State) (f : Bench → Bench) : (s.modBench f).fastLinks = s.fastLinks := rfl
@[simp] theorem State.modBench_freeCount (s : State) (f : Bench → Bench) : (s.modBench f).freeCount = s.freeCount := rfl
@[simp] theorem State.modBench_pending (s : State) (f : Bench → Bench) : (s.modBench f).pending = s.pending := rfl

@[simp] theorem State.modLink_dossiers (s : State) (l : Link) (f : LinkState → LinkState) : (s.modLink l f).dossiers = s.dossiers := rfl
@[simp] theorem State.modLink_plans (s : State) (l : Link) (f : LinkState → LinkState) : (s.modLink l f).plans = s.plans := rfl
@[simp] theorem State.modLink_monitors (s : State) (l : Link) (f : LinkState → LinkState) : (s.modLink l f).monitors = s.monitors := rfl
@[simp] theorem State.modLink_channels (s : State) (l : Link) (f : LinkState → LinkState) : (s.modLink l f).channels = s.channels := rfl
@[simp] theorem State.modLink_circuits (s : State) (l : Link) (f : LinkState → LinkState) : (s.modLink l f).circuits = s.circuits := rfl
@[simp] theorem State.modLink_leakStages (s : State) (l : Link) (f : LinkState → LinkState) : (s.modLink l f).leakStages = s.leakStages := rfl
@[simp] theorem State.modLink_arbiter (s : State) (l : Link) (f : LinkState → LinkState) : (s.modLink l f).arbiter = s.arbiter := rfl
@[simp] theorem State.modLink_slots (s : State) (l : Link) (f : LinkState → LinkState) : (s.modLink l f).slots = s.slots := rfl
@[simp] theorem State.modLink_units (s : State) (l : Link) (f : LinkState → LinkState) : (s.modLink l f).units = s.units := rfl
@[simp] theorem State.modLink_vibration (s : State) (l : Link) (f : LinkState → LinkState) : (s.modLink l f).vibration = s.vibration := rfl
@[simp] theorem State.modLink_engine (s : State) (l : Link) (f : LinkState → LinkState) : (s.modLink l f).engine = s.engine := rfl
@[simp] theorem State.modLink_reports (s : State) (l : Link) (f : LinkState → LinkState) : (s.modLink l f).reports = s.reports := rfl
@[simp] theorem State.modLink_interlock (s : State) (l : Link) (f : LinkState → LinkState) : (s.modLink l f).interlock = s.interlock := rfl
@[simp] theorem State.modLink_bench (s : State) (l : Link) (f : LinkState → LinkState) : (s.modLink l f).bench = s.bench := rfl
@[simp] theorem State.modLink_links (s : State) (l : Link) (f : LinkState → LinkState) : (s.modLink l f).links = s.links.set l (f (s.links.get l)) := rfl
@[simp] theorem State.modLink_fastLinks (s : State) (l : Link) (f : LinkState → LinkState) : (s.modLink l f).fastLinks = s.fastLinks := rfl
@[simp] theorem State.modLink_freeCount (s : State) (l : Link) (f : LinkState → LinkState) : (s.modLink l f).freeCount = s.freeCount := rfl
@[simp] theorem State.modLink_pending (s : State) (l : Link) (f : LinkState → LinkState) : (s.modLink l f).pending = s.pending := rfl

/-! ### The accessors under each update -/

@[simp] theorem State.dossier_modDossier_same (s : State) (n : Nest) (f : Dossier → Dossier) : (s.modDossier n f).dossier n = f (s.dossier n) := by
  simp [State.dossier]

theorem State.dossier_modDossier_ne (s : State) {n m : Nest} (f : Dossier → Dossier) (h : m ≠ n) : (s.modDossier n f).dossier m = s.dossier m :=
  PerNest.mod_get_ne _ f h

@[simp] theorem State.monitor_modMonitor_same (s : State) (n : Nest) (f : Monitor → Monitor) : (s.modMonitor n f).monitor n = f (s.monitor n) := by
  simp [State.monitor]

theorem State.monitor_modMonitor_ne (s : State) {n m : Nest} (f : Monitor → Monitor) (h : m ≠ n) : (s.modMonitor n f).monitor m = s.monitor m :=
  PerNest.mod_get_ne _ f h

@[simp] theorem State.channel_modChannel_same (s : State) (n : Nest) (f : Channel → Channel) : (s.modChannel n f).channel n = f (s.channel n) := by
  simp [State.channel]

theorem State.channel_modChannel_ne (s : State) {n m : Nest} (f : Channel → Channel) (h : m ≠ n) : (s.modChannel n f).channel m = s.channel m :=
  PerNest.mod_get_ne _ f h

@[simp] theorem State.captureUnit_setUnit_same (s : State) (n : Nest) (u : CaptureUnit) : (s.setUnit n u).captureUnit n = u := by
  simp [State.captureUnit]

@[simp] theorem State.leakStage_setLeakStage_same (s : State) (n : Nest) (l : Option LeakStage) :
    (s.setLeakStage n l).leakStage n = l := by
  simp [State.leakStage]

@[simp] theorem State.circuit_modCircuit_same (s : State) (n : Nest) (c : Chamber) (f : Circuit → Circuit) :
    (s.modCircuit n c f).circuit n c = f (s.circuit n c) := by
  simp [State.circuit]

theorem State.circuit_modCircuit_ne (s : State) {n m : Nest} {c d : Chamber} (f : Circuit → Circuit)
    (h : m ≠ n ∨ d ≠ c) : (s.modCircuit n c f).circuit m d = s.circuit m d := by
  cases n <;> cases m <;> cases c <;> cases d <;> first | rfl | simp at h

@[simp] theorem State.link_modLink_same (s : State) (l : Link) (f : LinkState → LinkState) :
    (s.modLink l f).link l = f (s.link l) := by
  simp [State.link]

theorem State.link_modLink_ne (s : State) {l k : Link} (f : LinkState → LinkState) (h : k ≠ l) :
    (s.modLink l f).link k = s.link k :=
  PerLink.get_set_ne _ _ h

@[simp] theorem State.slot_modSlot_same (s : State) (i : Fin 4) (f : Slot → Slot) :
    (s.modSlot i f).slot i = f (s.slot i) := by
  simp [State.slot]

theorem State.slot_modSlot_ne (s : State) {i j : Fin 4} (f : Slot → Slot) (h : j ≠ i) :
    (s.modSlot i f).slot j = s.slot j := by
  simp only [State.slot, State.modSlot_slots, Fin.getElem_fin]
  exact Vector.getElem_set_ne _ _ (fun e => h (Fin.ext e.symm))

@[simp] theorem State.planEntry_modPlan_same (s : State) (v : Fin 32) (f : PlanEntry → PlanEntry) :
    (s.modPlan v f).planEntry v = f (s.planEntry v) := by
  simp [State.planEntry]

theorem State.planEntry_modPlan_ne (s : State) {v w : Fin 32} (f : PlanEntry → PlanEntry) (h : w ≠ v) :
    (s.modPlan v f).planEntry w = s.planEntry w := by
  simp only [State.planEntry, State.modPlan_plans, Fin.getElem_fin]
  exact Vector.getElem_set_ne _ _ (fun e => h (Fin.ext e.symm))

@[simp] theorem State.planEntry_modDossier (s : State) (n : Nest) (f : Dossier → Dossier) (w : Fin 32) : (s.modDossier n f).planEntry w = s.planEntry w := rfl
@[simp] theorem State.monitor_modDossier (s : State) (n : Nest) (f : Dossier → Dossier) (m : Nest) : (s.modDossier n f).monitor m = s.monitor m := rfl
@[simp] theorem State.classOf_modDossier (s : State) (n : Nest) (f : Dossier → Dossier) (m : Nest) : (s.modDossier n f).classOf m = s.classOf m := rfl
@[simp] theorem State.channel_modDossier (s : State) (n : Nest) (f : Dossier → Dossier) (m : Nest) : (s.modDossier n f).channel m = s.channel m := rfl
@[simp] theorem State.circuit_modDossier (s : State) (n : Nest) (f : Dossier → Dossier) (m : Nest) (d : Chamber) : (s.modDossier n f).circuit m d = s.circuit m d := rfl
@[simp] theorem State.leakStage_modDossier (s : State) (n : Nest) (f : Dossier → Dossier) (m : Nest) : (s.modDossier n f).leakStage m = s.leakStage m := rfl
@[simp] theorem State.slot_modDossier (s : State) (n : Nest) (f : Dossier → Dossier) (j : Fin 4) : (s.modDossier n f).slot j = s.slot j := rfl
@[simp] theorem State.captureUnit_modDossier (s : State) (n : Nest) (f : Dossier → Dossier) (m : Nest) : (s.modDossier n f).captureUnit m = s.captureUnit m := rfl
@[simp] theorem State.faultList_modDossier (s : State) (n : Nest) (f : Dossier → Dossier) (m : Nest) : (s.modDossier n f).faultList m = s.faultList m := rfl
@[simp] theorem State.link_modDossier (s : State) (n : Nest) (f : Dossier → Dossier) (k : Link) : (s.modDossier n f).link k = s.link k := rfl

@[simp] theorem State.dossier_modPlan (s : State) (v : Fin 32) (f : PlanEntry → PlanEntry) (m : Nest) : (s.modPlan v f).dossier m = s.dossier m := rfl
@[simp] theorem State.monitor_modPlan (s : State) (v : Fin 32) (f : PlanEntry → PlanEntry) (m : Nest) : (s.modPlan v f).monitor m = s.monitor m := rfl
@[simp] theorem State.classOf_modPlan (s : State) (v : Fin 32) (f : PlanEntry → PlanEntry) (m : Nest) : (s.modPlan v f).classOf m = s.classOf m := rfl
@[simp] theorem State.channel_modPlan (s : State) (v : Fin 32) (f : PlanEntry → PlanEntry) (m : Nest) : (s.modPlan v f).channel m = s.channel m := rfl
@[simp] theorem State.circuit_modPlan (s : State) (v : Fin 32) (f : PlanEntry → PlanEntry) (m : Nest) (d : Chamber) : (s.modPlan v f).circuit m d = s.circuit m d := rfl
@[simp] theorem State.leakStage_modPlan (s : State) (v : Fin 32) (f : PlanEntry → PlanEntry) (m : Nest) : (s.modPlan v f).leakStage m = s.leakStage m := rfl
@[simp] theorem State.slot_modPlan (s : State) (v : Fin 32) (f : PlanEntry → PlanEntry) (j : Fin 4) : (s.modPlan v f).slot j = s.slot j := rfl
@[simp] theorem State.captureUnit_modPlan (s : State) (v : Fin 32) (f : PlanEntry → PlanEntry) (m : Nest) : (s.modPlan v f).captureUnit m = s.captureUnit m := rfl
@[simp] theorem State.faultList_modPlan (s : State) (v : Fin 32) (f : PlanEntry → PlanEntry) (m : Nest) : (s.modPlan v f).faultList m = s.faultList m := rfl
@[simp] theorem State.link_modPlan (s : State) (v : Fin 32) (f : PlanEntry → PlanEntry) (k : Link) : (s.modPlan v f).link k = s.link k := rfl

@[simp] theorem State.dossier_modMonitor (s : State) (n : Nest) (f : Monitor → Monitor) (m : Nest) : (s.modMonitor n f).dossier m = s.dossier m := rfl
@[simp] theorem State.planEntry_modMonitor (s : State) (n : Nest) (f : Monitor → Monitor) (w : Fin 32) : (s.modMonitor n f).planEntry w = s.planEntry w := rfl
@[simp] theorem State.channel_modMonitor (s : State) (n : Nest) (f : Monitor → Monitor) (m : Nest) : (s.modMonitor n f).channel m = s.channel m := rfl
@[simp] theorem State.circuit_modMonitor (s : State) (n : Nest) (f : Monitor → Monitor) (m : Nest) (d : Chamber) : (s.modMonitor n f).circuit m d = s.circuit m d := rfl
@[simp] theorem State.leakStage_modMonitor (s : State) (n : Nest) (f : Monitor → Monitor) (m : Nest) : (s.modMonitor n f).leakStage m = s.leakStage m := rfl
@[simp] theorem State.slot_modMonitor (s : State) (n : Nest) (f : Monitor → Monitor) (j : Fin 4) : (s.modMonitor n f).slot j = s.slot j := rfl
@[simp] theorem State.captureUnit_modMonitor (s : State) (n : Nest) (f : Monitor → Monitor) (m : Nest) : (s.modMonitor n f).captureUnit m = s.captureUnit m := rfl
@[simp] theorem State.faultList_modMonitor (s : State) (n : Nest) (f : Monitor → Monitor) (m : Nest) : (s.modMonitor n f).faultList m = s.faultList m := rfl
@[simp] theorem State.link_modMonitor (s : State) (n : Nest) (f : Monitor → Monitor) (k : Link) : (s.modMonitor n f).link k = s.link k := rfl
@[simp] theorem State.planOf_modMonitor (s : State) (n : Nest) (f : Monitor → Monitor) (m : Nest) : (s.modMonitor n f).planOf m = s.planOf m := rfl

@[simp] theorem State.dossier_modChannel (s : State) (n : Nest) (f : Channel → Channel) (m : Nest) : (s.modChannel n f).dossier m = s.dossier m := rfl
@[simp] theorem State.planEntry_modChannel (s : State) (n : Nest) (f : Channel → Channel) (w : Fin 32) : (s.modChannel n f).planEntry w = s.planEntry w := rfl
@[simp] theorem State.monitor_modChannel (s : State) (n : Nest) (f : Channel → Channel) (m : Nest) : (s.modChannel n f).monitor m = s.monitor m := rfl
@[simp] theorem State.classOf_modChannel (s : State) (n : Nest) (f : Channel → Channel) (m : Nest) : (s.modChannel n f).classOf m = s.classOf m := rfl
@[simp] theorem State.circuit_modChannel (s : State) (n : Nest) (f : Channel → Channel) (m : Nest) (d : Chamber) : (s.modChannel n f).circuit m d = s.circuit m d := rfl
@[simp] theorem State.leakStage_modChannel (s : State) (n : Nest) (f : Channel → Channel) (m : Nest) : (s.modChannel n f).leakStage m = s.leakStage m := rfl
@[simp] theorem State.slot_modChannel (s : State) (n : Nest) (f : Channel → Channel) (j : Fin 4) : (s.modChannel n f).slot j = s.slot j := rfl
@[simp] theorem State.captureUnit_modChannel (s : State) (n : Nest) (f : Channel → Channel) (m : Nest) : (s.modChannel n f).captureUnit m = s.captureUnit m := rfl
@[simp] theorem State.faultList_modChannel (s : State) (n : Nest) (f : Channel → Channel) (m : Nest) : (s.modChannel n f).faultList m = s.faultList m := rfl
@[simp] theorem State.link_modChannel (s : State) (n : Nest) (f : Channel → Channel) (k : Link) : (s.modChannel n f).link k = s.link k := rfl
@[simp] theorem State.planOf_modChannel (s : State) (n : Nest) (f : Channel → Channel) (m : Nest) : (s.modChannel n f).planOf m = s.planOf m := rfl

@[simp] theorem State.dossier_modCircuit (s : State) (n : Nest) (c : Chamber) (f : Circuit → Circuit) (m : Nest) : (s.modCircuit n c f).dossier m = s.dossier m := rfl
@[simp] theorem State.planEntry_modCircuit (s : State) (n : Nest) (c : Chamber) (f : Circuit → Circuit) (w : Fin 32) : (s.modCircuit n c f).planEntry w = s.planEntry w := rfl
@[simp] theorem State.monitor_modCircuit (s : State) (n : Nest) (c : Chamber) (f : Circuit → Circuit) (m : Nest) : (s.modCircuit n c f).monitor m = s.monitor m := rfl
@[simp] theorem State.classOf_modCircuit (s : State) (n : Nest) (c : Chamber) (f : Circuit → Circuit) (m : Nest) : (s.modCircuit n c f).classOf m = s.classOf m := rfl
@[simp] theorem State.channel_modCircuit (s : State) (n : Nest) (c : Chamber) (f : Circuit → Circuit) (m : Nest) : (s.modCircuit n c f).channel m = s.channel m := rfl
@[simp] theorem State.leakStage_modCircuit (s : State) (n : Nest) (c : Chamber) (f : Circuit → Circuit) (m : Nest) : (s.modCircuit n c f).leakStage m = s.leakStage m := rfl
@[simp] theorem State.slot_modCircuit (s : State) (n : Nest) (c : Chamber) (f : Circuit → Circuit) (j : Fin 4) : (s.modCircuit n c f).slot j = s.slot j := rfl
@[simp] theorem State.captureUnit_modCircuit (s : State) (n : Nest) (c : Chamber) (f : Circuit → Circuit) (m : Nest) : (s.modCircuit n c f).captureUnit m = s.captureUnit m := rfl
@[simp] theorem State.faultList_modCircuit (s : State) (n : Nest) (c : Chamber) (f : Circuit → Circuit) (m : Nest) : (s.modCircuit n c f).faultList m = s.faultList m := rfl
@[simp] theorem State.link_modCircuit (s : State) (n : Nest) (c : Chamber) (f : Circuit → Circuit) (k : Link) : (s.modCircuit n c f).link k = s.link k := rfl
@[simp] theorem State.planOf_modCircuit (s : State) (n : Nest) (c : Chamber) (f : Circuit → Circuit) (m : Nest) : (s.modCircuit n c f).planOf m = s.planOf m := rfl

@[simp] theorem State.dossier_setLeakStage (s : State) (n : Nest) (l : Option LeakStage) (m : Nest) : (s.setLeakStage n l).dossier m = s.dossier m := rfl
@[simp] theorem State.planEntry_setLeakStage (s : State) (n : Nest) (l : Option LeakStage) (w : Fin 32) : (s.setLeakStage n l).planEntry w = s.planEntry w := rfl
@[simp] theorem State.monitor_setLeakStage (s : State) (n : Nest) (l : Option LeakStage) (m : Nest) : (s.setLeakStage n l).monitor m = s.monitor m := rfl
@[simp] theorem State.classOf_setLeakStage (s : State) (n : Nest) (l : Option LeakStage) (m : Nest) : (s.setLeakStage n l).classOf m = s.classOf m := rfl
@[simp] theorem State.channel_setLeakStage (s : State) (n : Nest) (l : Option LeakStage) (m : Nest) : (s.setLeakStage n l).channel m = s.channel m := rfl
@[simp] theorem State.circuit_setLeakStage (s : State) (n : Nest) (l : Option LeakStage) (m : Nest) (d : Chamber) : (s.setLeakStage n l).circuit m d = s.circuit m d := rfl
@[simp] theorem State.slot_setLeakStage (s : State) (n : Nest) (l : Option LeakStage) (j : Fin 4) : (s.setLeakStage n l).slot j = s.slot j := rfl
@[simp] theorem State.captureUnit_setLeakStage (s : State) (n : Nest) (l : Option LeakStage) (m : Nest) : (s.setLeakStage n l).captureUnit m = s.captureUnit m := rfl
@[simp] theorem State.faultList_setLeakStage (s : State) (n : Nest) (l : Option LeakStage) (m : Nest) : (s.setLeakStage n l).faultList m = s.faultList m := rfl
@[simp] theorem State.link_setLeakStage (s : State) (n : Nest) (l : Option LeakStage) (k : Link) : (s.setLeakStage n l).link k = s.link k := rfl
@[simp] theorem State.planOf_setLeakStage (s : State) (n : Nest) (l : Option LeakStage) (m : Nest) : (s.setLeakStage n l).planOf m = s.planOf m := rfl

@[simp] theorem State.dossier_modArbiter (s : State) (f : Arbiter → Arbiter) (m : Nest) : (s.modArbiter f).dossier m = s.dossier m := rfl
@[simp] theorem State.planEntry_modArbiter (s : State) (f : Arbiter → Arbiter) (w : Fin 32) : (s.modArbiter f).planEntry w = s.planEntry w := rfl
@[simp] theorem State.monitor_modArbiter (s : State) (f : Arbiter → Arbiter) (m : Nest) : (s.modArbiter f).monitor m = s.monitor m := rfl
@[simp] theorem State.classOf_modArbiter (s : State) (f : Arbiter → Arbiter) (m : Nest) : (s.modArbiter f).classOf m = s.classOf m := rfl
@[simp] theorem State.channel_modArbiter (s : State) (f : Arbiter → Arbiter) (m : Nest) : (s.modArbiter f).channel m = s.channel m := rfl
@[simp] theorem State.circuit_modArbiter (s : State) (f : Arbiter → Arbiter) (m : Nest) (d : Chamber) : (s.modArbiter f).circuit m d = s.circuit m d := rfl
@[simp] theorem State.leakStage_modArbiter (s : State) (f : Arbiter → Arbiter) (m : Nest) : (s.modArbiter f).leakStage m = s.leakStage m := rfl
@[simp] theorem State.slot_modArbiter (s : State) (f : Arbiter → Arbiter) (j : Fin 4) : (s.modArbiter f).slot j = s.slot j := rfl
@[simp] theorem State.captureUnit_modArbiter (s : State) (f : Arbiter → Arbiter) (m : Nest) : (s.modArbiter f).captureUnit m = s.captureUnit m := rfl
@[simp] theorem State.faultList_modArbiter (s : State) (f : Arbiter → Arbiter) (m : Nest) : (s.modArbiter f).faultList m = s.faultList m := rfl
@[simp] theorem State.link_modArbiter (s : State) (f : Arbiter → Arbiter) (k : Link) : (s.modArbiter f).link k = s.link k := rfl
@[simp] theorem State.planOf_modArbiter (s : State) (f : Arbiter → Arbiter) (m : Nest) : (s.modArbiter f).planOf m = s.planOf m := rfl

@[simp] theorem State.dossier_modSlot (s : State) (i : Fin 4) (f : Slot → Slot) (m : Nest) : (s.modSlot i f).dossier m = s.dossier m := rfl
@[simp] theorem State.planEntry_modSlot (s : State) (i : Fin 4) (f : Slot → Slot) (w : Fin 32) : (s.modSlot i f).planEntry w = s.planEntry w := rfl
@[simp] theorem State.monitor_modSlot (s : State) (i : Fin 4) (f : Slot → Slot) (m : Nest) : (s.modSlot i f).monitor m = s.monitor m := rfl
@[simp] theorem State.classOf_modSlot (s : State) (i : Fin 4) (f : Slot → Slot) (m : Nest) : (s.modSlot i f).classOf m = s.classOf m := rfl
@[simp] theorem State.channel_modSlot (s : State) (i : Fin 4) (f : Slot → Slot) (m : Nest) : (s.modSlot i f).channel m = s.channel m := rfl
@[simp] theorem State.circuit_modSlot (s : State) (i : Fin 4) (f : Slot → Slot) (m : Nest) (d : Chamber) : (s.modSlot i f).circuit m d = s.circuit m d := rfl
@[simp] theorem State.leakStage_modSlot (s : State) (i : Fin 4) (f : Slot → Slot) (m : Nest) : (s.modSlot i f).leakStage m = s.leakStage m := rfl
@[simp] theorem State.captureUnit_modSlot (s : State) (i : Fin 4) (f : Slot → Slot) (m : Nest) : (s.modSlot i f).captureUnit m = s.captureUnit m := rfl
@[simp] theorem State.faultList_modSlot (s : State) (i : Fin 4) (f : Slot → Slot) (m : Nest) : (s.modSlot i f).faultList m = s.faultList m := rfl
@[simp] theorem State.link_modSlot (s : State) (i : Fin 4) (f : Slot → Slot) (k : Link) : (s.modSlot i f).link k = s.link k := rfl
@[simp] theorem State.planOf_modSlot (s : State) (i : Fin 4) (f : Slot → Slot) (m : Nest) : (s.modSlot i f).planOf m = s.planOf m := rfl

@[simp] theorem State.dossier_setUnit (s : State) (n : Nest) (u : CaptureUnit) (m : Nest) : (s.setUnit n u).dossier m = s.dossier m := rfl
@[simp] theorem State.planEntry_setUnit (s : State) (n : Nest) (u : CaptureUnit) (w : Fin 32) : (s.setUnit n u).planEntry w = s.planEntry w := rfl
@[simp] theorem State.monitor_setUnit (s : State) (n : Nest) (u : CaptureUnit) (m : Nest) : (s.setUnit n u).monitor m = s.monitor m := rfl
@[simp] theorem State.classOf_setUnit (s : State) (n : Nest) (u : CaptureUnit) (m : Nest) : (s.setUnit n u).classOf m = s.classOf m := rfl
@[simp] theorem State.channel_setUnit (s : State) (n : Nest) (u : CaptureUnit) (m : Nest) : (s.setUnit n u).channel m = s.channel m := rfl
@[simp] theorem State.circuit_setUnit (s : State) (n : Nest) (u : CaptureUnit) (m : Nest) (d : Chamber) : (s.setUnit n u).circuit m d = s.circuit m d := rfl
@[simp] theorem State.leakStage_setUnit (s : State) (n : Nest) (u : CaptureUnit) (m : Nest) : (s.setUnit n u).leakStage m = s.leakStage m := rfl
@[simp] theorem State.slot_setUnit (s : State) (n : Nest) (u : CaptureUnit) (j : Fin 4) : (s.setUnit n u).slot j = s.slot j := rfl
@[simp] theorem State.faultList_setUnit (s : State) (n : Nest) (u : CaptureUnit) (m : Nest) : (s.setUnit n u).faultList m = s.faultList m := rfl
@[simp] theorem State.link_setUnit (s : State) (n : Nest) (u : CaptureUnit) (k : Link) : (s.setUnit n u).link k = s.link k := rfl
@[simp] theorem State.planOf_setUnit (s : State) (n : Nest) (u : CaptureUnit) (m : Nest) : (s.setUnit n u).planOf m = s.planOf m := rfl

@[simp] theorem State.dossier_setVibration (s : State) (n : Nest) (x : Int) (m : Nest) : (s.setVibration n x).dossier m = s.dossier m := rfl
@[simp] theorem State.planEntry_setVibration (s : State) (n : Nest) (x : Int) (w : Fin 32) : (s.setVibration n x).planEntry w = s.planEntry w := rfl
@[simp] theorem State.monitor_setVibration (s : State) (n : Nest) (x : Int) (m : Nest) : (s.setVibration n x).monitor m = s.monitor m := rfl
@[simp] theorem State.classOf_setVibration (s : State) (n : Nest) (x : Int) (m : Nest) : (s.setVibration n x).classOf m = s.classOf m := rfl
@[simp] theorem State.channel_setVibration (s : State) (n : Nest) (x : Int) (m : Nest) : (s.setVibration n x).channel m = s.channel m := rfl
@[simp] theorem State.circuit_setVibration (s : State) (n : Nest) (x : Int) (m : Nest) (d : Chamber) : (s.setVibration n x).circuit m d = s.circuit m d := rfl
@[simp] theorem State.leakStage_setVibration (s : State) (n : Nest) (x : Int) (m : Nest) : (s.setVibration n x).leakStage m = s.leakStage m := rfl
@[simp] theorem State.slot_setVibration (s : State) (n : Nest) (x : Int) (j : Fin 4) : (s.setVibration n x).slot j = s.slot j := rfl
@[simp] theorem State.captureUnit_setVibration (s : State) (n : Nest) (x : Int) (m : Nest) : (s.setVibration n x).captureUnit m = s.captureUnit m := rfl
@[simp] theorem State.faultList_setVibration (s : State) (n : Nest) (x : Int) (m : Nest) : (s.setVibration n x).faultList m = s.faultList m := rfl
@[simp] theorem State.link_setVibration (s : State) (n : Nest) (x : Int) (k : Link) : (s.setVibration n x).link k = s.link k := rfl
@[simp] theorem State.planOf_setVibration (s : State) (n : Nest) (x : Int) (m : Nest) : (s.setVibration n x).planOf m = s.planOf m := rfl

@[simp] theorem State.dossier_modEngine (s : State) (f : Engine → Engine) (m : Nest) : (s.modEngine f).dossier m = s.dossier m := rfl
@[simp] theorem State.planEntry_modEngine (s : State) (f : Engine → Engine) (w : Fin 32) : (s.modEngine f).planEntry w = s.planEntry w := rfl
@[simp] theorem State.monitor_modEngine (s : State) (f : Engine → Engine) (m : Nest) : (s.modEngine f).monitor m = s.monitor m := rfl
@[simp] theorem State.classOf_modEngine (s : State) (f : Engine → Engine) (m : Nest) : (s.modEngine f).classOf m = s.classOf m := rfl
@[simp] theorem State.channel_modEngine (s : State) (f : Engine → Engine) (m : Nest) : (s.modEngine f).channel m = s.channel m := rfl
@[simp] theorem State.circuit_modEngine (s : State) (f : Engine → Engine) (m : Nest) (d : Chamber) : (s.modEngine f).circuit m d = s.circuit m d := rfl
@[simp] theorem State.leakStage_modEngine (s : State) (f : Engine → Engine) (m : Nest) : (s.modEngine f).leakStage m = s.leakStage m := rfl
@[simp] theorem State.slot_modEngine (s : State) (f : Engine → Engine) (j : Fin 4) : (s.modEngine f).slot j = s.slot j := rfl
@[simp] theorem State.captureUnit_modEngine (s : State) (f : Engine → Engine) (m : Nest) : (s.modEngine f).captureUnit m = s.captureUnit m := rfl
@[simp] theorem State.faultList_modEngine (s : State) (f : Engine → Engine) (m : Nest) : (s.modEngine f).faultList m = s.faultList m := rfl
@[simp] theorem State.link_modEngine (s : State) (f : Engine → Engine) (k : Link) : (s.modEngine f).link k = s.link k := rfl
@[simp] theorem State.planOf_modEngine (s : State) (f : Engine → Engine) (m : Nest) : (s.modEngine f).planOf m = s.planOf m := rfl

@[simp] theorem State.dossier_modReports (s : State) (f : ReportQueue → ReportQueue) (m : Nest) : (s.modReports f).dossier m = s.dossier m := rfl
@[simp] theorem State.planEntry_modReports (s : State) (f : ReportQueue → ReportQueue) (w : Fin 32) : (s.modReports f).planEntry w = s.planEntry w := rfl
@[simp] theorem State.monitor_modReports (s : State) (f : ReportQueue → ReportQueue) (m : Nest) : (s.modReports f).monitor m = s.monitor m := rfl
@[simp] theorem State.classOf_modReports (s : State) (f : ReportQueue → ReportQueue) (m : Nest) : (s.modReports f).classOf m = s.classOf m := rfl
@[simp] theorem State.channel_modReports (s : State) (f : ReportQueue → ReportQueue) (m : Nest) : (s.modReports f).channel m = s.channel m := rfl
@[simp] theorem State.circuit_modReports (s : State) (f : ReportQueue → ReportQueue) (m : Nest) (d : Chamber) : (s.modReports f).circuit m d = s.circuit m d := rfl
@[simp] theorem State.leakStage_modReports (s : State) (f : ReportQueue → ReportQueue) (m : Nest) : (s.modReports f).leakStage m = s.leakStage m := rfl
@[simp] theorem State.slot_modReports (s : State) (f : ReportQueue → ReportQueue) (j : Fin 4) : (s.modReports f).slot j = s.slot j := rfl
@[simp] theorem State.captureUnit_modReports (s : State) (f : ReportQueue → ReportQueue) (m : Nest) : (s.modReports f).captureUnit m = s.captureUnit m := rfl
@[simp] theorem State.faultList_modReports (s : State) (f : ReportQueue → ReportQueue) (m : Nest) : (s.modReports f).faultList m = s.faultList m := rfl
@[simp] theorem State.link_modReports (s : State) (f : ReportQueue → ReportQueue) (k : Link) : (s.modReports f).link k = s.link k := rfl
@[simp] theorem State.planOf_modReports (s : State) (f : ReportQueue → ReportQueue) (m : Nest) : (s.modReports f).planOf m = s.planOf m := rfl

@[simp] theorem State.dossier_modInterlock (s : State) (f : Interlock → Interlock) (m : Nest) : (s.modInterlock f).dossier m = s.dossier m := rfl
@[simp] theorem State.planEntry_modInterlock (s : State) (f : Interlock → Interlock) (w : Fin 32) : (s.modInterlock f).planEntry w = s.planEntry w := rfl
@[simp] theorem State.monitor_modInterlock (s : State) (f : Interlock → Interlock) (m : Nest) : (s.modInterlock f).monitor m = s.monitor m := rfl
@[simp] theorem State.classOf_modInterlock (s : State) (f : Interlock → Interlock) (m : Nest) : (s.modInterlock f).classOf m = s.classOf m := rfl
@[simp] theorem State.channel_modInterlock (s : State) (f : Interlock → Interlock) (m : Nest) : (s.modInterlock f).channel m = s.channel m := rfl
@[simp] theorem State.circuit_modInterlock (s : State) (f : Interlock → Interlock) (m : Nest) (d : Chamber) : (s.modInterlock f).circuit m d = s.circuit m d := rfl
@[simp] theorem State.leakStage_modInterlock (s : State) (f : Interlock → Interlock) (m : Nest) : (s.modInterlock f).leakStage m = s.leakStage m := rfl
@[simp] theorem State.slot_modInterlock (s : State) (f : Interlock → Interlock) (j : Fin 4) : (s.modInterlock f).slot j = s.slot j := rfl
@[simp] theorem State.captureUnit_modInterlock (s : State) (f : Interlock → Interlock) (m : Nest) : (s.modInterlock f).captureUnit m = s.captureUnit m := rfl
@[simp] theorem State.link_modInterlock (s : State) (f : Interlock → Interlock) (k : Link) : (s.modInterlock f).link k = s.link k := rfl
@[simp] theorem State.planOf_modInterlock (s : State) (f : Interlock → Interlock) (m : Nest) : (s.modInterlock f).planOf m = s.planOf m := rfl

@[simp] theorem State.dossier_modBench (s : State) (f : Bench → Bench) (m : Nest) : (s.modBench f).dossier m = s.dossier m := rfl
@[simp] theorem State.planEntry_modBench (s : State) (f : Bench → Bench) (w : Fin 32) : (s.modBench f).planEntry w = s.planEntry w := rfl
@[simp] theorem State.monitor_modBench (s : State) (f : Bench → Bench) (m : Nest) : (s.modBench f).monitor m = s.monitor m := rfl
@[simp] theorem State.classOf_modBench (s : State) (f : Bench → Bench) (m : Nest) : (s.modBench f).classOf m = s.classOf m := rfl
@[simp] theorem State.channel_modBench (s : State) (f : Bench → Bench) (m : Nest) : (s.modBench f).channel m = s.channel m := rfl
@[simp] theorem State.circuit_modBench (s : State) (f : Bench → Bench) (m : Nest) (d : Chamber) : (s.modBench f).circuit m d = s.circuit m d := rfl
@[simp] theorem State.leakStage_modBench (s : State) (f : Bench → Bench) (m : Nest) : (s.modBench f).leakStage m = s.leakStage m := rfl
@[simp] theorem State.slot_modBench (s : State) (f : Bench → Bench) (j : Fin 4) : (s.modBench f).slot j = s.slot j := rfl
@[simp] theorem State.captureUnit_modBench (s : State) (f : Bench → Bench) (m : Nest) : (s.modBench f).captureUnit m = s.captureUnit m := rfl
@[simp] theorem State.faultList_modBench (s : State) (f : Bench → Bench) (m : Nest) : (s.modBench f).faultList m = s.faultList m := rfl
@[simp] theorem State.link_modBench (s : State) (f : Bench → Bench) (k : Link) : (s.modBench f).link k = s.link k := rfl
@[simp] theorem State.planOf_modBench (s : State) (f : Bench → Bench) (m : Nest) : (s.modBench f).planOf m = s.planOf m := rfl

@[simp] theorem State.dossier_modLink (s : State) (l : Link) (f : LinkState → LinkState) (m : Nest) : (s.modLink l f).dossier m = s.dossier m := rfl
@[simp] theorem State.planEntry_modLink (s : State) (l : Link) (f : LinkState → LinkState) (w : Fin 32) : (s.modLink l f).planEntry w = s.planEntry w := rfl
@[simp] theorem State.monitor_modLink (s : State) (l : Link) (f : LinkState → LinkState) (m : Nest) : (s.modLink l f).monitor m = s.monitor m := rfl
@[simp] theorem State.classOf_modLink (s : State) (l : Link) (f : LinkState → LinkState) (m : Nest) : (s.modLink l f).classOf m = s.classOf m := rfl
@[simp] theorem State.channel_modLink (s : State) (l : Link) (f : LinkState → LinkState) (m : Nest) : (s.modLink l f).channel m = s.channel m := rfl
@[simp] theorem State.circuit_modLink (s : State) (l : Link) (f : LinkState → LinkState) (m : Nest) (d : Chamber) : (s.modLink l f).circuit m d = s.circuit m d := rfl
@[simp] theorem State.leakStage_modLink (s : State) (l : Link) (f : LinkState → LinkState) (m : Nest) : (s.modLink l f).leakStage m = s.leakStage m := rfl
@[simp] theorem State.slot_modLink (s : State) (l : Link) (f : LinkState → LinkState) (j : Fin 4) : (s.modLink l f).slot j = s.slot j := rfl
@[simp] theorem State.captureUnit_modLink (s : State) (l : Link) (f : LinkState → LinkState) (m : Nest) : (s.modLink l f).captureUnit m = s.captureUnit m := rfl
@[simp] theorem State.faultList_modLink (s : State) (l : Link) (f : LinkState → LinkState) (m : Nest) : (s.modLink l f).faultList m = s.faultList m := rfl
@[simp] theorem State.planOf_modLink (s : State) (l : Link) (f : LinkState → LinkState) (m : Nest) : (s.modLink l f).planOf m = s.planOf m := rfl

end Sys2Proof.Machine
end

