-- ==== Sys2Proof/Laws/Ops.lean ====
section
/-! SUPPORT. What each shared operation can do, said once: arithmetic, results, attention causes, fault lists, the arbiter, the
filing of a dossier, the samples of a ZERO, and the rows that stand for whole commands and frames. -/

namespace Sys2Proof.Machine

/-! ### Arithmetic -/

theorem clamp_bounds {lo hi : Int} (h : lo ≤ hi) (x : Int) : lo ≤ clamp lo hi x ∧ clamp lo hi x ≤ hi := by
  simp only [clamp]; omega

theorem clamp_of_mem {lo hi x : Int} (h1 : lo ≤ x) (h2 : x ≤ hi) : clamp lo hi x = x := by
  simp only [clamp]; omega

theorem conditionTorque_bounds (offset raw : Int) :
    -4000 ≤ conditionTorque offset raw ∧ conditionTorque offset raw ≤ 4000 := clamp_bounds (by decide) _

theorem conditionPressure_bounds (offset raw : Int) :
    -1000 ≤ conditionPressure offset raw ∧ conditionPressure offset raw ≤ 200000 := clamp_bounds (by decide) _

/-- A move by at most `step` toward a goal ends at the goal or `step` nearer to it, and never passes it. -/
theorem moveToward_cases {goal step x : Int} (h : 0 ≤ step) :
    (moveToward goal step x = goal ∧ -step ≤ goal - x ∧ goal - x ≤ step) ∨
      (x < goal ∧ moveToward goal step x = x + step ∧ x + step < goal) ∨
      (goal < x ∧ moveToward goal step x = x - step ∧ goal < x - step) := by
  simp only [moveToward]; split <;> omega

theorem moveToward_bounds {goal step x lo hi : Int} (hs : 0 ≤ step) (hg : lo ≤ goal ∧ goal ≤ hi) (hx : lo ≤ x ∧ x ≤ hi) :
    lo ≤ moveToward goal step x ∧ moveToward goal step x ≤ hi := by
  rcases moveToward_cases (goal := goal) (x := x) hs with h | h | h <;> omega

/-- The limiter's output never exceeds 3000 rpm when the previous output did not (R89). -/
theorem limiter_bounds (cls : Nat) (x : Int) {p : Int} (hp : -3000 ≤ p ∧ p ≤ 3000) :
    -3000 ≤ limiter cls x p ∧ limiter cls x p ≤ 3000 := by
  have hm : -3000 ≤ moveToward 0 3 p ∧ moveToward 0 3 p ≤ 3000 :=
    moveToward_bounds (goal := 0) (step := 3) (by omega) (by omega) hp
  have h2 := clamp_bounds (lo := -2000) (hi := 2000) (by omega) x
  have h3 := clamp_bounds (lo := -3000) (hi := 3000) (by omega) x
  unfold limiter
  by_cases hc : cls = 6
  · simp only [hc, if_true]; split <;> omega
  · simp only [hc, if_false]; split <;> omega

/-- The greatest root found in `b` bits above a root `r` that is not too great. -/
theorem isqrtBits_spec (n b r : Nat) (h1 : r * r ≤ n) (h2 : n < (r + 2 ^ b) * (r + 2 ^ b)) :
    isqrtBits n b r * isqrtBits n b r ≤ n ∧ n < (isqrtBits n b r + 1) * (isqrtBits n b r + 1) := by
  induction b generalizing r with
  | zero => exact ⟨h1, h2⟩
  | succ b ih =>
    simp only [isqrtBits]
    split
    · refine ih _ ‹_› ?_
      rw [Nat.add_assoc, ← Nat.two_mul, ← Nat.pow_succ']
      exact h2
    · exact ih _ h1 (by omega)

/-- `isqrt n` is the integer square root of a number below 4²⁴ (00_scope.md). -/
theorem isqrt_spec {n : Nat} (h : n < 2 ^ 48) : isqrt n * isqrt n ≤ n ∧ n < (isqrt n + 1) * (isqrt n + 1) :=
  isqrtBits_spec n 24 0 (by simp) (by simpa using h)

/-! ### Results (R4, R97) -/

/-- A record is given the new result or keeps the one it holds. -/
theorem giveResult_cases (old : Option Given) (new : Given) :
    giveResult old new = some new ∨ ∃ g, old = some g ∧ giveResult old new = some g := by
  cases old with
  | none => exact .inl rfl
  | some g => simp only [giveResult]; split <;> simp

@[simp] theorem giveResult_none (new : Given) : giveResult none new = some new := rfl

/-- A FAIL stands. -/
theorem giveResult_of_fail {g : Given} (h : g.result = .fail) (new : Given) : giveResult (some g) new = some g := by
  simp [giveResult, h]

/-- A FAIL replaces every other result. -/
theorem giveResult_fail {g : Given} (h : g.result ≠ .fail) (c : Cause) :
    giveResult (some g) (failed c) = some (failed c) := by
  simp [giveResult, h, failed]

/-! ### Attention causes and fault lists (R175, R181) -/

@[simp] theorem isPending_raise (s : State) (k : AttentionCause) : (s.raise k).bench.isPending k = true := by
  have h : (s.bench.causes ||| k.bit) &&& k.bit = k.bit := by
    ext i hi
    simp only [BitVec.getElem_or, BitVec.getElem_and]
    cases s.bench.causes[i] <;> cases k.bit[i] <;> rfl
  have hb : k.bit ≠ 0 := by
    cases k with
    | nestFault n => cases n <;> decide
    | judged n => cases n <;> decide
    | classChanged n => cases n <;> decide
    | _ => decide
  change ((s.bench.causes ||| k.bit) &&& k.bit != 0) = true
  rw [h]
  simpa using hb

/-- A cause that is pending stays pending. -/
theorem isPending_raise_of (s : State) (j k : AttentionCause) (h : s.bench.isPending j = true) :
    (s.raise k).bench.isPending j = true := by
  simp only [Bench.isPending, bne_iff_ne, ne_eq] at h ⊢
  intro h0
  apply h
  have h1 : s.bench.causes &&& j.bit = ((s.bench.causes ||| k.bit) &&& j.bit) &&& s.bench.causes := by
    ext i hi
    simp only [BitVec.getElem_or, BitVec.getElem_and]
    cases s.bench.causes[i] <;> cases j.bit[i] <;> cases k.bit[i] <;> rfl
  change ((s.bench.causes ||| k.bit) &&& j.bit) = 0 at h0
  rw [h1, h0]
  simp

/-- What a report does to a fault list: a cause it holds changes nothing; a list of fewer than four takes the cause at its end; a
full list sets its more flag; only the last two make the nest's fault cause pending (R175). -/
theorem reportFault_cases (s : State) (n : Nest) (f : FaultCause) :
    (s.reportFault n f = s ∧ (f ∈ (s.faultList n).causes ∨ (4 ≤ (s.faultList n).causes.length ∧ (s.faultList n).more = true))) ∨
      (f ∉ (s.faultList n).causes ∧ (s.faultList n).causes.length < 4 ∧
        s.reportFault n f =
          (s.setFaultList n ⟨(s.faultList n).causes ++ [f], (s.faultList n).more⟩).raise (.nestFault n)) ∨
      (f ∉ (s.faultList n).causes ∧ 4 ≤ (s.faultList n).causes.length ∧ (s.faultList n).more = false ∧
        s.reportFault n f = (s.setFaultList n ⟨(s.faultList n).causes, true⟩).raise (.nestFault n)) := by
  simp only [State.reportFault]
  split
  · exact .inl ⟨rfl, .inl ‹_›⟩
  · split
    · exact .inr (.inl ⟨‹_›, ‹_›, rfl⟩)
    · split
      · exact .inl ⟨rfl, .inr ⟨by omega, ‹_›⟩⟩
      · exact .inr (.inr ⟨‹_›, by omega, by simp_all, rfl⟩)

/-! ### The arbiter (R103) and the filing of a dossier (R31, R154) -/

/-- The grant is given to the head of the list, or nothing changes. -/
theorem arbitrate_cases (s : State) :
    (∃ x rest, s.arbiter.holder = none ∧ s.arbiter.supplyLow = false ∧ s.arbiter.waiting = x :: rest ∧
        s.arbitrate =
          (s.modArbiter fun a => { a with holder := some x, waiting := rest }).modCircuit x.nest x.chamber fun k =>
            k.enter .filling) ∨
      ((s.arbiter.holder ≠ none ∨ s.arbiter.supplyLow = true ∨ s.arbiter.waiting = []) ∧ s.arbitrate = s) := by
  simp only [State.arbitrate]
  rcases h1 : s.arbiter.holder with _ | y <;> rcases h2 : s.arbiter.supplyLow with _ | _ <;>
    rcases h3 : s.arbiter.waiting with _ | ⟨x, rest⟩ <;> simp_all

/-- A filing appends the report while there is room, and else has the dossier wait. -/
theorem fileDossier_cases (s : State) (n : Nest) :
    (s.reports.reports.length < 16 ∧ s.fileDossier n = s.fileReport n) ∨
      (16 ≤ s.reports.reports.length ∧
        s.fileDossier n =
          ((s.modDossier n fun d => { d with filingPending := true }).modReports fun q =>
            { q with filingPending := q.filingPending ++ [n] }).raise .filingBlocked) := by
  unfold State.fileDossier queueCapacity
  by_cases h : s.reports.reports.length < 16
  · exact .inl ⟨h, if_pos h⟩
  · exact .inr ⟨by omega, if_neg h⟩

/-! ### The samples of a ZERO (R167) -/

/-- A raw sample leaves the machine alone, ends the ZERO with ZERO_RANGE, completes it, or adds to its sum. -/
theorem zeroSample_cases (s : State) (n : Nest) (t : ZeroTarget) (raw : Int) (fault : Bool) :
    (s.zeroTargets n t = false ∧ s.zeroSample n t raw fault = s) ∨
      ∃ z, s.interlock.zero = some z ∧ z.nest = n ∧ z.target = t ∧
        ((fault = true ∧ s.zeroSample n t raw fault = s.endZero .zeroRange) ∨
          (fault = false ∧ z.length.samples ≤ z.taken + 1 ∧
            s.zeroSample n t raw fault = s.completeZero { z with taken := z.taken + 1, sum := z.sum + raw }) ∨
          (fault = false ∧ z.taken + 1 < z.length.samples ∧
            s.zeroSample n t raw fault =
              s.modInterlock fun i => { i with zero := some { z with taken := z.taken + 1, sum := z.sum + raw } })) := by
  simp only [State.zeroSample, State.zeroTargets]
  cases hz : s.interlock.zero with
  | none => exact .inl ⟨rfl, rfl⟩
  | some z =>
    by_cases h : z.nest = n ∧ z.target = t
    · refine .inr ⟨z, rfl, h.1, h.2, ?_⟩
      cases fault with
      | true => exact .inl ⟨rfl, by simp [h]⟩
      | false =>
        by_cases hl : z.length.samples ≤ z.taken + 1
        · exact .inr (.inl ⟨rfl, hl, by simp [h, hl]⟩)
        · exact .inr (.inr ⟨rfl, by omega, by simp [h, hl]⟩)
    · refine .inl ⟨?_, by simp [h]⟩
      simp only [Bool.and_eq_false_iff, beq_eq_false_iff_ne, ne_eq]
      rcases Classical.em (z.nest = n) with h1 | h1
      · exact .inr fun h2 => h ⟨h1, h2⟩
      · exact .inl h1

/-! ### The address lines of the bench port (R177) -/

@[simp] theorem windowOfAddress_wordAddress (w : Window) : windowOfAddress true w.wordAddress = some w := by cases w <;> rfl

@[simp] theorem windowOfAddress_byteAddress (w : Window) (h : Half) : windowOfAddress false (w.byteAddress h) = some w := by
  cases w <;> cases h <;> rfl

@[simp] theorem halfOfAddress_byteAddress (w : Window) (h : Half) : halfOfAddress (w.byteAddress h) = h := by cases w <;> cases h <;> rfl

/-- Every window and half is reached at its own address. -/
theorem byteAccessAt_byteAddress (w : Window) (h : Half) (op : ByteOp) : byteAccessAt (w.byteAddress h) op = some ⟨w, h, op⟩ := by
  simp [byteAccessAt]

/-- An address that names a window is that window's. -/
theorem windowOfAddress_true_inv {a : Nat} {w : Window} (h : windowOfAddress true a = some w) : a = w.wordAddress := by
  simp only [windowOfAddress, if_true] at h
  unfold windowOf at h
  split at h <;> cases h <;> rfl

/-! ### Rows that stand for whole commands and frames (notes/assumptions/5.md) -/

/-- A command row with no command held takes the command on an empty collection. -/
theorem commandRow_free {s : State} (h : s.bench.held = none) (code : Byte) (eff : State → State × ReplyCode × List Word) :
    s.commandRow code eff = (s.dropCommandLatch.setCollected []).runCommand code eff := by
  have h' : s.dropCommandLatch.bench.held = none := h
  simp [State.commandRow, State.benchRow, Bench.commandHeld, h']

/-- A command row while a command is held sets OVERRUN and drops a half-latched byte of the command window. -/
theorem commandRow_held {s : State} (h : s.bench.held ≠ none) (code : Byte) (eff : State → State × ReplyCode × List Word) :
    s.commandRow code eff = s.dropCommandLatch.overrun := by
  have h' : s.dropCommandLatch.bench.held ≠ none := h
  simp [State.commandRow, State.benchRow, Bench.commandHeld, Option.isSome_iff_ne_none.mpr h']

/-- A frame row with no request pending takes the request. -/
theorem frameRow_free {s : State} {l : Link} (h : (s.link l).request = none) {kind : Byte} {payload : List Byte}
    (hp : payload.length ≤ 1024) (eff : State → State × ReplyCode × List Byte) :
    s.frameRow l kind payload eff = (s.hunt l).takeRequest l kind payload eff := by
  have h' : ((s.hunt l).link l).request = none := by
    simpa [State.hunt, State.modLink, State.link] using h
  simp only [State.frameRow, maxPayload, if_pos hp, State.frameComplete, h']
  rfl

/-- A frame row while a request is pending, or with a payload beyond the length field, is discarded. -/
theorem frameRow_discarded {s : State} {l : Link} {kind : Byte} {payload : List Byte}
    (h : (s.link l).request ≠ none ∨ 1024 < payload.length) (eff : State → State × ReplyCode × List Byte) :
    s.frameRow l kind payload eff = s.hunt l := by
  by_cases hp : payload.length ≤ maxPayload
  · rcases h with h | h
    · have h' : ((s.hunt l).link l).request ≠ none := by
        simpa [State.hunt, State.modLink, State.link] using h
      simp only [State.frameRow, if_pos hp, State.frameComplete, Option.isSome_iff_ne_none.mpr h', if_true]
    · simp only [maxPayload] at hp; omega
  · simp only [State.frameRow, if_neg hp]

end Sys2Proof.Machine
end

