-- ==== Sys2Proof/Tests/Slice0.lean ====
section
/-! SUPPORT. Tests: ill-formed commands, the manual's worked values, single commands on small states, and for each statement with
hypotheses a state and operands that meet them. -/

namespace Sys2Proof.Tests

open Sys2Proof Sys2Proof.Machine

/-! ### Well-formedness: an ill-formed command for each check -/

theorem test_wellFormed_arrive : Instr.wellFormed (.arrive 0 0 (List.replicate 1023 0x41)) = false := by decide +kernel
theorem test_wellFormed_arrive_longest : Instr.wellFormed (.arrive 0 0 (List.replicate 1022 0x41)) = true := by decide +kernel
theorem test_wellFormed_unknownKind_known : Instr.wellFormed (.unknownKind .cell 0x10 []) = false := by decide
theorem test_wellFormed_unknownKind_long :
    Instr.wellFormed (.unknownKind .plant 0x10 (List.replicate 1025 0)) = false := by decide +kernel
theorem test_wellFormed_unknownKind_other : Instr.wellFormed (.unknownKind .plant 0x10 []) = true := by decide
theorem test_wellFormed_frameWhilePending :
    Instr.wellFormed (.frameWhilePending .cell 0 (List.replicate 1025 0)) = false := by decide +kernel
theorem test_wellFormed_unknownCommand_known : Instr.wellFormed (.unknownCommand 0x0800) = false := by decide
theorem test_wellFormed_unknownCommand_other : Instr.wellFormed (.unknownCommand 0x0A00) = true := by decide
theorem test_wellFormed_tempSample_high : Instr.wellFormed (.tempSample .n0 2001) = false := by decide
theorem test_wellFormed_tempSample_low : Instr.wellFormed (.tempSample .n0 (-601)) = false := by decide
theorem test_wellFormed_vibration_high : Instr.wellFormed (.vibrationConversion .n0 32768) = false := by decide
theorem test_wellFormed_vibration_low : Instr.wellFormed (.vibrationConversion .n0 (-32769)) = false := by decide

/-! ### Decoding: no row of the table has bits; the ports' words and bytes, written out from R185, R189 and R196 -/

theorem test_no_table_word (nbits w : Nat) : decodeTableWord nbits w = none := rfl

theorem test_fetch_word_leaves_state (s : State) : s.withFetchWord 16 0 = s := rfl

/-- R185: the nine characters "123456789" give 0x29B1. -/
theorem test_crc_check_value : crc [0x31, 0x32, 0x33, 0x34, 0x35, 0x36, 0x37, 0x38, 0x39] = 0x29B1 := by decide +kernel

/-- R189: the frame of PERMIT up to its CRC. -/
theorem test_frame_of_permit : (frameBytes 0x14 []).take 4 = [0x01, 0x00, 0x01, 0x14] ∧ (frameBytes 0x14 []).length = 7 := by
  decide

/-- R179, R196: 0x0801 is READ_TEMP of nest 1. -/
theorem test_first_word : codeOf 0x0801 = 0x08 ∧ argumentA 0x0801 = 1 ∧ commandWords 0x08 = some 1 := by decide

/-! ### The manual's worked values -/

/-- The ramp of section 5.3 from 0 to 1500 in 7 updates. -/
theorem test_ramp_up : (List.range 7).map (fun k => rampValue 0 1500 (k + 1) 7) = [214, 428, 642, 857, 1071, 1285, 1500] := by
  decide

/-- The ramp of section 5.3 from 0 to −100 in 3 updates truncates toward zero. -/
theorem test_ramp_truncates : (List.range 3).map (fun k => rampValue 0 (-100) (k + 1) 3) = [-33, -66, -100] := by decide

/-- The ramp of section 5.3 from 1500 to −600 in 4 updates. -/
theorem test_ramp_reverses : (List.range 4).map (fun k => rampValue 1500 (-600) (k + 1) 4) = [975, 450, -75, -600] := by decide

/-- R142: ties are taken upward, at −1.5, −0.5, 0.5 and 1.5. -/
theorem test_scale_ties :
    [-25165824, -8388608, 8388608, 25165824].map (scaleSum 24) = [-1, 0, 1, 2] := by decide

/-- Section 8.4: I′ 8000, M 8000, overall level 5656. -/
theorem test_worked_amplitude :
    scaleSum 24 134213632000 = 8000 ∧ isqrt 64000000 = 8000 ∧ isqrt 32000000 = 5656 := by decide +kernel

/-- Section 10.3: −187 over 16 samples is −11; 1,310,976 over 256 is 5,121. -/
theorem test_zero_means : (-187 : Int).tdiv 16 = -11 ∧ (1310976 : Int).tdiv 256 = 5121 := by decide

/-- R52: from class 7 the class moves down at 790 or below only, to the band of the reading. -/
theorem test_class_leaves_seven : nextClass 7 791 = 7 ∧ nextClass 7 790 = 6 ∧ nextClass 7 120 = 1 := by decide

/-- R50, R52: an upward move is taken at once; class 3 is held from 241 up. -/
theorem test_class_bands : bandClass 49 = 0 ∧ bandClass 50 = 1 ∧ bandClass 800 = 7 ∧ nextClass 3 241 = 3 ∧
    nextClass 3 240 = 2 ∧ nextClass 3 650 = 6 := by decide

/-- R111: the floor of 40,000 Pa is 36,000 Pa and that of 5,001 Pa is 4,500 Pa. -/
theorem test_settling_floor :
    LeakSet.floor ⟨40000, 1, 1, 10, 1, [], .hold⟩ = 36000 ∧ LeakSet.floor ⟨5001, 1, 1, 10, 1, [], .hold⟩ = 4500 := by decide

/-- The worked measurement of section 6.4: mean 40,112 of a sum of 641,800; ΔPc 117 with +25 and 167 with −25. -/
theorem test_worked_measurement :
    (641800 : Int).tdiv 16 = 40112 ∧
      LeakSet.compensated ⟨40000, 1, 50, 100, 150, [0, 0, 25, 0, 0, 0], .hold⟩ 3 142 = 117 ∧
      LeakSet.compensated ⟨40000, 1, 50, 100, 150, [0, 0, -25, 0, 0, 0], .hold⟩ 3 142 = 167 := by decide

/-- R150: 65535 is followed by 1. -/
theorem test_number_wraps : numberAfter 65535 = 1 ∧ numberAfter 1 = 2 := by decide

/-- R89, R63: in class 6 a set-point of 2010 falls 3 rpm toward 2000; at 2003 the clamp is taken. -/
theorem test_limiter_slews : limiter 6 2500 2010 = 2007 ∧ limiter 6 2500 2003 = 2000 ∧ limiter 5 2500 2010 = 2500 := by decide

/-- R188: a record of odd length ends with a low half of 0. -/
theorem test_packing : packWords [0x12, 0x34, 0x56] = [0x1234, 0x5600] := by decide

/-! ### Small states -/

/-- A plan with every kind of drive stage. -/
def plan : Plan where
  label := []
  autoStart := true
  autoFile := false
  cycles := 1
  attemptsMask := 7
  jamTorque := 20
  searchSpeed := 30
  refMode := .a
  indexCount := 2
  stages := [.engage, .reference, .profile]
  steps := [⟨100, 2, 1, 400, some 0, .drive⟩]
  leakSet0 := ⟨5000, 1, 1, 10, 1, [0, 0, 0, 0, 0, 0], .autoVent⟩
  leakSet1 := ⟨150000, 600, 600, 600, 20000, [0, 0, 0, 0, 0, 0], .hold⟩
  captures := [⟨4, 2, 1, [⟨1, 1, 1⟩], []⟩]

/-- A plan of one LEAK stage of both chambers. -/
def leakPlan : Plan := { plan with stages := [.leak ⟨true, true⟩ .set0] }

/-- The reset state with nest 0's dossier, naming variant 0 with a plan, changed. -/
def withDossier (p : Plan) (f : Dossier → Dossier) : State :=
  (State.reset.modPlan 0 fun _ => ⟨some p, 1⟩).modDossier .n0 fun d => f { d with variant := some 0 }

/-- Nest 0 in TESTING at a stage of a plan, in class 3, its drive enabled at 100 rpm in an activity. -/
def driving (p : Plan) (i : Nat) (a : Activity) : State :=
  ((withDossier p fun d => { d with state := .testing, stageIndex := some i }).modChannel .n0 fun ch =>
    { ch with enable := true, setPoint := 100, activity := a }).modMonitor .n0 fun m => { m with tempClass := 3 }

/-- Circuit (0,0) of a TESTING dossier's LEAK stage in a state, with leak set 0, a count and an empty arbiter. -/
def leaking (st : CircuitState) (count : Nat) : State :=
  (((withDossier leakPlan fun d =>
      { d with state := .testing, stageIndex := some 0, leaks := [LeakRecord.fresh .c0, LeakRecord.fresh .c1] }).setLeakStage
    .n0 (some ⟨⟨true, true⟩, .set0, none⟩)).modCircuit .n0 .c0 fun k =>
      { k with state := st, leakSet := some .set0, count := count }).modMonitor .n0 fun m => { m with tempClass := 3 }

/-- A report with a number. -/
def report (k : Nat) : Report :=
  ⟨some k, 0, .n0, none, none, none, none, false, false, 0, [], 0, 0, none, none, none, [], []⟩

/-- The reset state with sixteen reports. -/
def fullQueue : State := State.reset.modReports fun q => { q with reports := (List.range 16).map fun k => report (k + 1), nextNumber := 17 }

/-! ### Single commands -/

/-- R54: before the first sample READ_TEMP answers T absent and class 7. -/
theorem test_read_temp : (match exec (.readTemp 1) State.reset with
    | .next t => t.bench.reply
    | _ => none) = some ⟨[0x0800, 0x8000, 0x0007], 0⟩ := by decide

/-- R166, R179: a command word written while ZERO is held sets OVERRUN and leaves the ZERO held (section 11.5). -/
theorem test_zero_held : (match execAll [.zero 0 1 1, .commandWordOverrun 0x0800] State.reset with
    | .next t => (t.bench.held, t.bench.overrun, t.bench.reply)
    | _ => (none, false, none)) = (some [0x0900, 0x0001, 0x0001], true, none) := by decide

/-- R63: a controlled stop from 100 rpm sends 97 rpm. -/
theorem test_controlled_stop : (match exec (.driveUpdate ⟨.n0, 0, false⟩)
      ((driving plan 1 (.searching ⟨0, false, 0, 0⟩)).modChannel .n0 fun ch => { ch with stopping := true }) with
    | .next t => (t.channel .n0).setPoint
    | _ => 0) = 97 := by decide

/-- R73: the search moves 3 rpm toward the search speed, from 100 rpm down to 97. -/
theorem test_search_moves : (match exec (.driveUpdate ⟨.n0, 0, false⟩) (driving plan 1 (.searching ⟨0, false, 0, 0⟩)) with
    | .next t => (t.channel .n0).setPoint
    | _ => 0) = 97 := by decide

/-- R74: the update that trips leaves the torque run at 3. -/
theorem test_reference_trip_run : (match exec (.refTorqueTrip ⟨.n0, 21, false⟩) (driving plan 1 (.searching ⟨0, false, 0, 2⟩)) with
    | .next t => (t.channel .n0).activity
    | _ => .idle) = .searching ⟨0, false, 0, 3⟩ := by decide

/-- R9, R32: an ARRIVE raises the in-use count and opens the dossier. -/
theorem test_arrive : (match exec (.arrive 0 0 [0x41]) (State.reset.modPlan 0 fun _ => ⟨some plan, 0⟩) with
    | .next t => ((t.dossier .n0).state, (t.planEntry 0).inUse)
    | _ => (.vacant, 0)) = (.opened, 1) := by decide

/-- R110: a sample at the fill target ends the fill. -/
theorem test_fill_completes : (match exec (.pressureSample ⟨.n0, .c0, 5000⟩) (leaking .filling 3) with
    | .next t => ((t.circuit .n0 .c0).state, (t.circuit .n0 .c0).count)
    | _ => (.idle, 9)) = (.settling, 0) := by decide

/-! ### A state and operands for the hypotheses of each statement -/

theorem test_witness_StepRunsFrontCommand : ({ State.reset with pending := [.permit, .fetch] } : State).pending = .permit :: [.fetch] :=
  rfl

theorem test_witness_IdleStepCountsPermitTime :
    State.reset.pending = [] ∧ State.reset.interlock.permitLive = false ∧
      (let s := State.reset.modInterlock fun i => { i with permitLive := true, permitLeft := 2 };
        s.pending = [] ∧ s.interlock.permitLive = true ∧ 1 < s.interlock.permitLeft) ∧
      (let s := State.reset.modInterlock fun i => { i with permitLive := true, permitLeft := 1 };
        s.pending = [] ∧ s.interlock.permitLive = true ∧ s.interlock.permitLeft ≤ 1) := by decide

/-- R171: with both drive-fault inputs active at reset both lists hold DRIVE_FAULT and both causes are pending. -/
theorem test_reset_with_drive_faults :
    (match exec (.reset ⟨false, true, true, true, true, true, true⟩) fullQueue with
      | .next t => (t.faultList .n0, t.faultList .n1, t.bench.isPending (.nestFault .n0), t.bench.isPending (.nestFault .n1))
      | _ => (⟨[], true⟩, ⟨[], true⟩, false, false)) =
      (⟨[.driveFault], false⟩, ⟨[.driveFault], false⟩, true, true) := by decide

theorem test_witness_ArriveOpensDossier :
    (let s := State.reset.modDossier .n1 fun d => { d with state := .filed, serial := some [0x41] };
      s.linkFree .cell ∧ ([0x41] : List Byte).length ≤ 1022 ∧ nestOf 2 = none ∧ nestOf 0 = some .n0 ∧ 20 < (List.replicate 21 (0x41 : Byte)).length ∧
        (0x20 : Byte).toNat < 0x21 ∧ 0x7E < (0x7F : Byte).toNat ∧ (s.dossier .n1).state ≠ .vacant ∧
        ((s.setFaultList .n0 ⟨[.ventFail], false⟩).faultList .n0).causes ≠ [] ∧ 31 < (32 : Byte).toNat ∧
        (s.planEntry 31).plan = none ∧ (s.dossier Nest.n0.other).serial = some [0x41]) ∧
    (let s := State.reset.modPlan 31 fun _ => ⟨some plan, 0⟩;
      nestOf 1 = some .n1 ∧ (0x1F : Byte).toNat = (31 : Fin 32).val ∧ (s.link .cell).request = none ∧
        1 ≤ (List.replicate 20 (0x7E : Byte)).length ∧ (List.replicate 20 (0x7E : Byte)).length ≤ 20 ∧
        (∀ c ∈ List.replicate 20 (0x7E : Byte), 0x21 ≤ c.toNat ∧ c.toNat ≤ 0x7E) ∧
        (s.dossier .n1).state = .vacant ∧ (s.faultList .n1).causes = [] ∧ (s.planEntry 31).plan.isSome = true ∧
        (s.dossier Nest.n1.other).state = .vacant) := by
  simp only [State.linkFree]; decide

theorem test_witness_ClampedSetsFlagAndAutoStarts :
    (let s := withDossier plan fun d => { d with state := .opened };
      nestOf 0 = some .n0 ∧ (s.link .cell).request = none ∧ (s.dossier .n0).state = .opened ∧
        (s.dossier .n0).clamped = false ∧ s.planOf .n0 = some plan ∧ plan.autoStart = true ∧ s.interlock.estop = false ∧
        (s.faultList .n0).causes = [] ∧ plan.stages = .engage :: [.reference, .profile] ∧
        attemptsOf plan.attemptsMask = .forwardCreep :: [.reverseCreep, .oscillation]) ∧
      (let s := withDossier { plan with autoStart := false } fun d => { d with state := .opened };
        s.planOf .n0 = some { plan with autoStart := false } ∧ (s.dossier .n0).clamped = false) ∧
      (nestOf 2 = none ∧ State.reset.linkFree .cell ∧ (State.reset.dossier .n0).state ≠ .opened) ∧
      (let s := withDossier plan fun d => { d with state := .opened, clamped := true };
        s.linkFree .cell ∧ (s.dossier .n0).state = .opened ∧ (s.dossier .n0).clamped = true) := by
  simp only [State.linkFree]; decide

theorem test_witness_ReleaseFreesNest :
    nestOf 0 = some .n0 ∧
      (let s := withDossier plan fun d => { d with state := .filed };
        s.linkFree .cell ∧ (s.dossier .n0).state = .filed ∧ s.nestAtRest .n0) ∧
      (let s := withDossier plan fun d => { d with state := .opened };
        s.linkFree .cell ∧ (s.dossier .n0).state = .opened ∧ s.nestAtRest .n0 ∧ s.reports.reports.length < 16) ∧
      (let s := fullQueue.modDossier .n0 fun d => { d with state := .opened };
        s.linkFree .cell ∧ (s.dossier .n0).state = .opened ∧ s.nestAtRest .n0 ∧ 16 ≤ s.reports.reports.length) ∧
      (let s := withDossier plan fun d => { d with state := .judged };
        s.linkFree .cell ∧ (s.dossier .n0).state = .judged) ∧
      (nestOf 2 = none ∧ State.reset.linkFree .cell ∧ (State.reset.dossier .n0).state = .vacant) ∧
      (let s := (withDossier plan fun d => { d with state := .filed }).modCircuit .n0 .c1 fun k => { k with state := .venting };
        s.linkFree .cell ∧ (s.dossier .n0).state = .filed ∧ ¬ s.nestAtRest .n0) :=
  ⟨rfl, ⟨⟨rfl, rfl⟩, rfl, rfl, rfl, fun c => by cases c <;> rfl⟩,
    ⟨⟨rfl, rfl⟩, rfl, ⟨rfl, rfl, fun c => by cases c <;> rfl⟩, by decide⟩,
    ⟨⟨rfl, rfl⟩, rfl, ⟨rfl, rfl, fun c => by cases c <;> rfl⟩, by decide⟩, ⟨⟨rfl, rfl⟩, rfl⟩, ⟨rfl, ⟨rfl, rfl⟩, rfl⟩,
    ⟨rfl, rfl⟩, rfl, fun h => nomatch h.2.2 .c1⟩

theorem test_witness_AbortStopsTest :
    nestOf 0 = some .n0 ∧
      (let s := driving plan 1 (.searching ⟨0, false, 0, 0⟩);
        (s.dossier .n0).state = .testing ∧ s.listSound .n0 ∧ s.linkFree .cell ∧ s.benchFree ∧ (s.channel .n0).enable = true) ∧
      (State.reset.dossier .n0).state ≠ .testing ∧ nestOf 2 = none ∧ State.reset.linkFree .cell ∧ State.reset.benchFree :=
  ⟨rfl, ⟨rfl, fun _ h => (nomatch h), ⟨rfl, rfl⟩, ⟨rfl, rfl, rfl⟩, rfl⟩, by decide, rfl, ⟨rfl, rfl⟩, ⟨rfl, rfl, rfl⟩⟩

theorem test_witness_PermitAndAskAnswer :
    State.reset.linkFree .cell ∧ nestOf 1 = some .n1 ∧ nestOf 2 = none :=
  ⟨⟨rfl, rfl⟩, by decide, by decide⟩

theorem test_witness_PlantRequestsReadAndTake :
    State.reset.linkFree .plant ∧ State.reset.reports.reports = [] ∧
      (let s := State.reset.modReports fun q => { q with reports := [report 65535] };
        s.linkFree .plant ∧ s.reports.reports = report 65535 :: [] ∧ (report 65535).number ≠ some (1 : Word).toNat ∧
          (report 65535).number = some (0xFFFF : Word).toNat ∧ s.reports.filingPending = []) ∧
      (let s := fullQueue.modReports fun q => { q with filingPending := [.n1, .n0] };
        s.linkFree .plant ∧ s.reports.reports = report 1 :: (List.range 15).map (fun k => report (k + 2)) ∧
          (report 1).number = some (1 : Word).toNat ∧ s.reports.filingPending = .n1 :: [.n0] ∧ Nest.n1 ∉ [Nest.n0]) := by
  simp only [State.linkFree]; decide

theorem test_witness_UnknownKindAndBadLengthAnswered :
    State.reset.linkFree .cell ∧ State.reset.linkFree .plant ∧ ([] : List Byte).length ≤ 1024 ∧ 0x20 ∉ linkKinds .cell ∧
      ([0] : List Byte).length < 2 ∧ (0x15 : Byte) ∈ ([0x11, 0x12, 0x13, 0x15] : List Byte) ∧ ([0, 0] : List Byte).length ≠ 1 ∧
      ([0] : List Byte) ≠ [] ∧ (0x22 : Byte) ∈ ([0x20, 0x22] : List Byte) ∧ ([0, 0, 0] : List Byte).length ≠ 2 := by
  simp only [State.linkFree]; decide

theorem test_witness_ReceiverTakesBytesAndDiscards :
    (State.reset.link .cell).receiver = .hunting ∧
      (frameLength ([0x00] ++ [0x00]) < 1 ∧ ([0x00] : List Byte).length = 1) ∧
      (1025 < frameLength ([0x04] ++ [0x02])) ∧
      (let bytes : List Byte := [0x00, 0x01, 0x14, 0x00, 0x00];
        2 ≤ bytes.length ∧ 1 ≤ frameLength bytes ∧ frameLength bytes ≤ 1025 ∧ bytes.length = frameLength bytes + 4 ∧
          (0x05 : Byte) ≠ 0x04 ∧ bytes.drop (frameLength bytes + 2) ≠ bytes16 (crc (bytes.take (frameLength bytes + 2)))) ∧
      (let bytes : List Byte := [0x00];
        1 ≤ frameLength (bytes ++ [0x01]) ∧ frameLength (bytes ++ [0x01]) ≤ 1025 ∧
          bytes.length < frameLength (bytes ++ [0x01]) + 4) ∧
      (let s := State.reset.modLink .cell fun l => { l with receiver := .inFrame [0x00], request := some ⟨0x14, [], []⟩ };
        (s.link .cell).receiver = .inFrame [0x00] ∧ (s.link .cell).request.isSome = true) := by decide +kernel

theorem test_witness_FrameBytesAreTheRequest :
    (State.reset.link .cell).receiver = .hunting ∧ (State.reset.link .plant).receiver = .hunting ∧
      (List.replicate 1022 (0x41 : Byte)).length ≤ 1022 ∧ (List.replicate 1024 (0 : Byte)).length ≤ 1024 :=
  ⟨rfl, rfl, (List.length_replicate (n := 1022)).symm ▸ Nat.le_refl _, (List.length_replicate (n := 1024)).symm ▸ Nat.le_refl _⟩

theorem test_witness_StartBeginsTest :
    nestOf 0 = some .n0 ∧ nestOf 2 = none ∧ State.reset.benchFree ∧ (State.reset.dossier .n0).state ≠ .opened ∧
      (let s := withDossier plan fun d => { d with state := .opened };
        s.benchFree ∧ (s.dossier .n0).state = .opened ∧ (s.dossier .n0).clamped = false) ∧
      (let s := withDossier plan fun d => { d with state := .opened, clamped := true };
        s.benchFree ∧ (s.dossier .n0).clamped = true ∧ (s.faultList .n0).causes = [] ∧ s.interlock.estop = false ∧
          s.planOf .n0 = some plan ∧ plan.stages = .engage :: [.reference, .profile] ∧
          attemptsOf plan.attemptsMask = .forwardCreep :: [.reverseCreep, .oscillation] ∧
          ((s.setFaultList .n0 ⟨[.ventFail], false⟩).faultList .n0).causes ≠ [] ∧
          (s.modInterlock fun i => { i with estop := true }).interlock.estop = true) ∧
      (let s := (withDossier leakPlan fun d => { d with state := .opened, clamped := true }).modArbiter fun _ => ⟨none, [], false⟩;
        s.benchFree ∧ (s.dossier .n0).clamped = true ∧ s.planOf .n0 = some leakPlan ∧
          leakPlan.stages = .leak ⟨true, true⟩ .set0 :: [] ∧ ChamberSet.has ⟨true, true⟩ .c0 = true ∧ s.interlock.zero = none ∧
          s.arbiter = ⟨none, [], false⟩ ∧ State.reset.arbiter.supplyLow = true) := by
  simp only [State.benchFree]; decide

theorem test_witness_RetestRunsItsScope :
    nestOf 0 = some .n0 ∧ nestOf 2 = none ∧ State.reset.benchFree ∧ (State.reset.dossier .n0).state ≠ .judged ∧
      (let d : Dossier := { Dossier.vacant with state := .judged, verdict := some .fail, retestCount := some 2 };
        d.state = .judged ∧ d.verdict = some .fail ∧ d.retestCount = some 2 ∧ 2 ≤ 2) ∧
      (let s := withDossier plan fun d =>
          { d with
            state := .judged, verdict := some .incomplete, retestCount := some 1, leaks := [LeakRecord.fresh .c0]
            runIn := some ⟨some (failed .engageFail), 0, 0, 0⟩ };
        s.benchFree ∧ (s.dossier .n0).state = .judged ∧ (s.dossier .n0).verdict = some .incomplete ∧
          (s.dossier .n0).retestCount = some 1 ∧ 1 < 2 ∧ (s.faultList .n0).causes = [] ∧ s.interlock.estop = false ∧
          s.planOf .n0 = some plan ∧ ((s.dossier .n0).leaks.map LeakRecord.chamber).Nodup ∧
          (failed .engageFail).result ≠ .pass) ∧
      (let s := withDossier leakPlan fun d =>
          { d with state := .judged, verdict := some .fail, retestCount := some 0, leaks := [LeakRecord.fresh .c1] };
        s.benchFree ∧ s.planOf .n0 = some leakPlan ∧ leakPlan.stages = .leak ⟨true, true⟩ .set0 :: [] ∧
          s.interlock.zero = none ∧ (s.dossier .n0).runIn = none ∧ (s.dossier .n0).captures = []) ∧
      (let m : ChamberSet := ⟨false, true⟩;
        m.has .c1 = true ∧ m.c0 = false ∧ (LeakRecord.fresh .c1).chamber = .c1 ∧
          isPass (LeakRecord.fresh .c1).given = false) := by
  simp only [State.benchFree]; decide

theorem test_witness_FileAndQuarantineAct :
    nestOf 0 = some .n0 ∧ nestOf 2 = none ∧
      (let s := withDossier plan fun d => { d with state := .judged };
        s.benchFree ∧ (s.dossier .n0).state = .judged ∧ (s.dossier .n0).filingPending = false ∧
          s.reports.reports.length < 16 ∧ (s.dossier .n0).state ≠ .vacant ∧ (s.dossier .n0).state ≠ .filed) ∧
      (let s := fullQueue.modDossier .n0 fun d => { d with state := .judged };
        s.benchFree ∧ (s.dossier .n0).filingPending = false ∧ 16 ≤ s.reports.reports.length) ∧
      (let s := withDossier plan fun d => { d with state := .judged, filingPending := true };
        s.benchFree ∧ (s.dossier .n0).filingPending = true) ∧
      (State.reset.dossier .n0).state ≠ .judged ∧ (State.reset.dossier .n0).state = .vacant := by
  simp only [State.benchFree]; decide

theorem test_witness_ClearFaultsKeepsStandingCauses :
    (let s := State.reset.setFaultList .n0 ⟨[.sensorTemp, .sensorPressure, .driveFault, .ventFail], true⟩;
      nestOf 0 = some .n0 ∧ s.benchFree ∧ (s.dossier .n0).state = .vacant ∧ (s.faultList .n0).more = true ∧
        FaultCause.encoderFault ∉ (s.faultList .n0).causes ∧
        (FaultCause.sensorTemp ∈ (s.faultList .n0).causes ∧ FaultCause.sensorPressure ∈ (s.faultList .n0).causes ∧
          FaultCause.driveFault ∈ (s.faultList .n0).causes ∧ FaultCause.ventFail ∈ (s.faultList .n0).causes)) ∧
      (let s := (State.reset.setFaultList .n0 ⟨[.sensorTemp, .sensorPressure, .encoderFault, .ventFail], true⟩).modInterlock
          fun i => { i with driveFault := ⟨true, false⟩ };
        FaultCause.driveFault ∉ (s.faultList .n0).causes ∧ s.conditionStands .n0 .driveFault) ∧
      (State.reset.faultList .n0).more = false ∧
      (let s := withDossier plan fun d => { d with state := .opened };
        (s.dossier .n0).state ≠ .vacant ∧ (s.dossier .n0).state ≠ .judged) ∧ nestOf 2 = none :=
  ⟨⟨rfl, ⟨rfl, rfl, rfl⟩, rfl, rfl, by decide, by decide⟩, ⟨by decide, rfl⟩, rfl, by decide, rfl⟩

theorem test_witness_ZeroIsHeldUntilAnswered :
    State.reset.benchFree ∧ nestOf 2 = none ∧ nestOf 0 = some .n0 ∧ 2 < (3 : Word).toNat ∧ 1 < (2 : Word).toNat ∧
      zeroTargetOf 2 = some (.chamber .c1) ∧ zeroTargetOf 0 = some .torque ∧ zeroLengthOf 1 = some .long ∧
      (State.reset.channel .n0).enable = false ∧ (State.reset.circuit .n0 .c1).state = .idle ∧
      ((driving plan 0 .idle).channel .n0).enable = true := by
  simp only [State.benchFree]; decide

theorem test_witness_ZeroSamplesSetTheOffset :
    (let z : ZeroInProgress := ⟨.n0, .torque, .short, 15, 32000⟩;
      let s := State.reset.modInterlock fun i => { i with zero := some z };
      s.interlock.zero = some z ∧ (s.channel .n0).activity = .idle ∧ (s.channel .n0).stopping = false ∧
        s.captureUnit .n0 = .idle ∧ z.taken + 1 = z.length.samples ∧
        ((z.sum + 0).tdiv z.length.samples).natAbs ≤ 2000 ∧ 2000 < ((z.sum + 16).tdiv z.length.samples).natAbs) ∧
      (let z : ZeroInProgress := ⟨.n0, .torque, .short, 14, 0⟩;
        z.taken + 1 < z.length.samples) ∧
      (let z : ZeroInProgress := ⟨.n0, .chamber .c0, .long, 255, 1280000⟩;
        let s := State.reset.modInterlock fun i => { i with zero := some z };
        s.interlock.zero = some z ∧ (s.circuit .n0 .c0).state = .idle ∧ z.taken + 1 = z.length.samples ∧
          ((z.sum + 0).tdiv z.length.samples).natAbs ≤ 5000 ∧ 5000 < ((z.sum + 256).tdiv z.length.samples).natAbs) ∧
      pressureInRange ⟨.n0, .c0, 210000⟩ ∧ ¬ pressureInRange ⟨.n0, .c0, -2001⟩ := by
  simp only [pressureInRange]; decide

/-- R167: an update that turns the enable on, and an auto-start whose first stage is LEAK, while a ZERO is in progress. -/
theorem test_witness_ZeroSamplesSetTheOffset_ends :
    (let z : ZeroInProgress := ⟨.n0, .torque, .short, 14, 0⟩;
      let s := ((driving plan 0 (.engaging ⟨.oscillation, false, 0, 0, 0, false⟩)).modChannel .n0 fun ch =>
          { ch with enable := false, setPoint := 0 }).modInterlock fun i => { i with zero := some z, permitLive := true };
      s.interlock.zero = some z ∧ z.taken + 1 < z.length.samples ∧ s.stageIs .n0 plan 0 .engage ∧
        (s.channel .n0).activity = .engaging ⟨.oscillation, false, 0, 0, 0, false⟩ ∧ (s.channel .n0).stopping = false ∧
        s.captureUnit .n0 = .idle ∧ s.enableAllowed .n0 ∧ s.classOf .n0 ≠ 7) ∧
      (let z : ZeroInProgress := ⟨.n0, .chamber .c0, .long, 0, 0⟩;
        let s := (withDossier leakPlan fun d => { d with state := .opened }).modInterlock fun i => { i with zero := some z };
        nestOf 0 = some .n0 ∧ s.linkFree .cell ∧ (s.dossier .n0).state = .opened ∧ (s.dossier .n0).clamped = false ∧
          s.planOf .n0 = some leakPlan ∧ leakPlan.autoStart = true ∧ s.interlock.estop = false ∧
          (s.faultList .n0).causes = [] ∧ leakPlan.stages = .leak ⟨true, true⟩ .set0 :: [] ∧
          ChamberSet.has ⟨true, true⟩ .c0 = true ∧ s.interlock.zero = some z) := by
  simp only [State.stageIs, State.enableAllowed, State.linkFree]; decide

theorem test_witness_PermitExpiryStopsEnabledDrives :
    (let s := (driving plan 1 (.searching ⟨0, false, 0, 0⟩)).modInterlock fun i => { i with permitLive := true };
      s.interlock.permitLive = true ∧ (s.channel .n0).enable = true ∧ (s.dossier .n0).state = .testing ∧
        (s.channel .n0).activity ≠ .idle ∧ (s.channel .n1).enable = false) := by decide

theorem test_witness_EstopStopsAndStarts :
    (∀ n, (driving plan 1 (.searching ⟨0, false, 0, 0⟩)).listSound n) ∧
      ((driving plan 1 (.searching ⟨0, false, 0, 0⟩)).dossier .n0).state = .testing ∧
      (∀ n, (State.reset.dossier n).state ≠ .opened) ∧
      (let s := withDossier plan fun d => { d with state := .opened, clamped := true };
        (s.dossier .n0).state = .opened ∧ (s.dossier .n0).clamped = true ∧ (s.faultList .n0).causes = [] ∧
          s.planOf .n0 = some plan ∧ plan.autoStart = true ∧ (s.dossier Nest.n0.other).state ≠ .opened) :=
  ⟨fun _ _ h => (nomatch h), rfl, fun n => by cases n <;> decide, by decide⟩

theorem test_witness_GuardActsOnItsNest :
    (State.reset.dossier .n0).state ≠ .testing ∧ (State.reset.dossier .n0).state ≠ .stopping ∧
      ((driving plan 1 (.searching ⟨0, false, 0, 0⟩)).dossier .n0).state = .testing ∧
      (driving plan 1 (.searching ⟨0, false, 0, 0⟩)).listSound .n0 :=
  ⟨by decide, by decide, rfl, fun _ h => (nomatch h)⟩

theorem test_witness_DriveFaultActsOnItsNest :
    (let s := driving plan 1 (.searching ⟨0, false, 0, 0⟩);
      FaultCause.driveFault ∉ (s.faultList .n0).causes ∧ (s.faultList .n0).causes.length < 4 ∧
        (s.dossier .n0).state = .testing ∧ (s.channel .n0).activity ≠ .idle) ∧
      (let s := State.reset.setFaultList .n0 ⟨[.sensorTemp, .sensorPressure, .encoderFault, .ventFail], false⟩;
        FaultCause.driveFault ∉ (s.faultList .n0).causes ∧ 4 ≤ (s.faultList .n0).causes.length) ∧
      FaultCause.driveFault ∈ ((State.reset.setFaultList .n0 ⟨[.driveFault], false⟩).faultList .n0).causes := by decide

theorem test_witness_ReadoutsFillOutputBuffer :
    fullQueue.benchFree ∧ nestOf 1 = some .n1 ∧ nestOf 0xFF = none ∧
      fullQueue.reports.reports[(15 : Byte).toNat]? = some (report 16) ∧ (15 : Byte).toNat ≤ 15 ∧
      State.reset.reports.reports.length ≤ (0 : Byte).toNat ∧ 15 < (16 : Byte).toNat := by
  simp only [State.benchFree]; decide

theorem test_witness_ReadTempAnswersAndClearsFlag :
    (let s := State.reset.modMonitor .n1 fun m => { m with temperature := some (-600), tempClass := 0 };
      s.benchFree ∧ nestOf 2 = none ∧ nestOf 1 = some .n1 ∧ (s.monitor .n1).tempClass ≤ 7 ∧
        (s.monitor .n1).temperature = some (-600) ∧ (State.reset.monitor .n0).temperature = none ∧
        (State.reset.monitor .n0).tempClass ≤ 7) := by
  simp only [State.benchFree]; decide

theorem test_witness_ReportQueueSettings :
    State.reset.benchFree ∧ (0xFFFF : Word) ≠ 0 ∧ State.reset.reports.reports = [] ∧ State.reset.reports.filingPending = [] ∧
      fullQueue.benchFree ∧ fullQueue.reports.reports ≠ [] := by
  simp only [State.benchFree]; decide

theorem test_witness_AttentionCommandsAct :
    State.reset.benchFree ∧ (∀ k, State.reset.bench.isPending k = false) ∧
      (let s := (State.reset.raise (.classChanged .n1)).raise .pinnedReady;
        s.benchFree ∧ s.bench.isPending (.classChanged .n1) = true ∧ s.bench.isEnabled (.classChanged .n1) = true ∧
          ∀ j ∈ AttentionCause.all, j.number < (AttentionCause.classChanged .n1).number → s.bench.isPending j = false) ∧
      512 ≤ (0x0200 : Word).toNat ∧ (0x01FF : Word).toNat < 512 :=
  ⟨⟨rfl, rfl, rfl⟩, fun k => by rcases k with _ | n | n | _ | n | _ <;> first | rfl | (cases n <;> rfl),
    ⟨⟨rfl, rfl, rfl⟩, rfl, rfl, by decide⟩, by decide, by decide⟩

/-- The image of a plan, which the reader of images accepts. -/
def image : List Word := plan.image

theorem test_witness_AcceptedImageIsReadBack :
    badPlanOffset image = none ∧
      (let s := State.reset.modBench fun b =>
          { b with intake := (image.zipIdx.filter fun x => x.1 ≠ 0).map fun x => (x.2, x.1) };
        variantOf 31 = some 31 ∧ s.bench.held = none ∧ s.bench.collected = [] ∧ s.bench.writeLatches.command = none ∧ (s.planEntry 31).inUse = 0 ∧ 1 ≤ image.length ∧ image.length ≤ 1024 ∧
          s.bench.intakeWords image.length = image) := by decide +kernel

theorem test_witness_AcceptedPlanLiesInItsRanges : badPlanOffset image = none ∧ planOfImage image = plan := by decide +kernel

theorem test_witness_PlanCommandsAct :
    State.reset.benchFree ∧ 31 < (32 : Byte).toNat ∧ (31 : Byte).toNat = (31 : Fin 32).val ∧
      0 < ((withDossier plan id).planEntry 0).inUse ∧ (State.reset.planEntry 31).inUse = 0 ∧ 1024 < (1025 : Word).toNat ∧
      (badPlanOffset (State.reset.bench.intakeWords 1)).isSome = true ∧ (State.reset.planEntry 0).plan = none ∧
      ((withDossier plan id).planEntry 0).plan = some plan := by
  simp only [State.benchFree]; decide

theorem test_witness_SlotCommandsAct :
    State.reset.benchFree ∧ 3 < (4 : Byte).toNat ∧ (3 : Byte).toNat = (3 : Fin 4).val ∧ (State.reset.slot 3).state = .free ∧
      (let s := State.reset.modSlot 3 fun l => { l with state := .filling };
        (s.slot 3).state ≠ .free ∧ (s.slot 3).state ≠ .pinned ∧ (s.slot 3).pinMark = false ∧ s.pinnedOrMarked < 2) ∧
      (let s := ((State.reset.modSlot 0 fun l => { l with state := .pinned }).modSlot 1 fun l =>
          { l with state := .ready, pinMark := true }).modSlot 3 fun l => { l with state := .analysing };
        (s.slot 0).state = .pinned ∧ (s.slot 1).pinMark = true ∧ (s.slot 3).pinMark = false ∧ 2 ≤ s.pinnedOrMarked) := by
  simp only [State.benchFree]; decide

theorem test_witness_CommandWordsAreTheCommand : State.reset.bench.held = none ∧ State.reset.bench.collected = [] := ⟨rfl, rfl⟩

theorem test_witness_CommandWindowTakesWords :
    State.reset.bench.writeLatches.command = none ∧ State.reset.benchFree ∧
      codeOf 0x0A00 ∉ ([0x01, 0x02, 0x03, 0x04, 0x05, 0x06, 0x07, 0x08, 0x09, 0x10, 0x11, 0x12, 0x18, 0x19, 0x1A, 0x20, 0x21, 0x22,
        0x23, 0x28, 0x29, 0x2A] : List Byte) ∧
      codeOf 0x29FF ∈ ([0x09, 0x10, 0x21, 0x23, 0x29] : List Byte) ∧
      (State.reset.modBench fun b => { b with held := some [0x0900, 0, 0] }).bench.held ≠ none := by
  simp only [State.benchFree]; decide

theorem test_witness_ReplyAndPointerWindowsAct :
    (let s := State.reset.modBench fun b => { b with reply := some ⟨[0x0800, 0x8000, 0x0007], 2⟩ };
      s.bench.readLatches.reply = none ∧ s.bench.writeLatches.reply = none ∧
        s.bench.reply = some ⟨[0x0800, 0x8000, 0x0007], 2⟩ ∧ [(0x0800 : Word), 0x8000, 0x0007][2]? = some 0x0007) ∧
      (let s := State.reset.modBench fun b => { b with reply := some ⟨[0x0100], 1⟩ };
        s.bench.reply = some ⟨[0x0100], 1⟩ ∧ [(0x0100 : Word)].length ≤ 1) ∧
      State.reset.bench.reply = none ∧ State.reset.bench.readLatches.reply = none := by decide

theorem test_witness_DataWindowReadsAndWrites :
    (let s := State.reset.modBench fun b => { b with output := [7, 8], pointer := 1 };
      s.bench.readLatches.data = none ∧ s.bench.view = none ∧ s.bench.output[s.bench.pointer.toNat]? = some 8) ∧
      (let s := State.reset.modBench fun b => { b with output := [7, 8], pointer := 2 };
        s.bench.view = none ∧ s.bench.output.length ≤ s.bench.pointer.toNat) ∧
      (let s := (State.reset.modBench fun b => { b with view := some 2, pointer := 1023 }).modSlot 2 fun _ =>
          ⟨.pinned, false, some ⟨.n0, 0, 4, .drive⟩, List.replicate 1024 (-5)⟩;
        s.bench.view = some 2 ∧ (s.slot 2).descriptor = some ⟨.n0, 0, 4, .drive⟩ ∧ (s.slot 2).samples.length = 256 * 4 ∧
          (s.slot 2).samples[s.bench.pointer.toNat]? = some (-5) ∧ 256 * 4 ≤ (1024 : BitVec 13).toNat) ∧
      State.reset.bench.writeLatches.data = none ∧ WordMem.wf State.reset.bench.intake = true ∧
      (1023 : BitVec 13).toNat < 1024 ∧ 1024 ≤ (1024 : BitVec 13).toNat := by decide +kernel

/-- R177: address 4 is the flags window in 16-bit mode; in 8-bit mode 3 is the reply window's high byte and 4 the data window's low
byte; 5 and 10 name nothing. -/
theorem test_window_addresses :
    windowOfAddress true 4 = some .flags ∧ windowOfAddress true 5 = none ∧ byteAccessAt 3 .read = some ⟨.reply, .high, .read⟩ ∧
      byteAccessAt 4 (.write 7) = some ⟨.data, .low, .write 7⟩ ∧ byteAccessAt 10 .read = none := by decide

theorem test_witness_ByteHalvesMakeOneAccess :
    (let b := Bench.afterReset false;
      b.width16 = false ∧ b.writeLatches.command = none ∧ b.writeLatches.data = none ∧ b.writeLatches.pointer = none ∧
        b.readLatches.data = none ∧ b.readLatches.reply = none) ∧ Half.low ≠ Half.high := by decide

/-- Profile counters at the first step. -/
def counters (ph : Phase) (ramp dwell hold : Nat) (cap : StepCapture) (run : Nat) : ProfileCounters :=
  ⟨0, 1, ph, 0, ramp, 0, dwell, hold, cap, run, false⟩

theorem test_witness_ControlledStopComesToRest :
    (let s := (driving plan 1 (.searching ⟨0, false, 0, 0⟩)).modChannel .n0 fun ch => { ch with stopping := true, setPoint := 4 };
      s.interlock.zero = none ∧ s.captureUnit .n0 = .idle ∧ (s.channel .n0).stopping = true ∧ (s.channel .n0).enable = true ∧
        3 < (4 : Int).natAbs ∧ (s.channel .n0).setPoint = 4) ∧
      (let c := counters .dwell 2 0 1 .ended 0;
        let s := (driving plan 2 (.profiling c)).modChannel .n0 fun ch => { ch with stopping := true, setPoint := -3 };
        s.interlock.zero = none ∧ s.captureUnit .n0 = .idle ∧ (s.channel .n0).stopping = true ∧ (s.channel .n0).enable = true ∧
          (s.channel .n0).activity = .profiling c ∧ (-3 : Int).natAbs ≤ 3 ∧ 3 < (-4 : Int).natAbs ∧
          (s.dossier .n0).state = .testing ∧ s.planOf .n0 = some plan ∧ (s.dossier .n0).stageIndex = some 2 ∧
          plan.stages[2]? = some .profile ∧ 2 + 1 = plan.stages.length) ∧
      (let s := ((driving plan 1 .idle).modChannel .n0 fun ch => { ch with stopping := true, setPoint := -3 }).modDossier .n0
          fun d => { d with state := .stopping, stopped := true };
        (s.channel .n0).setPoint.natAbs ≤ 3 ∧ (s.channel .n0).activity = .idle ∧ (s.dossier .n0).state = .stopping ∧
          (s.dossier .n0).stopped = true ∧ (s.circuit .n0 .c0).state = .idle ∧ (s.circuit .n0 .c1).state = .idle) ∧
      (let s := (driving plan 1 (.creeping ⟨0, false, 0, 0⟩)).modChannel .n0 fun ch => { ch with stopping := true, setPoint := 3 };
        (s.dossier .n0).state = .testing ∧ s.planOf .n0 = some plan ∧ (s.dossier .n0).stageIndex = some 1 ∧
          plan.stages[1]? = some .reference ∧ (s.channel .n0).activity = .creeping ⟨0, false, 0, 0⟩ ∧
          (s.channel .n0).setPoint.natAbs ≤ 3 ∧ plan.stages[2]? = some .profile ∧ 2 ∉ (s.dossier .n0).skipped ∧
          s.classOf .n0 ≠ 7 ∧ plan.steps = ⟨100, 2, 1, 400, some 0, .drive⟩ :: [] ∧
          (s.modMonitor .n0 fun m => { m with tempClass := 7 }).classOf .n0 = 7 ∧ 1 + 2 = plan.stages.length) := by decide

theorem test_witness_PermitWaitCountsAndEnds :
    (let s := (driving plan 0 (.permitWait 2498)).modChannel .n0 fun ch => { ch with enable := false, setPoint := 0 };
      s.stageIs .n0 plan 0 .engage ∧ s.quiet .n0 ∧ (s.channel .n0).activity = .permitWait 2498 ∧
        (s.channel .n0).enable = false ∧ (s.channel .n0).setPoint = 0 ∧ s.interlock.permitLive = false ∧ 2498 + 1 < 2500) ∧
      (let p := { plan with stages := [.engage] };
        let s := (driving p 0 (.permitWait 2499)).modChannel .n0 fun ch => { ch with enable := false, setPoint := 0 };
        s.stageIs .n0 p 0 .engage ∧ s.quiet .n0 ∧ 2499 + 1 = 2500 ∧ 0 + 1 = p.stages.length) ∧
      (let s := ((driving plan 0 (.permitWait 2499)).modChannel .n0 fun ch => { ch with enable := false, setPoint := 0 }).modInterlock
          fun i => { i with permitLive := true };
        s.stageIs .n0 plan 0 .engage ∧ s.quiet .n0 ∧ s.interlock.permitLive = true ∧ s.interlock.guardOpen.get .n0 = false ∧
          s.interlock.driveFault.get .n0 = false ∧ s.classOf .n0 ≠ 7 ∧
          attemptsOf plan.attemptsMask = .forwardCreep :: [.reverseCreep, .oscillation] ∧
          (s.torqueAt ⟨.n0, 20, false⟩).natAbs ≤ plan.jamTorque) := by
  simp only [State.stageIs, State.quiet, State.torqueAt]; decide

/-- Nest 0 at rest in the last stage of a list, the permit live, so that an update asks for the enable; and the same with each
condition of R62 failing. -/
def asking (p : Plan) (i : Nat) (a : Activity) : State :=
  ((driving p i a).modChannel .n0 fun ch => { ch with enable := false, setPoint := 0 }).modInterlock fun i =>
    { i with permitLive := true }

theorem test_witness_enableRefused (p : Plan) (i : Nat) (a : Activity) :
    ((asking p i a).modInterlock fun i => { i with guardOpen := ⟨true, false⟩ }).interlock.guardOpen.get .n0 = true ∧
      ((asking p i a).modInterlock fun i => { i with driveFault := ⟨true, false⟩ }).interlock.driveFault.get .n0 = true ∧
      ((asking p i a).modMonitor .n0 fun m => { m with tempClass := 7 }).classOf .n0 = 7 ∧
      ((asking p i a).modInterlock fun i => { i with permitLive := false }).interlock.permitLive = false ∧
      (asking p i a).enableAllowed .n0 ∧ (asking p i a).classOf .n0 ≠ 7 ∧ (asking p i a).listSound .n0 :=
  ⟨rfl, rfl, rfl, rfl, ⟨rfl, rfl, rfl⟩, (by decide : 3 ≠ 7), fun _ h => nomatch h⟩

theorem test_witness_PermitWaitCountsAndEnds_refused :
    (let p := { plan with stages := [.engage] };
      let s := asking p 0 (.permitWait 7);
      s.stageIs .n0 p 0 .engage ∧ s.quiet .n0 ∧ (s.channel .n0).activity = .permitWait 7 ∧ (s.channel .n0).enable = false ∧
        s.interlock.permitLive = true ∧ attemptsOf p.attemptsMask = .forwardCreep :: [.reverseCreep, .oscillation] ∧
        0 + 1 = p.stages.length) := by
  simp only [State.stageIs, State.quiet]; decide

theorem test_witness_EngageAttemptSucceedsOrIsAbandoned :
    (let s := driving plan 0 (.engaging ⟨.oscillation, true, 1499, 0, 2, false⟩);
      s.stageIs .n0 plan 0 .engage ∧ s.quiet .n0 ∧ (s.channel .n0).enable = true ∧ s.classOf .n0 ≠ 7 ∧
        (s.channel .n0).activity = .engaging ⟨.oscillation, true, 1499, 0, 2, false⟩ ∧
        plan.jamTorque < (s.torqueAt ⟨.n0, -21, false⟩).natAbs ∧ (s.torqueAt ⟨.n0, 20, false⟩).natAbs ≤ plan.jamTorque) ∧
      (let s := driving plan 0 (.engaging ⟨.forwardCreep, true, 9, 9, 0, false⟩);
        s.stageIs .n0 plan 0 .engage ∧ s.quiet .n0 ∧ (⟨.n0, 0, true⟩ : UpdateInput).seated = true) ∧
      (let s := driving plan 0 (.engaging ⟨.reverseCreep, true, 1498, 8, 0, false⟩);
        s.stageIs .n0 plan 0 .engage ∧ s.quiet .n0 ∧ 8 < 9 ∧ 1498 + 1 < 1500 ∧ 3 < (s.channel .n0).setPoint.natAbs ∧
          (s.modMonitor .n0 fun m => { m with tempClass := 7 }).classOf .n0 = 7) ∧
      (let p := { plan with stages := [.engage] };
        let s := asking p 0 (.engaging ⟨.oscillation, false, 0, 0, 0, false⟩);
        s.stageIs .n0 p 0 .engage ∧ s.quiet .n0 ∧ (s.channel .n0).activity = .engaging ⟨.oscillation, false, 0, 0, 0, false⟩ ∧
          (s.channel .n0).enable = false ∧ (s.channel .n0).setPoint = 0 ∧ 0 + 1 = p.stages.length) := by
  simp only [State.stageIs, State.quiet, State.torqueAt]; decide

theorem test_witness_AbandonedAttemptIsFollowed :
    (let s := (driving plan 0 (.engaging ⟨.forwardCreep, true, 3, 0, 3, false⟩)).modChannel .n0 fun ch =>
        { ch with stopping := true, setPoint := 3 };
      s.stageIs .n0 plan 0 .engage ∧ s.interlock.zero = none ∧ s.captureUnit .n0 = .idle ∧ (s.channel .n0).stopping = true ∧
        (s.channel .n0).engaged = false ∧ (s.channel .n0).setPoint.natAbs ≤ 3 ∧
        Attempt.forwardCreep.number < Attempt.reverseCreep.number ∧ Attempt.reverseCreep ∈ attemptsOf plan.attemptsMask ∧
        (∀ b ∈ attemptsOf plan.attemptsMask, b.number < Attempt.reverseCreep.number → b.number ≤ Attempt.forwardCreep.number)) ∧
      (let p := { plan with stages := [.engage] };
        let s := (driving p 0 (.engaging ⟨.oscillation, true, 3, 0, 3, false⟩)).modChannel .n0 fun ch =>
          { ch with stopping := true, setPoint := -1 };
        s.stageIs .n0 p 0 .engage ∧ (∀ b ∈ attemptsOf p.attemptsMask, b.number ≤ Attempt.oscillation.number) ∧
          0 + 1 = p.stages.length) := by
  simp only [State.stageIs]; decide

theorem test_witness_TorqueTripsStopTheStage :
    (let s := (driving plan 1 (.searching ⟨0, false, 0, 2⟩)).modChannel .n0 fun ch => { ch with setPoint := 4 };
      s.stageIs .n0 plan 1 .reference ∧ s.quiet .n0 ∧ (s.channel .n0).enable = true ∧ s.classOf .n0 ≠ 7 ∧
        3 < (s.channel .n0).setPoint.natAbs ∧ (s.channel .n0).activity = .searching ⟨0, false, 0, 2⟩ ∧
        plan.jamTorque < (s.torqueAt ⟨.n0, 21, false⟩).natAbs) ∧
      (let s := (driving plan 2 (.profiling (counters .ramp 1 0 0 .none 2))).modMonitor .n0 fun m => { m with tempClass := 6 };
        s.stageIs .n0 plan 2 .profile ∧ s.quiet .n0 ∧ s.classOf .n0 = 6 ∧
          plan.steps[0]? = some ⟨100, 2, 1, 400, some 0, .drive⟩ ∧ 400 * 3 / 4 < (s.torqueAt ⟨.n0, 301, false⟩).natAbs) ∧
      (let s := driving plan 2 (.profiling (counters .dwell 2 0 0 .none 2));
        s.stageIs .n0 plan 2 .profile ∧ s.quiet .n0 ∧ s.classOf .n0 ≠ 6 ∧ 400 < (s.torqueAt ⟨.n0, -401, false⟩).natAbs ∧
          (s.modMonitor .n0 fun m => { m with tempClass := 7 }).classOf .n0 = 7) := by
  simp only [State.stageIs, State.quiet, State.torqueAt]; decide

/-- R73, R75, R76: updates of a REFERENCE stage in its three phases, at set-points where their clauses turn. -/
theorem test_witness_TorqueTripsStopTheStage_setPoints :
    (let s := (driving plan 1 (.searching ⟨0, false, 0, 1⟩)).modChannel .n0 fun ch => { ch with setPoint := 30 };
      s.stageIs .n0 plan 1 .reference ∧ s.quiet .n0 ∧ (s.channel .n0).enable = true ∧ s.classOf .n0 ≠ 7 ∧
        (s.channel .n0).activity = .searching ⟨0, false, 0, 1⟩ ∧ (30 : Int) ≤ plan.searchSpeed ∧
        (30 : Int) = min (plan.searchSpeed : Int) (30 + 3) ∧ plan.jamTorque < (s.torqueAt ⟨.n0, 21, false⟩).natAbs ∧ 1 + 1 < 3) ∧
      (let s := (driving plan 1 (.reversing ⟨9, false, 0, 0⟩)).modChannel .n0 fun ch => { ch with setPoint := 0 };
        s.stageIs .n0 plan 1 .reference ∧ s.quiet .n0 ∧ (s.channel .n0).activity = .reversing ⟨9, false, 0, 0⟩ ∧ (-10 : Int) ≤ 0 ∧
          (-3 : Int) = max (-10) (0 - 3)) ∧
      (let s := (driving plan 1 (.creeping ⟨9, true, 0, 0⟩)).modChannel .n0 fun ch => { ch with setPoint := -9 };
        s.stageIs .n0 plan 1 .reference ∧ s.quiet .n0 ∧ (s.channel .n0).activity = .creeping ⟨9, true, 0, 0⟩ ∧
          (-10 : Int) = max (-10) (-9 - 3)) ∧
      (let p := { plan with stages := [.engage, .reference] };
        let s := asking p 1 (.searching ⟨0, false, 0, 0⟩);
        s.stageIs .n0 p 1 .reference ∧ s.quiet .n0 ∧ (s.channel .n0).activity = .searching ⟨0, false, 0, 0⟩ ∧
          (s.channel .n0).enable = false ∧ (s.channel .n0).setPoint = 0 ∧ 3 ≤ p.searchSpeed ∧ 1 + 1 = p.stages.length) := by
  simp only [State.stageIs, State.quiet, State.torqueAt]; decide

/-- R88, R94: the first enable of a PROFILE stage, a computed value of 0, and its completion update. -/
theorem test_witness_RampUpdatesReachTheTarget_enable :
    (let s := asking plan 2 (.profiling (counters .ramp 0 0 0 .none 0));
      s.stageIs .n0 plan 2 .profile ∧ s.quiet .n0 ∧ (s.channel .n0).activity = .profiling (counters .ramp 0 0 0 .none 0) ∧
        (s.channel .n0).enable = false ∧ (s.channel .n0).setPoint = 0 ∧
        plan.steps[0]? = some ⟨100, 2, 1, 400, some 0, .drive⟩ ∧ 0 < 2 ∧ (50 : Int) = 0 + ((100 - 0 : Int) * (0 + 1)).tdiv 2 ∧
        2 + 1 = plan.stages.length ∧ (counters .ramp 0 0 0 .none 0).stepCapture = .none) ∧
      (let p := { plan with steps := [⟨1, 2, 1, 400, none, .drive⟩] };
        let s := asking p 2 (.profiling (counters .ramp 0 0 0 .none 0));
        s.stageIs .n0 p 2 .profile ∧ s.quiet .n0 ∧ (0 : Int) = 0 + ((1 - 0 : Int) * (0 + 1)).tdiv 2) ∧
      (let c := { counters .dwell 2 1 0 .ended 0 with endPending := true };
        let s := driving plan 2 (.profiling c);
        s.stageIs .n0 plan 2 .profile ∧ s.quiet .n0 ∧ (s.channel .n0).activity = .profiling c ∧ c.endPending = true ∧
          (s.channel .n0).enable = true ∧ 3 < (s.channel .n0).setPoint.natAbs ∧
          ((s.modChannel .n0 fun ch => { ch with setPoint := -3 }).channel .n0).setPoint.natAbs ≤ 3 ∧
          ((asking plan 2 (.profiling c)).channel .n0).setPoint = 0) := by
  simp only [State.stageIs, State.quiet]; decide

theorem test_witness_RampUpdatesReachTheTarget :
    (let s := driving plan 2 (.profiling (counters .ramp 1 0 0 .none 0));
      s.stageIs .n0 plan 2 .profile ∧ s.quiet .n0 ∧ (s.channel .n0).activity = .profiling (counters .ramp 1 0 0 .none 0) ∧
        (s.channel .n0).enable = true ∧ s.classOf .n0 ≤ 6 ∧ plan.steps[0]? = some ⟨100, 2, 1, 400, some 0, .drive⟩ ∧ 1 < 2 ∧
        (-3000 : Int) ≤ 100 ∧ (s.torqueAt ⟨.n0, 400, false⟩).natAbs ≤ 400) ∧
      (let p := { plan with steps := [⟨-3000, 2, 1, 400, none, .coast⟩] };
        let s := ((driving p 2 (.profiling (counters .ramp 1 0 0 .none 0))).modMonitor .n0 fun m =>
          { m with tempClass := 6 }).modChannel .n0 fun ch => { ch with setPoint := -2004 };
        s.stageIs .n0 p 2 .profile ∧ s.quiet .n0 ∧ s.classOf .n0 = 6 ∧ (s.channel .n0).setPoint < -2003 ∧
          (s.torqueAt ⟨.n0, 300, false⟩).natAbs ≤ 400 * 3 / 4 ∧ 0 + ((-3000 - 0 : Int) * (1 + 1)).tdiv 2 < -2000) := by
  simp only [State.stageIs, State.quiet, State.torqueAt]; decide

theorem test_witness_DwellEndsAndHoldLimit :
    (let s := driving plan 2 (.profiling (counters .dwell 2 0 5 .ended 0));
      s.stageIs .n0 plan 2 .profile ∧ s.interlock.zero = none ∧ (s.channel .n0).stopping = false ∧
        (s.channel .n0).enable = true ∧ s.classOf .n0 ≤ 5 ∧ plan.steps[0]? = some ⟨100, 2, 1, 400, some 0, .drive⟩ ∧ 0 < 1 ∧
        (s.torqueAt ⟨.n0, 400, false⟩).natAbs ≤ 400 ∧ s.captureUnit .n0 = .idle ∧ StepCapture.ended ≠ .active ∧ 0 < 5 ∧
        0 + 1 = 1) ∧
      (let k : Capture := ⟨0, 4, 2, [], .drive, none, 0, 0, false⟩;
        let s := (driving plan 2 (.profiling (counters .dwell 2 0 999 .active 0))).setUnit .n0 (.waitingSlot k);
        s.stageIs .n0 plan 2 .profile ∧ s.captureUnit .n0 = .waitingSlot k ∧ (s.dossier .n0).captures = []) := by
  simp only [State.stageIs, State.torqueAt]; decide

/-- R126, R127: a dwell start that requests a capture, with a FREE slot and with none; a look for a slot; R130: the hold limit, a
withdrawal and a stop of a SAMPLING capture. -/
theorem test_witness_DwellEndsAndHoldLimit_capture :
    (let s := driving plan 2 (.profiling (counters .ramp 2 0 0 .none 0));
      s.stageIs .n0 plan 2 .profile ∧ s.interlock.zero = none ∧ (s.channel .n0).stopping = false ∧ s.classOf .n0 ≤ 5 ∧
        plan.steps[0]? = some ⟨100, 2, 1, 400, some 0, .drive⟩ ∧ 2 ≤ (counters .ramp 2 0 0 .none 0).rampCount ∧ 1 ≤ 1 ∧
        plan.captures[0]? = some ⟨4, 2, 1, [⟨1, 1, 1⟩], []⟩ ∧ s.captureUnit .n0 = .idle ∧
        ((s.modChannel .n0 fun ch => { ch with reference := some 0 }).channel .n0).reference ≠ none ∧
        (s.slot 0).state = .free) ∧
      (let s := { State.reset with slots := Vector.replicate 4 ⟨.ready, false, none, []⟩ };
        ∀ i : Fin 4, (s.slot i).state ≠ .free) ∧
      (let k : Capture := ⟨0, 4, 2, [], .drive, none, 0, 0, false⟩;
        let s := ((driving plan 2 (.profiling (counters .dwell 2 0 998 .active 0))).setUnit .n0 (.waitingSlot k)).modSlot 0 fun l =>
          { l with state := .ready };
        s.stageIs .n0 plan 2 .profile ∧ s.captureUnit .n0 = .waitingSlot k ∧ 998 < 999 ∧ (s.slot 1).state = .free ∧
          (s.slot 0).state ≠ .free) ∧
      (let k : Capture := ⟨0, 4, 2, [], .drive, none, 0, 0, false⟩;
        let s := ((driving plan 2 (.profiling (counters .dwell 2 0 999 .active 0))).setUnit .n0 (.sampling k ⟨3, 0, []⟩)).modDossier .n0
          fun d => { d with captures := [CaptureRecord.fresh 0 ⟨4, 2, 1, [⟨1, 1, 1⟩], []⟩] };
        s.captureUnit .n0 = .sampling k ⟨3, 0, []⟩ ∧
          (∀ r ∈ (s.dossier .n0).captures, r.number = k.number → r.blocksRequested = 0 ∧ r.given = none) ∧
          3 < (s.channel .n0).setPoint.natAbs ∧ (s.modMonitor .n0 fun m => { m with tempClass := 7 }).classOf .n0 = 7 ∧
          (s.dossier .n0).state = .testing) ∧
      ∀ j : Nat, 2 < j → plan.stages[j]? ≠ some .profile := by
  refine ⟨?_, by decide, ?_, by decide, fun j h => ?_⟩
  · simp only [State.stageIs]; decide
  · simp only [State.stageIs]; decide
  · rw [List.getElem?_eq_none (by exact h)]; decide

theorem test_witness_ReferenceLimitsFailTheStage :
    (let s := driving plan 1 (.searching ⟨12287, false, 0, 0⟩);
      s.stageIs .n0 plan 1 .reference ∧ s.quiet .n0 ∧ (s.channel .n0).enable = true ∧
        (s.channel .n0).activity = .searching ⟨12287, false, 0, 0⟩) ∧
      (let s := driving plan 1 (.reversing ⟨12287, true, 0, 0⟩);
        s.stageIs .n0 plan 1 .reference ∧ s.quiet .n0 ∧ (s.channel .n0).activity = .reversing ⟨12287, true, 0, 0⟩) ∧
      (let s := driving plan 1 (.creeping ⟨12287, false, 0, 0⟩);
        s.stageIs .n0 plan 1 .reference ∧ s.quiet .n0 ∧ (12287 : Int) = 4096 * (plan.indexCount + 1) - 1) ∧
      (let s := driving plan 1 (.creeping ⟨12287, true, 0, 0⟩);
        s.stageIs .n0 plan 1 .reference ∧ s.quiet .n0) := by
  simp only [State.stageIs, State.quiet]; decide

theorem test_witness_EncoderChangeCountsOrFaults :
    State.reset.captureUnit .n0 = .idle ∧ (State.reset.channel .n0).activity = .idle ∧
      (let s := driving plan 1 (.searching ⟨12286, false, 0, 0⟩);
        s.captureUnit .n0 = .idle ∧ (s.channel .n0).activity = .searching ⟨12286, false, 0, 0⟩ ∧ (12286 : Int) < 12287 ∧
          (s.dossier .n0).state = .testing ∧ (s.channel .n0).activity ≠ .idle ∧ (s.channel .n0).enable = true ∧
          FaultCause.encoderFault ∉ (s.faultList .n0).causes ∧ (s.faultList .n0).causes.length < 4) := by decide

theorem test_witness_MarkEdgesAndIndexPulsesAct :
    (let s := driving plan 1 (.searching ⟨5, false, 0, 0⟩);
      s.planOf .n0 = some plan ∧ (s.channel .n0).stopping = false ∧ plan.refMode = .a ∧
        (s.channel .n0).activity = .searching ⟨5, false, 0, 0⟩ ∧ ({ plan with refMode := .b } : Plan).refMode = .b) ∧
      (let s := (driving plan 1 (.reversing ⟨5, true, 0, 0⟩)).modChannel .n0 fun ch => { ch with setPoint := -1 };
        (s.channel .n0).activity = .reversing ⟨5, true, 0, 0⟩ ∧ (s.channel .n0).setPoint < 0) ∧
      0 ≤ ((driving plan 1 (.reversing ⟨5, false, 0, 0⟩)).channel .n0).setPoint ∧
      (let s := State.reset.modChannel .n0 fun ch => { ch with reference := some 4095, angle := 1 };
        (s.channel .n0).reference = some 4095 ∧ ((s.channel .n0).angle - 4095).toNat ≤ 2) ∧
      (let s := State.reset.modChannel .n0 fun ch => { ch with reference := some 4095, angle := 2 };
        2 < ((s.channel .n0).angle - 4095).toNat ∧ 2 < (4095 - (s.channel .n0).angle).toNat) ∧
      (let s := driving plan 1 (.creeping ⟨0, false, 0, 0⟩);
        (s.channel .n0).reference = none ∧ (s.channel .n0).stopping = false ∧ (s.channel .n0).enable = true ∧
          (s.channel .n0).activity = .creeping ⟨0, false, 0, 0⟩ ∧ 0 + 1 < plan.indexCount ∧ 1 + 1 = plan.indexCount ∧
          ({ plan with indexCount := 0 } : Plan).indexCount = 0) := by decide

theorem test_witness_SamplePointWritesTheBlock :
    (let c : Capture := ⟨0, 4, 2, [⟨4080, 16, 9⟩], .drive, none, 0, 0, true⟩;
      let b : BlockInProgress := ⟨0, 0, [0]⟩;
      let s := (((driving plan 2 (.profiling (counters .dwell 2 0 1 .active 0))).setUnit .n0 (.sampling c b)).modChannel .n0
        fun ch => { ch with angle := 4095 }).setVibration .n0 (-32768);
      s.captureUnit .n0 = .sampling c b ∧
        (s.channel .n0).activity = .profiling (counters .dwell 2 0 1 .active 0) ∧
        ((s.channel .n0).angle + 1).toNat % 16 = 0 ∧ s.vibration.get .n0 = -32768 ∧ c.windows.length = b.peaks.length ∧
        (∀ w ∈ c.windows, w.start ≠ w.stop) ∧ (s.slot 0).samples.length + 1 < 256 * 4) ∧
      (let c : Capture := ⟨0, 4, 2, [], .drive, some .reverse, 0, 1, false⟩;
        c.direction = some .reverse ∧ Direction.reverse ≠ .forward ∧ c.restarts < 2 ∧ 0 + 1 < c.blocks) ∧
      (let s := ({ State.reset with slots := Vector.replicate 4 ⟨.filling, false, none, List.replicate 1023 5⟩ } : State).modEngine
          fun e => { e with current := some ⟨1, .n0, 0, 4, .drive, none⟩ };
        (s.slot 0).samples.length + 1 = 256 * 4 ∧ (s.slot 0).samples ≠ [] ∧ (s.slot 3).state ≠ .free ∧
          s.engine.current ≠ none ∧ ((s.modSlot 2 fun l => { l with state := .free }).slot 2).state = .free) ∧
      (State.reset.engine.current = none ∧ State.reset.engine.queue = [] ∧
        (⟨0, 4, 2, [], .drive, none, 1, 2, false⟩ : Capture).blocks ≤ 1 + 1 ∧
        (⟨0, 4, 2, [], .drive, none, 1, 2, false⟩ : Capture).restarts = 2) := by decide +kernel

/-- R134: an encoder fault during a capture with windows. -/
theorem test_witness_SamplePointWritesTheBlock_fault :
    (let c : Capture := ⟨0, 4, 2, [⟨4080, 16, 9⟩], .drive, none, 0, 0, true⟩;
      let b : BlockInProgress := ⟨0, 0, [0]⟩;
      let s := ((driving plan 2 (.profiling (counters .dwell 2 0 1 .active 0))).setUnit .n0 (.sampling c b)).modDossier .n0
        fun d => { d with captures := [CaptureRecord.fresh 0 ⟨4, 2, 1, [⟨1, 1, 1⟩], []⟩] };
      s.stageIs .n0 plan 2 .profile ∧ s.captureUnit .n0 = .sampling c b ∧
        (s.channel .n0).activity = .profiling (counters .dwell 2 0 1 .active 0) ∧ (s.channel .n0).enable = true ∧
        c.windows ≠ [] ∧ (∀ r ∈ (s.dossier .n0).captures, r.number = c.number → r.blocksRequested = 0 ∧ r.given = none)) := by
  simp only [State.stageIs]; decide

theorem test_witness_PressureSampleFillsOrIdles :
    pressureInRange ⟨.n0, .c0, -2000⟩ ∧ pressureInRange ⟨.n0, .c0, 210000⟩ ∧ State.reset.interlock.zero = none ∧
      (State.reset.circuit .n0 .c0).state = .idle ∧
      (let s := (leaking .filling 0).modArbiter fun _ => ⟨some ⟨.n0, .c0⟩, [], false⟩;
        s.interlock.zero = none ∧ s.leakSetOf .n0 .c0 = some leakPlan.leakSet0 ∧
          (leakPlan.leakSet0.fillTarget : Int) ≤ s.pressureAt ⟨.n0, .c0, 5000⟩ ∧ s.arbiter.holder = some ⟨.n0, .c0⟩ ∧
          ⟨.n0, .c0⟩ ∉ s.arbiter.waiting ∧ (s.dossier .n0).state = .testing ∧ (s.circuit .n0 .c0).resultGiven = false ∧
          s.leakStage .n0 = some ⟨⟨true, true⟩, .set0, none⟩ ∧ ChamberSet.has ⟨true, true⟩ .c0 = true) ∧
      (let s := ((leaking .filling 0).modArbiter fun _ => ⟨some ⟨.n0, .c0⟩, [⟨.n1, .c0⟩], false⟩);
        s.arbiter.waiting = ⟨.n1, .c0⟩ :: [] ∧ ⟨.n0, .c0⟩ ∉ s.arbiter.waiting) ∧
      (let s := (leaking .filling 0).setLeakStage .n0 (some ⟨⟨true, true⟩, .set0, some .c1⟩);
        s.leakStage .n0 = some ⟨⟨true, true⟩, .set0, some .c1⟩ ∧ Chamber.c1 = Chamber.c0.other) := by
  simp only [pressureInRange, State.pressureAt]; decide

theorem test_witness_LeakTimeLimitsAct :
    (let s := (leaking .waitingAir 2999).modArbiter fun _ => ⟨some ⟨.n1, .c0⟩, [⟨.n0, .c0⟩], false⟩;
      (s.circuit .n0 .c0).state = .waitingAir ∧ (s.dossier .n0).state = .testing ∧
        s.leakStage .n0 = some ⟨⟨true, true⟩, .set0, none⟩ ∧ (s.circuit .n0 .c0).resultGiven = false ∧
        (s.circuit .n0 .c1).resultGiven = false ∧ (∀ r ∈ (s.dossier .n0).leaks, r.chamber = .c0 → r.given = none) ∧
        s.arbiter.holder ≠ none ∧ s.arbiter.holder ≠ some ⟨.n0, .c0⟩ ∧ (s.circuit .n0 .c0).count = 2999) ∧
      (let s := (leaking .filling 9).modArbiter fun _ => ⟨some ⟨.n0, .c0⟩, [], false⟩;
        s.pressureAt ⟨.n0, .c0, 4999⟩ < leakPlan.leakSet0.fillTarget ∧
          (s.circuit .n0 .c0).count + 1 = 10 * leakPlan.leakSet0.fillTimeout ∧ s.arbiter.holder = some ⟨.n0, .c0⟩) ∧
      (let s := leaking .venting 999;
        500 ≤ s.pressureAt ⟨.n0, .c0, 500⟩ ∧ s.pressureAt ⟨.n0, .c0, 499⟩ < 500 ∧ (s.circuit .n0 .c0).count = 999 ∧
          (s.circuit .n0 .c0).ventReported = false ∧ FaultCause.ventFail ∉ (s.faultList .n0).causes ∧
          s.arbiter.waiting = [] ∧ ChamberSet.has ⟨true, true⟩ .c0 = true) := by
  simp only [State.pressureAt]; decide

/-- R108, R118: a circuit's IDLE that ends a stage, the last of its list and one before ENGAGE, and that completes a STOPPING dossier. -/
theorem test_witness_LeakTimeLimitsAct_idle :
    (let s := (leaking .venting 5).modCircuit .n0 .c0 fun k => { k with resultGiven := true };
      let s := s.modCircuit .n0 .c1 fun k => { k with resultGiven := true };
      s.interlock.zero = none ∧ (s.circuit .n0 .c0).state = .venting ∧ s.pressureAt ⟨.n0, .c0, 499⟩ < 500 ∧
        (s.circuit .n0 .c1).state = .idle ∧ s.leakStage .n0 = some ⟨⟨true, true⟩, .set0, none⟩ ∧
        (s.circuit .n0 .c0).resultGiven = true ∧ (s.circuit .n0 .c1).resultGiven = true ∧ s.arbiter.waiting = [] ∧
        s.stageIs .n0 leakPlan 0 (.leak ⟨true, true⟩ .set0) ∧ 0 + 1 = leakPlan.stages.length ∧ s.engine.queue = [] ∧
        s.engine.current = none) ∧
      (let p := { leakPlan with stages := [.leak ⟨true, true⟩ .set0, .engage] };
        p.stages[0 + 1]? = some .engage ∧ 0 + 1 ∉ ((leaking .venting 5).dossier .n0).skipped ∧
          attemptsOf p.attemptsMask = .forwardCreep :: [.reverseCreep, .oscillation]) ∧
      (let s := ((leaking .venting 5).setLeakStage .n0 none).modDossier .n0 fun d => { d with state := .stopping, stopped := true };
        (s.circuit .n0 .c0).state = .venting ∧ (s.dossier .n0).state = .stopping ∧ s.leakStage .n0 = none ∧
          s.arbiter.waiting = [] ∧ (s.circuit .n0 .c1).state = .idle ∧ (s.channel .n0).enable = false ∧
          (s.channel .n0).setPoint = 0 ∧ (s.dossier .n0).stopped = true ∧
          ((s.modCircuit .n0 .c1 fun k => { k with state := .venting }).circuit .n0 .c1).state ≠ .idle) := by
  simp only [State.pressureAt, State.stageIs]; decide

/-- R117, R165: a sample out of range for a circuit in WAITING_AIR, and one for a circuit at its vent limit. -/
theorem test_witness_LeakTimeLimitsAct_sensor :
    (let s := (leaking .waitingAir 5).modArbiter fun _ => ⟨none, [⟨.n0, .c0⟩], true⟩;
      s.interlock.zero = none ∧ ¬ pressureInRange ⟨.n0, .c0, 210001⟩ ∧ (s.circuit .n0 .c0).state = .waitingAir ∧
        s.measures .n0 .c0 ∧ s.leakIsPending .n0 .c0 ∧ s.listSound .n0 ∧
        (∃ r ∈ (s.dossier .n0).leaks, r.chamber = .c0) ∧ FaultCause.sensorPressure ∉ (s.faultList .n0).causes) ∧
      ((leaking .holding 5).circuit .n0 .c0).state = .holding ∧ ((leaking .venting 999).circuit .n0 .c0).count = 999 ∧
      ((leaking .venting 999).circuit .n0 .c0).ventReported = false ∧ ((leaking .venting 999).faultList .n0).causes = [] ∧
      (State.reset.circuit .n0 .c0).state = .idle := by
  refine ⟨⟨rfl, by simp only [pressureInRange]; decide, rfl, ⟨rfl, rfl, _, _, rfl, rfl⟩, ?_, ?_, ?_, by decide⟩, by decide⟩
  · intro r h _; revert h r; decide
  · intro c h
    cases c
    · rfl
    · exact absurd h (by decide)
  · exact ⟨_, .head _, rfl⟩

theorem test_witness_SettlingAndMeasuringEnd :
    (let s := leaking .settling 9;
      s.interlock.zero = none ∧ s.leakSetOf .n0 .c0 = some leakPlan.leakSet0 ∧ s.arbiter.waiting = [] ∧
        (s.circuit .n0 .c0).state = .settling ∧ s.pressureAt ⟨.n0, .c0, 4499⟩ < (5000 * 9 / 10 : Nat) ∧
        (5000 * 9 / 10 : Nat) ≤ s.pressureAt ⟨.n0, .c0, 4500⟩ ∧
        (s.circuit .n0 .c0).count + 1 = 10 * leakPlan.leakSet0.settleTime ∧ 1 ≤ s.classOf .n0 ∧ s.classOf .n0 ≤ 6 ∧
        (s.circuit .n0 .c0).resultGiven = false ∧ (∀ r ∈ (s.dossier .n0).leaks, r.chamber = .c0 → r.given = none)) ∧
      (State.reset.classOf .n0 = 7) ∧
      (let s := (leaking .measuring 99).modCircuit .n0 .c0 fun k => { k with pStart := some 5000, classAtStart := some 3 };
        (s.circuit .n0 .c0).state = .measuring ∧ (s.circuit .n0 .c0).count + 1 = 10 * leakPlan.leakSet0.measureTime ∧
          (s.circuit .n0 .c0).pStart = some 5000 ∧ (s.circuit .n0 .c0).classAtStart = some 3 ∧ s.classOf .n0 = 3 ∧
          leakPlan.leakSet0.compensation.length = 6 ∧ leakPlan.leakSet0.afterMeasure = .autoVent ∧
          (s.modMonitor .n0 fun m => { m with tempClass := 4 }).classOf .n0 ≠ 3 ∧ leakPlan.leakSet1.afterMeasure = .hold ∧
          ChamberSet.has ⟨true, true⟩ Chamber.c0.other = true ∧ (s.circuit .n0 .c1).resultGiven = false) := by
  simp only [State.pressureAt]; decide

theorem test_witness_SupplySampleGrantsTheHead :
    (249999 : Int) < 250000 ∧ State.reset.arbiter.waiting = [] ∧
      (let s := State.reset.modArbiter fun _ => ⟨none, [⟨.n1, .c1⟩, ⟨.n0, .c0⟩], true⟩;
        s.arbiter.holder = none ∧ s.arbiter.waiting = ⟨.n1, .c1⟩ :: [⟨.n0, .c0⟩]) := by decide

theorem test_witness_TemperatureMovesTheClass :
    (let s := State.reset.modMonitor .n0 fun m => { m with tempClass := 7, sampled := true };
      (790 : Int) = max (-600) (min 2000 790) ∧ inBand 790 6 ∧ (s.monitor .n0).sampled = true ∧ (s.monitor .n0).tempClass ≤ 7 ∧
        6 < (s.monitor .n0).tempClass ∧ 790 ≤ downThreshold (s.monitor .n0).tempClass) ∧
      (inBand (-400) 0 ∧ inBand 1500 7 ∧ inBand 49 0 ∧ inBand 50 1) ∧
      ((2000 : Int) = max (-600) (min 2000 2001) ∧ (1500 : Int) < 2000 ∧ (-401 : Int) < -400) := by
  refine ⟨⟨by decide, by unfold inBand; omega, by decide, by decide, by decide, by decide⟩, ?_, by decide⟩
  refine ⟨?_, ?_, ?_, ?_⟩ <;> (unfold inBand; omega)

theorem test_witness_JobCompletionMergesTheBlock :
    (let j : Job := ⟨0, .n0, 0, 4, .drive, some []⟩;
      let r : CaptureRecord := { CaptureRecord.fresh 0 ⟨4, 2, 1, [⟨1, 1, 1⟩], []⟩ with blocksRequested := 1 };
      let s := (withDossier plan fun d => { d with state := .testing, stageIndex := some 2, captures := [r] }).modEngine fun e =>
        { e with current := some j, queue := [⟨1, .n0, 0, 4, .drive, none⟩] };
      s.engine.current = some j ∧ (∀ k ∈ s.engine.queue, k.slot ≠ j.slot) ∧ s.engine.discard = false ∧
        s.captureDef .n0 0 = some ⟨4, 2, 1, [⟨1, 1, 1⟩], []⟩ ∧ r ∈ (s.dossier .n0).captures ∧ r.number = 0 ∧
        ((s.dossier .n0).captures.map CaptureRecord.number).Nodup ∧ r.given = none ∧ (s.dossier .n0).stageIndex ≠ none ∧
        r.lines.length = 1 ∧ r.blocksAnalysed + 1 = r.blocksRequested ∧ s.captureUnit .n0 = .idle) ∧
      (let s := State.reset.modEngine fun e => { e with current := some ⟨0, .n0, 0, 4, .drive, none⟩, discard := true };
        s.engine.discard = true ∧ s.engine.queue = []) := by decide

theorem test_witness_LastJobJudgesTheDossier :
    (let j : Job := ⟨0, .n0, 0, 4, .drive, some []⟩;
      let s := (withDossier plan fun d => { d with state := .testing, leaks := [LeakRecord.fresh .c0] }).modEngine fun e =>
        { e with current := some j, queue := [⟨1, .n1, 0, 4, .drive, none⟩] };
      s.engine.current = some j ∧ s.engine.discard = false ∧ j.owner = .n0 ∧ (∀ k ∈ s.engine.queue, k.owner ≠ .n0) ∧
        (s.dossier .n0).state = .testing ∧ (s.dossier .n0).stageIndex = none ∧ (s.dossier .n0).filingPending = false ∧
        s.planOf .n0 = some plan ∧ (s.dossier .n0).stopped = false ∧ plan.autoFile = false) := by decide

theorem test_witness_OrderAmplitudeIsIntegerRoot :
    (List.replicate 1024 (-32768 : Int)).length = 256 * 4 ∧
      (∀ x ∈ List.replicate 1024 (-32768 : Int), -32768 ≤ x ∧ x ≤ 32767) := by
  refine ⟨List.length_replicate, fun x hx => ?_⟩
  rw [List.eq_of_mem_replicate hx]
  decide

theorem test_witness_StepsKeepDriveWithinBounds :
    (let s := { driving plan 1 (.searching ⟨0, false, 0, 0⟩) with pending := [.estopActivate] };
      (∀ n, (s.channel n).enable = false → (s.channel n).setPoint = 0) ∧
        (∀ n, -3000 ≤ (s.channel n).setPoint ∧ (s.channel n).setPoint ≤ 3000) ∧
        (∀ v : Fin 32, ∀ p ∈ (s.planEntry v).plan, 30 ≤ p.searchSpeed ∧ p.searchSpeed ≤ 300) ∧
        ∃ t, step s = .next t) := by
  refine ⟨fun n => by cases n <;> decide, fun n => by cases n <;> decide, by decide +kernel, _, rfl⟩

theorem test_witness_StepsKeepDriveWithinBounds_ramp :
    (let s := { driving plan 2 (.profiling (counters .ramp 1 0 0 .none 0)) with pending := [.driveUpdate ⟨.n0, 0, false⟩] };
      s.rampSound ∧ ∃ t, step s = .next t) := by
  refine ⟨fun n c h _ => ?_, _, rfl⟩
  cases n <;> cases h
  rfl

theorem test_witness_StepsKeepQueueAndCountsSound :
    (let s := { withDossier plan fun d => { d with state := .opened } with pending := [.release 0] };
      s.reports.reports.length ≤ 16 ∧ s.reports.nextNumber = 1 ∧ s.reports.filingPending = [] ∧
        (∀ v : Fin 32, (s.planEntry v).inUse = s.liveCount v) ∧ (s.dossier .n0).variant = some 0 ∧
        (s.planEntry 0).plan = some plan ∧ ∃ t, step s = .next t) := by
  refine ⟨by decide, by decide, by decide, by decide +kernel, by decide, by decide, _, rfl⟩

/-- Nest 0 fills chamber 0 while nest 1 waits for air. -/
def sharingAir : State :=
  ((({ (leaking .filling 3).modArbiter (fun _ => ⟨some ⟨.n0, .c0⟩, [⟨.n1, .c1⟩], false⟩) with pending := [.estopActivate] }).modDossier
    .n1 fun d => { d with state := .testing, stageIndex := some 0 }).setLeakStage .n1 (some ⟨⟨false, true⟩, .set1, none⟩)).modCircuit
    .n1 .c1 fun k => { k with state := .waitingAir }

theorem test_witness_StepsKeepQueueAndCountsSound_air :
    sharingAir.airSound ∧ sharingAir.stagesSound ∧ sharingAir.faultsSound ∧ ∃ t, step sharingAir = .next t := by
  refine ⟨⟨fun n c => ?_, by decide, fun n c => ?_⟩, fun n => ⟨?_, fun l h => ?_, ?_⟩, fun n => ?_, _, rfl⟩
  · cases n <;> cases c <;> decide
  · cases n <;> cases c <;> decide
  · cases n <;> decide
  · cases n <;> (cases h; exact ⟨by decide, by decide, by decide, fun _ h => nomatch h⟩)
  · cases n <;> (intro h; exact absurd h (by decide))
  · cases n <;> exact ⟨List.nodup_nil, Nat.zero_le _, fun h => nomatch h⟩

/-- A job in progress, one waiting, one PINNED slot. -/
def analysing : State :=
  ((({ State.reset with pending := [.jobComplete] }.modSlot 2 fun l => { l with state := .ready }).modSlot 3 fun l =>
    { l with state := .pinned }).modSlot 0 fun l => { l with state := .analysing, pinMark := true }).modEngine fun _ =>
    ⟨[⟨2, .n1, 0, 4, .coast, none⟩], some ⟨0, .n0, 0, 4, .drive, none⟩, false⟩

theorem test_witness_StepsKeepQueueAndCountsSound_slots :
    analysing.stagesSound ∧ analysing.capturesSound ∧ analysing.slotsSound ∧ ∃ t, step analysing = .next t := by
  refine ⟨fun n => ⟨?_, fun l h => ?_, fun _ _ c => ?_⟩, ⟨fun v p h => ?_, fun n h => ?_⟩,
    ⟨by decide, by decide, fun i => ?_, ?_, fun i => ⟨fun h => ?_, fun h => ?_⟩, fun c c' b b' h => ?_, by decide,
      fun i h => ?_⟩, _, rfl⟩
  · cases n <;> decide
  · cases n <;> cases h
  · cases n <;> cases c <;> rfl
  · have none : ∀ v : Fin 32, (analysing.planEntry v).plan = none := by decide +kernel
    rw [none v] at h
    cases h
  · cases n <;> exact absurd rfl h
  · refine ⟨fun h => ⟨_, rfl, ?_⟩, ?_⟩
    · revert h; revert i; decide
    · rintro ⟨j, hj, rfl⟩; cases hj; rfl
  · decide
  · exact absurd h (by revert i; decide)
  · obtain ⟨n, c, b, h, -⟩ := h; cases n <;> cases h
  · cases h
  · cases h

theorem test_witness_StepsKeepIntakeCanonical :
    (let s := { State.reset with pending := [.dataWindowWrite 5] };
      WordMem.wf s.bench.intake = true ∧ ∃ t, step s = .next t) := ⟨rfl, _, rfl⟩

end Sys2Proof.Tests
end

section
/-! PROOFS. What a request does on a link with no frame in progress, the six checks of ARRIVE in order, and its effect. -/

namespace Sys2Proof.Machine

/-! ### A request on a free link (R184, R186) -/

@[simp] theorem PerLink.set_get {α : Type} (p : PerLink α) (l : Link) : p.set l (p.get l) = p := by cases l <;> rfl

/-- Hunting changes nothing on a free link: its receiver hunts already. -/
theorem State.hunt_of_linkFree {s : State} {l : Link} (h : s.linkFree l) : s.hunt l = s := by
  obtain ⟨-, hrec⟩ := h
  have hlink : { s.links.get l with receiver := .hunting } = s.links.get l := congrArg (LinkState.mk · _) hrec.symm
  simp only [State.hunt, State.modLink]
  rw [hlink, PerLink.set_get]

/-- A request taken on a free link leaves that link replying; the rest is as the request's effect leaves it. -/
theorem frameRow_of_linkFree {s t : State} {l : Link} {kind : Byte} {payload bytes : List Byte} {reply : ReplyCode}
    {eff : State → State × ReplyCode × List Byte} (hfree : s.linkFree l) (hp : payload.length ≤ 1024)
    (heff : eff s = (t, reply, bytes)) (hlinks : t.links = s.links) :
    s.frameRow l kind payload eff = { t with links := s.links.set l (replying kind payload reply bytes) } := by
  have hrec : (s.links.get l).receiver = .hunting := hfree.2
  rw [frameRow_free hfree.1 hp, State.hunt_of_linkFree hfree]
  simp only [State.takeRequest, heff, State.modLink, hlinks, hrec, replying, replyKind]

/-! ### The operands of ARRIVE (R8) -/

/-- A byte names a variant exactly when it is that variant's number. -/
theorem variantOf_eq_some_iff {b : Byte} {v : Fin 32} : variantOf b = some v ↔ b.toNat = v.val := by
  unfold variantOf
  split
  · simp [Fin.ext_iff]
  · simp only [reduceCtorEq, false_iff]
    omega

/-- A byte names no variant exactly when it lies above 31. -/
theorem variantOf_eq_none_iff {b : Byte} : variantOf b = none ↔ 31 < b.toNat := by
  simp only [variantOf, dite_eq_right_iff, reduceCtorEq, imp_false]
  omega

/-- The serials that ARRIVE accepts: 1 to 20 characters, each 0x21 to 0x7E. -/
theorem serialOk_eq_true_iff {serial : List Byte} :
    serialOk serial = true ↔
      1 ≤ serial.length ∧ serial.length ≤ 20 ∧ ∀ c ∈ serial, 0x21 ≤ c.toNat ∧ c.toNat ≤ 0x7E := by
  simp [serialOk, and_assoc]

/-- An empty serial, a serial of more than 20 characters and one with a character outside 0x21 to 0x7E are not accepted. -/
theorem serialOk_eq_false {serial : List Byte}
    (h : serial = [] ∨ 20 < serial.length ∨ ∃ c ∈ serial, c.toNat < 0x21 ∨ 0x7E < c.toNat) : serialOk serial = false := by
  refine Bool.eq_false_iff.mpr fun hok => ?_
  obtain ⟨hmin, hmax, hchars⟩ := serialOk_eq_true_iff.mp hok
  obtain rfl | hlong | ⟨c, hc, hbad⟩ := h
  · exact absurd hmin (by decide)
  · omega
  · have := hchars c hc
    omega

/-- The duplicate check of R8: the other nest's entry holds a dossier with the serial. -/
theorem State.isDuplicate_eq_true_iff {s : State} {n : Nest} {serial : List Byte} :
    s.isDuplicate n serial = true ↔ (s.dossier n.other).state ≠ .vacant ∧ (s.dossier n.other).serial = some serial := by
  simp [State.isDuplicate]

/-! ### The six checks of ARRIVE in order, and its effect (R8, R9) -/

section
variable {b v : Byte} {serial : List Byte} {s : State} {n : Nest} {i : Fin 32}

theorem arriveRequest_badNest (hn : nestOf b = none) : arriveRequest b v serial s = (s, .badNest) := by
  simp only [arriveRequest, withNest, hn]

theorem arriveRequest_badSerial (hn : nestOf b = some n) (hok : serialOk serial = false) :
    arriveRequest b v serial s = (s, .badSerial) := by
  simp [arriveRequest, withNest, hn, hok]

theorem arriveRequest_nestBusy (hn : nestOf b = some n) (hok : serialOk serial = true) (hd : (s.dossier n).state ≠ .vacant) :
    arriveRequest b v serial s = (s, .nestBusy) := by
  simp [arriveRequest, withNest, hn, hok, hd]

theorem arriveRequest_nestFault (hn : nestOf b = some n) (hok : serialOk serial = true) (hd : (s.dossier n).state = .vacant)
    (hf : (s.faultList n).causes ≠ []) : arriveRequest b v serial s = (s, .nestFault) := by
  simp [arriveRequest, withNest, hn, hok, hd, hf]

theorem arriveRequest_noVariant (hn : nestOf b = some n) (hok : serialOk serial = true) (hd : (s.dossier n).state = .vacant)
    (hf : (s.faultList n).causes = []) (hv : variantOf v = none) : arriveRequest b v serial s = (s, .noPlan) := by
  simp [arriveRequest, withNest, hn, hok, hd, hf, hv]

theorem arriveRequest_noPlan (hn : nestOf b = some n) (hok : serialOk serial = true) (hd : (s.dossier n).state = .vacant)
    (hf : (s.faultList n).causes = []) (hv : variantOf v = some i) (hp : (s.planEntry i).plan = none) :
    arriveRequest b v serial s = (s, .noPlan) := by
  simp [arriveRequest, withNest, hn, hok, hd, hf, hv, hp]

theorem arriveRequest_duplicate (hn : nestOf b = some n) (hok : serialOk serial = true) (hd : (s.dossier n).state = .vacant)
    (hf : (s.faultList n).causes = []) (hv : variantOf v = some i) (hp : (s.planEntry i).plan.isSome = true)
    (hdup : s.isDuplicate n serial = true) : arriveRequest b v serial s = (s, .duplicate) := by
  simp [arriveRequest, withNest, hn, hok, hd, hf, hv, Option.isSome_iff_ne_none.mp hp, hdup]

theorem arriveRequest_accepted (hn : nestOf b = some n) (hok : serialOk serial = true) (hd : (s.dossier n).state = .vacant)
    (hf : (s.faultList n).causes = []) (hv : variantOf v = some i) (hp : (s.planEntry i).plan.isSome = true)
    (hdup : s.isDuplicate n serial = false) :
    arriveRequest b v serial s =
      ((s.modDossier n fun _ =>
          Dossier.arrived serial i s.reports.clock (s.reports.reports.any fun r => r.serial = serial)).modPlan i fun e =>
        { e with inUse := e.inUse + 1 }, .accepted) := by
  simp [arriveRequest, withNest, hn, hok, hd, hf, hv, Option.isSome_iff_ne_none.mp hp, hdup]

theorem exec_arrive :
    exec (.arrive b v serial) s =
      .next (s.frameRow .cell 0x10 (b :: v :: serial) (linkRequest (arriveRequest b v serial))) := rfl

/-- ARRIVE on a free link: what its request answers, the cell link replying. -/
theorem exec_arrive_of_linkFree {t : State} {reply : ReplyCode} (hfree : s.linkFree .cell) (hlen : serial.length ≤ 1022)
    (hreq : arriveRequest b v serial s = (t, reply)) (hlinks : t.links = s.links) :
    exec (.arrive b v serial) s =
      .next { t with links := s.links.set .cell (replying 0x10 (b :: v :: serial) reply []) } := by
  have hp : (b :: v :: serial).length ≤ 1024 := by simp only [List.length_cons]; omega
  have heff : linkRequest (arriveRequest b v serial) s = (t, reply, []) := by simp only [linkRequest, hreq]
  rw [exec_arrive, frameRow_of_linkFree hfree hp heff hlinks]

/-- ARRIVE on a free link whose request changes nothing is refused with the request's code. -/
theorem exec_arrive_refused {reply : ReplyCode} (hfree : s.linkFree .cell) (hlen : serial.length ≤ 1022)
    (hreq : arriveRequest b v serial s = (s, reply)) :
    exec (.arrive b v serial) s = .next (s.requestRefused .cell 0x10 (b :: v :: serial) reply) :=
  exec_arrive_of_linkFree hfree hlen hreq rfl

end

/-- Settles O5: each clause is the request's answer for its check, carried to the link's reply. -/
theorem arriveOpensDossier : Obligations.ArriveOpensDossier := by
  intro b v serial s hfree hlen
  refine ⟨fun hn => exec_arrive_refused hfree hlen (arriveRequest_badNest hn), fun n hn => ⟨fun hbad => ?badSerial, ?checked⟩⟩
  case badSerial => exact exec_arrive_refused hfree hlen (arriveRequest_badSerial hn (serialOk_eq_false hbad))
  case checked =>
    intro hmin hmax hchars
    have hok : serialOk serial = true := serialOk_eq_true_iff.mpr ⟨hmin, hmax, hchars⟩
    refine ⟨fun hd => ?nestBusy, fun hd hf => ?nestFault, fun hd hf => ⟨?noPlan, fun i hi hp => ?planned⟩⟩
    case nestBusy => exact exec_arrive_refused hfree hlen (arriveRequest_nestBusy hn hok hd)
    case nestFault => exact exec_arrive_refused hfree hlen (arriveRequest_nestFault hn hok hd hf)
    case noPlan =>
      rintro (hv | ⟨i, hi, hp⟩)
      · exact exec_arrive_refused hfree hlen (arriveRequest_noVariant hn hok hd hf (variantOf_eq_none_iff.mpr hv))
      · exact exec_arrive_refused hfree hlen (arriveRequest_noPlan hn hok hd hf (variantOf_eq_some_iff.mpr hi) hp)
    case planned =>
      have hv : variantOf v = some i := variantOf_eq_some_iff.mpr hi
      refine ⟨fun hstate hserial => ?duplicate, fun hother => ?accepted⟩
      case duplicate =>
        have hdup := State.isDuplicate_eq_true_iff.mpr ⟨hstate, hserial⟩
        exact exec_arrive_refused hfree hlen (arriveRequest_duplicate hn hok hd hf hv hp hdup)
      case accepted =>
        have hdup : s.isDuplicate n serial = false := by
          refine Bool.eq_false_iff.mpr fun hdup => ?_
          obtain ⟨hstate, hserial⟩ := State.isDuplicate_eq_true_iff.mp hdup
          exact hother.elim hstate fun hne => hne hserial
        exact exec_arrive_of_linkFree hfree hlen (arriveRequest_accepted hn hok hd hf hv hp hdup) rfl

end Sys2Proof.Machine
end

section
/-! PROOFS. No offence of a plan image lies beyond its length (R43); what a bench command does on a free bench port (R179); and the
plan commands LOAD_PLAN, CLEAR_PLAN and READ_PLAN (R44 to R46). -/

namespace Sys2Proof.Machine

/-! ### Offences lie within the image, or at offset length where a word is missing (R43) -/

/-- Every offset of a list lies within an image or just past its last word. -/
def Located (img : List Word) (os : List Nat) : Prop := ∀ o ∈ os, o ≤ img.length

section
variable {img : List Word} {o : Nat}

@[simp] theorem located_nil : Located img [] := fun _ h => nomatch h

@[simp] theorem located_singleton : Located img [o] ↔ o ≤ img.length := List.forall_mem_singleton

@[simp] theorem located_append {os ps : List Nat} : Located img (os ++ ps) ↔ Located img os ∧ Located img ps :=
  List.forall_mem_append

theorem located_flatMap {α : Type} {l : List α} {f : α → List Nat} (h : ∀ x ∈ l, Located img (f x)) :
    Located img (l.flatMap f) := by
  intro o ho
  obtain ⟨x, hx, hox⟩ := List.mem_flatMap.mp ho
  exact h x hx o hox

/-- A guarded offence is located if the guard places it in the image. -/
theorem located_ite {c : Prop} [Decidable c] (h : c → o ≤ img.length) : Located img (if c then [o] else []) := by
  split
  · exact located_singleton.mpr (h ‹c›)
  · exact located_nil

@[simp] theorem checkWord_located (ok : Word → Bool) : Located img (checkWord img o ok) := by
  unfold checkWord
  split
  · simp
  · next w hw =>
    obtain ⟨ho, -⟩ := List.getElem?_eq_some_iff.mp hw
    split
    · exact located_nil
    · exact located_singleton.mpr ho.le

@[simp] theorem checkNat_located (lo hi : Nat) : Located img (checkNat img o lo hi) := checkWord_located _

@[simp] theorem checkInt_located (lo hi : Int) : Located img (checkInt img o lo hi) := checkWord_located _

@[simp] theorem checkNat32_located (lo hi : Nat) : Located img (checkNat32 img o lo hi) := by
  unfold checkNat32
  split
  · split
    · exact located_nil
    · exact located_singleton.mpr (by omega)
  · exact located_singleton.mpr le_rfl

@[simp] theorem labelOffences_located : Located img (labelOffences img) := by
  unfold labelOffences
  split
  · exact located_nil
  · exact located_flatMap fun _ _ => checkWord_located _

theorem headerOffences_located : Located img (headerOffences img) := by simp [headerOffences]

/-- A stage entry that is missing from the image has no kind, and so no offence of R42. -/
theorem stageCrossOk_of_missing {i : Nat} (h : img.length ≤ stagesOffset + i) : stageCrossOk img i = true := by
  have hkind : kindAt img i = 0 := by simp only [kindAt, if_neg (Nat.not_lt.mpr h)]
  simp [stageCrossOk, hkind]

theorem stageOffences_located (stages : Nat) : Located img (stageOffences img stages) := by
  refine located_append.mpr ⟨located_flatMap fun i _ => located_append.mpr ⟨checkWord_located _, ?cross⟩, ?mask⟩
  case cross =>
    split
    · exact located_nil
    · next hcross =>
      exact located_singleton.mpr (Nat.le_of_not_le fun h => hcross (stageCrossOk_of_missing h))
  case mask => exact located_ite fun ⟨_, h, _⟩ => h.le

theorem stepOffences_located : Located img (stepOffences img o) := by simp [stepOffences]

theorem stepCrossOffences_located (captures : Option Nat) (counts : List (Option Nat)) (unreferenced : Bool) :
    Located img (stepCrossOffences img o captures counts unreferenced) := by
  unfold stepCrossOffences
  split
  · exact located_nil
  · next hpresent =>
    have hcapture : o + 4 ≤ img.length := by omega
    refine located_append.mpr ⟨located_ite fun _ => by omega, ?_⟩
    split
    · exact located_nil
    · refine located_append.mpr ⟨located_ite fun _ => hcapture, ?_⟩
      split
      · split
        · exact located_singleton.mpr hcapture
        · exact located_nil
      · exact located_nil

theorem leakSetOffences_located : Located img (leakSetOffences img o) := by
  have hcompensation : Located img ((List.range 6).flatMap fun k => checkInt img (o + 6 + k) (-2000) 2000) :=
    located_flatMap fun _ _ => checkInt_located _ _
  simp only [leakSetOffences, located_append, checkNat32_located, checkNat_located, hcompensation, and_self]

theorem lineOffences_located : Located img (lineOffences img o) := by simp [lineOffences]

theorem windowOffences_located : Located img (windowOffences img o) := by
  have hextent : Located img (if o + 1 < img.length ∧ natAt img o = natAt img (o + 1) then [o + 1] else []) :=
    located_ite fun ⟨h, _⟩ => h.le
  simp only [windowOffences, located_append, checkNat_located, hextent, and_self]

theorem captureOffences_located (k : Nat) : Located img (captureOffences img k o) := by
  induction k generalizing o with
  | zero => exact located_ite fun h => h.le
  | succ k ih =>
    rw [captureOffences]
    refine located_append.mpr ⟨by simp, ?_⟩
    split
    · exact located_append.mpr ⟨located_append.mpr ⟨located_flatMap fun _ _ => lineOffences_located,
        located_flatMap fun _ _ => windowOffences_located⟩, ih⟩
    · exact located_nil

theorem bodyOffences_located (s t : Nat) : Located img (bodyOffences img s t) := by
  have hsteps (c : Option Nat) (counts : List (Option Nat)) :
      Located img ((List.range t).flatMap fun j => stepOffences img (stepsOffset s + 6 * j) ++
        stepCrossOffences img (stepsOffset s + 6 * j) c counts (profileUnreferenced img s)) :=
    located_flatMap fun _ _ => located_append.mpr ⟨stepOffences_located, stepCrossOffences_located _ _ _⟩
  simp only [bodyOffences, located_append, hsteps, leakSetOffences_located, true_and]
  split
  · exact captureOffences_located _
  · exact located_nil

theorem imageOffences_located : Located img (imageOffences img) := by
  refine located_append.mpr ⟨headerOffences_located, ?_⟩
  split
  · exact located_nil
  · refine located_append.mpr ⟨stageOffences_located _, ?_⟩
    split
    · exact located_nil
    · exact bodyOffences_located _ _

/-- The offset that BAD_PLAN carries lies within the image, or is its length. -/
theorem badPlanOffset_le_length (h : badPlanOffset img = some o) : o ≤ img.length :=
  imageOffences_located o (List.min?_mem h)

end

@[simp] theorem Bench.length_intakeWords (b : Bench) (k : Nat) : (b.intakeWords k).length = k := by
  simp [Bench.intakeWords]

/-! ### A command on a free bench port (R179) -/

/-- On a free bench port no word is in collection and no half of one latched, so that there is nothing to drop. -/
theorem State.dropCommandLatch_setCollected_of_benchFree {s : State} (h : s.benchFree) :
    s.dropCommandLatch.setCollected [] = s := by
  obtain ⟨-, hcollected, hlatch⟩ := h
  have hlatches : { s.bench.writeLatches with command := none } = s.bench.writeLatches := by rw [← hlatch]
  simp only [State.dropCommandLatch, State.setCollected, State.modBench, hlatches]
  rw [← hcollected]

/-- The answer of a command that leaves the bench port free leaves the port as `Bench.answered` says. -/
theorem State.answer_of_benchFree {s : State} (h : s.benchFree) (code : Byte) (reply : ReplyCode) (extra : List Word) :
    s.answer code reply extra = { s with bench := s.bench.answered code reply extra } := by
  obtain ⟨-, hcollected, hlatch⟩ := h
  simp only [State.answer, State.modBench, Bench.answer, Bench.answered]
  rw [← hcollected, ← hlatch]

/-- A command taken on a free bench port: its effect on the state, then its answer. -/
theorem commandRow_of_benchFree {s t : State} {code : Byte} {reply : ReplyCode} {extra : List Word}
    {eff : State → State × ReplyCode × List Word} (hs : s.benchFree) (heff : eff s = (t, reply, extra)) (ht : t.benchFree) :
    s.commandRow code eff = { t with bench := t.bench.answered code reply extra } := by
  rw [commandRow_free hs.1, State.dropCommandLatch_setCollected_of_benchFree hs, ← State.answer_of_benchFree ht]
  simp only [State.runCommand, heff]

/-! ### The plan commands: refusals in order, and the effect (R44 to R46) -/

section
variable {b : Byte} {length : Word} {s : State} {v : Fin 32}

/-- A new plan of a variant that is not in use: the entry holds it, with an in-use count of 0. -/
theorem State.modPlan_plan_of_unused (h : (s.planEntry v).inUse = 0) (p : Option Plan) :
    (s.modPlan v fun e => { e with plan := p }) = { s with plans := s.plans.set v ⟨p, 0⟩ } := by
  rw [← h]
  rfl

theorem loadPlanCommand_ignored (hv : variantOf b = none) : loadPlanCommand b length s = (s, .ignored, []) := by
  simp only [loadPlanCommand, hv]

theorem loadPlanCommand_planInUse (hv : variantOf b = some v) (huse : 0 < (s.planEntry v).inUse) :
    loadPlanCommand b length s = (s, .planInUse, []) := by
  simp only [loadPlanCommand, hv, if_pos huse]

theorem loadPlanCommand_badLength (hv : variantOf b = some v) (huse : (s.planEntry v).inUse = 0)
    (hlen : length.toNat = 0 ∨ 1024 < length.toNat) : loadPlanCommand b length s = (s, .badLength, []) := by
  have hbad : length.toNat < 1 ∨ 1024 < length.toNat := by omega
  simp only [loadPlanCommand, hv, huse, Nat.lt_irrefl, if_false, if_pos hbad]

theorem loadPlanCommand_badPlan {o : Nat} (hv : variantOf b = some v) (huse : (s.planEntry v).inUse = 0)
    (hmin : 1 ≤ length.toNat) (hmax : length.toNat ≤ 1024) (himg : badPlanOffset (s.bench.intakeWords length.toNat) = some o) :
    loadPlanCommand b length s = (s, .badPlan, [BitVec.ofNat 16 o]) := by
  have hok : ¬(length.toNat < 1 ∨ 1024 < length.toNat) := by omega
  simp only [loadPlanCommand, hv, huse, hok, himg, natWord, Nat.lt_irrefl, if_false]

theorem loadPlanCommand_accepted (hv : variantOf b = some v) (huse : (s.planEntry v).inUse = 0)
    (hmin : 1 ≤ length.toNat) (hmax : length.toNat ≤ 1024) (himg : badPlanOffset (s.bench.intakeWords length.toNat) = none) :
    loadPlanCommand b length s =
      ({ s with plans := s.plans.set v ⟨some (planOfImage (s.bench.intakeWords length.toNat)), 0⟩ }, .accepted, []) := by
  have hok : ¬(length.toNat < 1 ∨ 1024 < length.toNat) := by omega
  simp only [loadPlanCommand, hv, huse, hok, himg, Nat.lt_irrefl, if_false, State.modPlan_plan_of_unused huse]

theorem clearPlanCommand_ignored (hv : variantOf b = none) : clearPlanCommand b s = (s, .ignored, []) := by
  simp only [clearPlanCommand, hv]

theorem clearPlanCommand_planInUse (hv : variantOf b = some v) (huse : 0 < (s.planEntry v).inUse) :
    clearPlanCommand b s = (s, .planInUse, []) := by
  simp only [clearPlanCommand, hv, if_pos huse]

theorem clearPlanCommand_accepted (hv : variantOf b = some v) (huse : (s.planEntry v).inUse = 0) :
    clearPlanCommand b s = ({ s with plans := s.plans.set v ⟨none, 0⟩ }, .accepted, []) := by
  simp only [clearPlanCommand, hv, huse, Nat.lt_irrefl, if_false, State.modPlan_plan_of_unused huse]

theorem readPlanCommand_ignored (hv : variantOf b = none) : readPlanCommand b s = (s, .ignored, []) := by
  simp only [readPlanCommand, hv]

theorem readPlanCommand_empty (hv : variantOf b = some v) (hp : (s.planEntry v).plan = none) :
    readPlanCommand b s = (s, .empty, []) := by
  simp only [readPlanCommand, hv, hp]

theorem readPlanCommand_accepted {p : Plan} (hv : variantOf b = some v) (hp : (s.planEntry v).plan = some p) :
    readPlanCommand b s = (s.fillOutput p.image, .accepted, []) := by
  simp only [readPlanCommand, hv, hp]

/-! ### The rows of the plan commands on a free bench port -/

variable {t : State} {reply : ReplyCode} {extra : List Word}

theorem exec_loadPlan_of_benchFree (hs : s.benchFree) (heff : loadPlanCommand b length s = (t, reply, extra)) (ht : t.benchFree) :
    exec (.loadPlan b length) s = .next { t with bench := t.bench.answered 0x10 reply extra } :=
  congrArg Host.Outcome.next (commandRow_of_benchFree hs heff ht)

theorem exec_clearPlan_of_benchFree (hs : s.benchFree) (heff : clearPlanCommand b s = (t, reply, extra)) (ht : t.benchFree) :
    exec (.clearPlan b) s = .next { t with bench := t.bench.answered 0x11 reply extra } :=
  congrArg Host.Outcome.next (commandRow_of_benchFree hs heff ht)

theorem exec_readPlan_of_benchFree (hs : s.benchFree) (heff : readPlanCommand b s = (t, reply, extra)) (ht : t.benchFree) :
    exec (.readPlan b) s = .next { t with bench := t.bench.answered 0x12 reply extra } :=
  congrArg Host.Outcome.next (commandRow_of_benchFree hs heff ht)

end

/-- Settles O31: each clause is the command's answer for its case, carried to the bench port; the offset of BAD_PLAN is bounded by
the length of the image, which is at most 1,024. -/
theorem planCommandsAct : Obligations.PlanCommandsAct := by
  intro b length s hs
  refine ⟨fun hb => ?ignored, fun v hbv => ?named⟩
  case ignored =>
    have hv : variantOf b = none := variantOf_eq_none_iff.mpr hb
    exact ⟨exec_loadPlan_of_benchFree hs (loadPlanCommand_ignored hv) hs,
      exec_clearPlan_of_benchFree hs (clearPlanCommand_ignored hv) hs,
      exec_readPlan_of_benchFree hs (readPlanCommand_ignored hv) hs⟩
  case named =>
    have hv : variantOf b = some v := variantOf_eq_some_iff.mpr hbv
    refine ⟨fun huse => ?inUse, fun huse => ⟨fun hlen => ?badLength, fun o hmin hmax himg => ?badPlan,
      fun hmin hmax himg => ?loaded, ?cleared⟩, fun hp => ?empty, fun p hp => ?read⟩
    case inUse =>
      exact ⟨exec_loadPlan_of_benchFree hs (loadPlanCommand_planInUse hv huse) hs,
        exec_clearPlan_of_benchFree hs (clearPlanCommand_planInUse hv huse) hs⟩
    case badLength => exact exec_loadPlan_of_benchFree hs (loadPlanCommand_badLength hv huse hlen) hs
    case badPlan =>
      have hle : o ≤ length.toNat := by simpa using badPlanOffset_le_length himg
      exact ⟨exec_loadPlan_of_benchFree hs (loadPlanCommand_badPlan hv huse hmin hmax himg) hs, hle.trans hmax⟩
    case loaded => exact exec_loadPlan_of_benchFree hs (loadPlanCommand_accepted hv huse hmin hmax himg) hs
    case cleared => exact exec_clearPlan_of_benchFree hs (clearPlanCommand_accepted hv huse) hs
    case empty => exact exec_readPlan_of_benchFree hs (readPlanCommand_empty hv hp) hs
    case read => exact exec_readPlan_of_benchFree hs (readPlanCommand_accepted hv hp) hs

end Sys2Proof.Machine
end

section
/-! PROOFS. What a fault report leaves unchanged and what it does to its nest's list (R175); the band class, its hysteresis and the
temperature sample (R49 to R53, R57); READ_TEMP (R54). -/

namespace Sys2Proof.Machine

/-! ### A fault report: its frame, and the list of its nest (R175) -/

section
variable {s : State} {n : Nest} {f : FaultCause}

/-- A fault report changes the interlock unit and the bench port alone. -/
theorem State.reportFault_frame (s : State) (n : Nest) (f : FaultCause) :
    ∃ i b, s.reportFault n f = { s with interlock := i, bench := b } := by
  obtain ⟨h, -⟩ | ⟨-, -, h⟩ | ⟨-, -, -, h⟩ := reportFault_cases s n f
  · exact ⟨s.interlock, s.bench, h⟩
  · exact ⟨_, _, h⟩
  · exact ⟨_, _, h⟩

@[simp] theorem State.reportFault_monitors (s : State) (n : Nest) (f : FaultCause) :
    (s.reportFault n f).monitors = s.monitors := by
  obtain ⟨i, b, h⟩ := s.reportFault_frame n f
  rw [h]

@[simp] theorem State.reportFault_dossiers (s : State) (n : Nest) (f : FaultCause) :
    (s.reportFault n f).dossiers = s.dossiers := by
  obtain ⟨i, b, h⟩ := s.reportFault_frame n f
  rw [h]

@[simp] theorem State.reportFault_channels (s : State) (n : Nest) (f : FaultCause) :
    (s.reportFault n f).channels = s.channels := by
  obtain ⟨i, b, h⟩ := s.reportFault_frame n f
  rw [h]

@[simp] theorem State.reportFault_circuits (s : State) (n : Nest) (f : FaultCause) :
    (s.reportFault n f).circuits = s.circuits := by
  obtain ⟨i, b, h⟩ := s.reportFault_frame n f
  rw [h]

/-- A cause that the list holds is reported without effect. -/
theorem State.reportFault_of_mem (h : f ∈ (s.faultList n).causes) : s.reportFault n f = s := if_pos h

/-- A new cause joins a list of fewer than four at its end, and the nest's fault cause becomes pending. -/
theorem State.reportFault_of_room (hnew : f ∉ (s.faultList n).causes) (hroom : (s.faultList n).causes.length < 4) :
    s.reportFault n f =
      (s.setFaultList n ⟨(s.faultList n).causes ++ [f], (s.faultList n).more⟩).raise (.nestFault n) := by
  simp only [State.reportFault, if_neg hnew, if_pos hroom]

@[simp] theorem State.faultList_setFaultList_same (s : State) (n : Nest) (l : FaultList) :
    (s.setFaultList n l).faultList n = l := PerNest.get_set_same _ n l

@[simp] theorem State.faultList_raise (s : State) (k : AttentionCause) (n : Nest) :
    (s.raise k).faultList n = s.faultList n := rfl

theorem State.faultList_reportFault_of_mem (h : f ∈ (s.faultList n).causes) :
    (s.reportFault n f).faultList n = s.faultList n := by
  rw [State.reportFault_of_mem h]

theorem State.faultList_reportFault_of_room (hnew : f ∉ (s.faultList n).causes)
    (hroom : (s.faultList n).causes.length < 4) :
    (s.reportFault n f).faultList n = ⟨(s.faultList n).causes ++ [f], (s.faultList n).more⟩ := by
  rw [State.reportFault_of_room hnew hroom, State.faultList_raise, State.faultList_setFaultList_same]

theorem State.isPending_reportFault_of_room (hnew : f ∉ (s.faultList n).causes)
    (hroom : (s.faultList n).causes.length < 4) : (s.reportFault n f).bench.isPending (.nestFault n) = true := by
  rw [State.reportFault_of_room hnew hroom, isPending_raise]

end

/-! ### The class of a reading and its hysteresis (R49, R50, R52) -/

section
variable {reading : Int} {b : Nat}

theorem temperatureFault_eq_true_iff : temperatureFault reading = true ↔ reading < -400 ∨ 1500 < reading := by
  simp [temperatureFault]

theorem temperatureFault_eq_false_iff : temperatureFault reading = false ↔ -400 ≤ reading ∧ reading ≤ 1500 := by
  simp [temperatureFault]

/-- The class of a sensor fault is 7. -/
theorem bandClass_of_fault (h : temperatureFault reading = true) : bandClass reading = 7 := if_pos h

/-- The bands of R50 are what `bandClass` computes for a reading without sensor fault. -/
theorem bandClass_of_inBand (hfault : temperatureFault reading = false) (hb : inBand reading b) : bandClass reading = b := by
  obtain ⟨hlo, hhi⟩ := temperatureFault_eq_false_iff.mp hfault
  unfold inBand at hb
  simp only [bandClass, hfault, Bool.false_eq_true, if_false]
  split_ifs <;> omega

/-- R52's threshold for a move down: 1.0 °C below the lowest reading of the class held. -/
theorem lowerBound_sub_ten {c : Nat} (hmin : 1 ≤ c) (hmax : c ≤ 7) : lowerBound c - 10 = downThreshold c := by
  interval_cases c <;> rfl

/-- The hysteresis of R52 by its thresholds; class 0 has none, for no band lies below it. -/
theorem nextClass_eq {c : Nat} (hc : c ≤ 7) (hb : bandClass reading = b) :
    nextClass c reading = if c < b then b else if b < c ∧ reading ≤ downThreshold c then b else c := by
  have hthreshold : (b < c ∧ reading ≤ lowerBound c - 10) ↔ (b < c ∧ reading ≤ downThreshold c) :=
    and_congr_right fun hlt => by rw [lowerBound_sub_ten (by omega) hc]
  simp only [nextClass, hb, hthreshold]

/-- The class after a sensor fault is 7, whatever class was held (R50, R52). -/
theorem nextClass_of_fault {c : Nat} (hc : c ≤ 7) (h : temperatureFault reading = true) : nextClass c reading = 7 := by
  rw [nextClass_eq hc (bandClass_of_fault h)]
  split_ifs <;> omega

/-! ### The monitor after a sample (R49 to R53) -/

variable {m : Monitor}

/-- A sample sets every field of the monitor: the changed flag by the class it moves to. -/
theorem Monitor.take_of_tempClass {cls : Nat} (h : (m.take reading).tempClass = cls) :
    m.take reading =
      ⟨some reading, cls, m.changed || (m.sampled && decide (cls ≠ m.tempClass)), temperatureFault reading, true⟩ := by
  subst h
  simp only [Monitor.take, bne, beq_eq_decide, ne_eq, decide_not]

/-- The class is the band class at the first sample, and moves by the hysteresis after it. -/
theorem Monitor.take_tempClass (hc : m.tempClass ≤ 7) (hb : bandClass reading = b) :
    (m.take reading).tempClass =
      if m.sampled = false then b
      else if m.tempClass < b then b
      else if b < m.tempClass ∧ reading ≤ downThreshold m.tempClass then b
      else m.tempClass := by
  cases hs : m.sampled with
  | false => simp only [Monitor.take, hs, hb, Bool.false_eq_true, if_true, if_false]
  | true => simp only [Monitor.take, hs, nextClass_eq hc hb, Bool.true_eq_false, if_true, if_false]

theorem Monitor.take_tempClass_of_fault (hc : m.tempClass ≤ 7) (h : temperatureFault reading = true) :
    (m.take reading).tempClass = 7 := by
  cases hs : m.sampled with
  | false => simp only [Monitor.take, hs, bandClass_of_fault h, Bool.false_eq_true, if_false]
  | true => simp only [Monitor.take, hs, nextClass_of_fault hc h, if_true]

end

/-! ### The temperature sample (R49, R53, R57) -/

section
variable {s : State} {n : Nest} {input reading : Int}

/-- The event of a sample in the order of R49: the monitor, the report of a sensor fault, the class-changed cause. -/
theorem State.tempSample_eq (hr : reading = clamp (-600) 2000 input) :
    s.tempSample n input =
      (let taken := s.modMonitor n fun m => m.take reading
       let t := if temperatureFault reading then taken.reportFault n .sensorTemp else taken
       if (s.monitor n).sampled = true ∧ ((s.monitor n).take reading).tempClass ≠ (s.monitor n).tempClass then
         t.raise (.classChanged n)
       else t) := by
  subst hr
  have hmonitor : ∀ t : State, t.monitors = (s.modMonitor n fun m => m.take (clamp (-600) 2000 input)).monitors →
      t.monitor n = (s.monitor n).take (clamp (-600) 2000 input) := fun t ht => by
    rw [State.monitor, ht]
    exact s.monitor_modMonitor_same n _
  simp only [State.tempSample, Bool.and_eq_true, bne_iff_ne]
  cases temperatureFault (clamp (-600) 2000 input) with
  | false => simp only [Bool.false_eq_true, if_false, hmonitor _ rfl]
  | true => simp only [if_true, hmonitor _ (State.reportFault_monitors _ n .sensorTemp)]

/-- A sample without sensor fault changes the monitor and, when the class moves, makes the class-changed cause pending. -/
theorem State.tempSample_of_noFault {cls : Nat} (hr : reading = clamp (-600) 2000 input)
    (hfault : temperatureFault reading = false) (hcls : ((s.monitor n).take reading).tempClass = cls) :
    s.tempSample n input =
      { s with
        monitors := s.monitors.set n
          ⟨some reading, cls,
            (s.monitor n).changed || ((s.monitor n).sampled && decide (cls ≠ (s.monitor n).tempClass)), false, true⟩
        bench :=
          if (s.monitor n).sampled = true ∧ cls ≠ (s.monitor n).tempClass then
            { s.bench with causes := s.bench.causes ||| AttentionCause.bit (.classChanged n) }
          else s.bench } := by
  have htake := Monitor.take_of_tempClass hcls
  rw [hfault] at htake
  rw [State.tempSample_eq hr, ← htake, hcls]
  simp only [hfault, Bool.false_eq_true, if_false]
  split
  · rfl
  · rfl

/-- A sample with a sensor fault takes the reading and reports the fault; what follows changes the attention causes alone: every
pending cause stays pending, and the class-changed cause becomes pending when the class moves. -/
theorem State.tempSample_of_fault (hr : reading = clamp (-600) 2000 input) (hfault : temperatureFault reading = true) :
    ∃ b : Bench,
      s.tempSample n input = { (s.modMonitor n fun m => m.take reading).reportFault n .sensorTemp with bench := b } ∧
      (∀ k, ((s.modMonitor n fun m => m.take reading).reportFault n .sensorTemp).bench.isPending k = true →
        b.isPending k = true) ∧
      ((s.monitor n).sampled = true → ((s.monitor n).take reading).tempClass ≠ (s.monitor n).tempClass →
        b.isPending (.classChanged n) = true) := by
  rw [State.tempSample_eq hr]
  simp only [hfault, if_true]
  split
  · exact ⟨_, rfl, fun k hk => isPending_raise_of _ k _ hk, fun _ _ => isPending_raise _ _⟩
  · next hstays => exact ⟨_, rfl, fun _ hk => hk, fun hsampled hmoves => absurd ⟨hsampled, hmoves⟩ hstays⟩

theorem exec_tempSample : exec (.tempSample n input) s = .next (s.tempSample n input) := rfl

theorem exec_vibrationConversion :
    exec (.vibrationConversion n input) s = .next (s.setVibration n (clamp (-32768) 32767 input)) := rfl

end

/-- Settles O53: the sample taken splits on R49's sensor fault; the class is the hysteresis of R52 in both cases. -/
theorem temperatureMovesTheClass : Obligations.TemperatureMovesTheClass := by
  refine ⟨fun n input reading b cls s hr hband hcls hc => ⟨fun hlo hhi => ?noFault, fun hout => ?fault⟩,
    fun n x s => exec_vibrationConversion⟩
  case noFault =>
    have hfault : temperatureFault reading = false := temperatureFault_eq_false_iff.mpr ⟨hlo, hhi⟩
    have hb : bandClass reading = b := by
      obtain ⟨-, -, hb⟩ | ⟨hout, -⟩ := hband
      · exact bandClass_of_inBand hfault hb
      · omega
    rw [exec_tempSample, State.tempSample_of_noFault hr hfault ((Monitor.take_tempClass hc hb).trans hcls.symm)]
  case fault =>
    have hfault : temperatureFault reading = true := temperatureFault_eq_true_iff.mpr hout
    have hseven : ((s.monitor n).take reading).tempClass = 7 := Monitor.take_tempClass_of_fault hc hfault
    obtain ⟨bench, ht, hkept, hmoved⟩ := State.tempSample_of_fault (s := s) (n := n) hr hfault
    refine ⟨_, exec_tempSample, ?_⟩
    rw [ht]
    refine ⟨?monitors, State.faultList_reportFault_of_mem (s := s.modMonitor n _),
      fun hnew hroom => ⟨State.faultList_reportFault_of_room (s := s.modMonitor n _) hnew hroom,
        hkept _ (State.isPending_reportFault_of_room hnew hroom)⟩,
      fun hsampled hne => hmoved hsampled (hseven ▸ hne.symm),
      State.reportFault_dossiers .., State.reportFault_channels .., State.reportFault_circuits ..⟩
    case monitors =>
      have htake := Monitor.take_of_tempClass hseven
      rw [hfault] at htake
      simp only [ne_comm (a := 7)] at htake
      exact (State.reportFault_monitors ..).trans (congrArg (s.monitors.set n) htake)

/-! ### READ_TEMP (R54, R196) -/

section
variable {b : Byte} {s : State} {n : Nest}

@[simp] theorem withBenchNest_of_none {k : Nest → State → State × ReplyCode × List Word} (h : nestOf b = none) :
    withBenchNest b k s = (s, .badNest, []) := by
  simp only [withBenchNest, h]

@[simp] theorem withBenchNest_of_some {k : Nest → State → State × ReplyCode × List Word} (h : nestOf b = some n) :
    withBenchNest b k s = k n s := by
  simp only [withBenchNest, h]

/-- The word that READ_TEMP answers for T. -/
def Monitor.temperatureWord (m : Monitor) : Word :=
  match m.temperature with
  | some t => BitVec.ofInt 16 t
  | none => 0x8000

theorem Monitor.temperatureWord_of_none {m : Monitor} (h : m.temperature = none) : m.temperatureWord = 0x8000 := by
  simp only [Monitor.temperatureWord, h]

/-- A temperature within the converter's span is the word's signed value. -/
theorem Monitor.toInt_temperatureWord {m : Monitor} {x : Int} (h : m.temperature = some x) (hlo : -600 ≤ x) (hhi : x ≤ 2000) :
    m.temperatureWord.toInt = x := by
  simp only [Monitor.temperatureWord, h, BitVec.toInt_ofInt]
  exact Int.bmod_eq_of_le (by omega) (by omega)

/-- The reply words hold T and, for a class of three bits, the class with the two flags above it. -/
theorem Monitor.replyWords_eq {m : Monitor} (hc : m.tempClass ≤ 7) :
    m.replyWords =
      [m.temperatureWord, BitVec.ofNat 16
        (m.tempClass + (if m.changed then 16 else 0) + (if m.sensorFault then 32 else 0))] := by
  have hwords : m.replyWords =
      [m.temperatureWord, BitVec.ofNat 16 (m.tempClass % 8 + 16 * m.changed.toNat + 32 * m.sensorFault.toNat)] := rfl
  have hclass : m.tempClass % 8 = m.tempClass := Nat.mod_eq_of_lt (by omega)
  have hflag (k : Nat) (f : Bool) : k * f.toNat = if f then k else 0 := by cases f <;> simp
  rw [hwords, hclass, hflag, hflag]

theorem exec_readTemp_of_benchFree {t : State} {reply : ReplyCode} {extra : List Word} (hs : s.benchFree)
    (heff : readTempCommand b s = (t, reply, extra)) (ht : t.benchFree) :
    exec (.readTemp b) s = .next { t with bench := t.bench.answered 0x08 reply extra } :=
  congrArg Host.Outcome.next (commandRow_of_benchFree hs heff ht)

end

/-- Settles O26: the command's answer for a byte that names no nest and for one that does, carried to the bench port. -/
theorem readTempAnswersAndClearsFlag : Obligations.ReadTempAnswersAndClearsFlag := by
  refine fun b s hs => ⟨fun hb => exec_readTemp_of_benchFree hs (withBenchNest_of_none hb) hs, fun n hb hc => ?_⟩
  refine ⟨(s.monitor n).temperatureWord, Monitor.temperatureWord_of_none, fun x => Monitor.toInt_temperatureWord, ?_⟩
  rw [← Monitor.replyWords_eq hc]
  exact exec_readTemp_of_benchFree hs (withBenchNest_of_some hb) hs

end Sys2Proof.Machine
end

section
/-! PROOFS. PIN, UNPIN and VIEW_SLOT (R121 to R123): each command's answer and effect by the state of its slot, and the rows
on a free bench port. -/

namespace Sys2Proof.Machine

/-! ### The operand of the slot commands -/

/-- A byte names a slot exactly when it is that slot's number. -/
theorem slotOf_eq_some_iff {b : Byte} {i : Fin 4} : slotOf b = some i ↔ b.toNat = i.val := by
  unfold slotOf
  split
  · simp [Fin.ext_iff]
  · simp only [reduceCtorEq, false_iff]
    omega

/-- A byte names no slot exactly when it lies above 3. -/
theorem slotOf_eq_none_iff {b : Byte} : slotOf b = none ↔ 3 < b.toNat := by
  simp only [slotOf, dite_eq_right_iff, reduceCtorEq, imp_false]
  omega

/-! ### PIN (R121) -/

section
variable {b : Byte} {s : State} {i : Fin 4}

theorem pinCommand_ignored (hi : slotOf b = none) : pinCommand b s = (s, .ignored, []) := by
  simp only [pinCommand, hi]

theorem pinCommand_wrongState (hi : slotOf b = some i) (hstate : (s.slot i).state = .free ∨ (s.slot i).state = .pinned) :
    pinCommand b s = (s, .wrongState, []) := by
  obtain hfree | hpinned := hstate
  · simp only [pinCommand, hi, hfree]
  · simp only [pinCommand, hi, hpinned]

/-- In a FILLING, READY or ANALYSING slot PIN looks at the mark first, then at the limit. -/
theorem pinCommand_of_occupied (hi : slotOf b = some i) (hfree : (s.slot i).state ≠ .free)
    (hpinned : (s.slot i).state ≠ .pinned) :
    pinCommand b s =
      if (s.slot i).pinMark then (s, .accepted, [])
      else if s.pinnedOrMarked < 2 then (s.modSlot i fun x => { x with pinMark := true }, .accepted, [])
      else (s, .pinLimit, []) := by
  cases hstate : (s.slot i).state with
  | free => exact absurd hstate hfree
  | pinned => exact absurd hstate hpinned
  | filling | ready | analysing =>
    simp only [pinCommand, hi, hstate]

theorem pinCommand_alreadyMarked (hi : slotOf b = some i) (hfree : (s.slot i).state ≠ .free)
    (hpinned : (s.slot i).state ≠ .pinned) (hmark : (s.slot i).pinMark = true) : pinCommand b s = (s, .accepted, []) := by
  rw [pinCommand_of_occupied hi hfree hpinned, if_pos hmark]

theorem pinCommand_marks (hi : slotOf b = some i) (hfree : (s.slot i).state ≠ .free) (hpinned : (s.slot i).state ≠ .pinned)
    (hmark : (s.slot i).pinMark = false) (hroom : s.pinnedOrMarked < 2) :
    pinCommand b s = (s.modSlot i fun x => { x with pinMark := true }, .accepted, []) := by
  rw [pinCommand_of_occupied hi hfree hpinned, if_neg (ne_true_of_eq_false hmark), if_pos hroom]

theorem pinCommand_pinLimit (hi : slotOf b = some i) (hfree : (s.slot i).state ≠ .free) (hpinned : (s.slot i).state ≠ .pinned)
    (hmark : (s.slot i).pinMark = false) (hfull : 2 ≤ s.pinnedOrMarked) : pinCommand b s = (s, .pinLimit, []) := by
  rw [pinCommand_of_occupied hi hfree hpinned, if_neg (ne_true_of_eq_false hmark), if_neg hfull.not_gt]

/-! ### UNPIN (R122) -/

theorem unpinCommand_ignored (hi : slotOf b = none) : unpinCommand b s = (s, .ignored, []) := by
  simp only [unpinCommand, hi]

theorem unpinCommand_free (hi : slotOf b = some i) (hfree : (s.slot i).state = .free) :
    unpinCommand b s = (s, .wrongState, []) := by
  simp only [unpinCommand, hi, hfree]

/-- A PINNED slot is freed, and a view of it ends. -/
theorem unpinCommand_pinned (hi : slotOf b = some i) (hpinned : (s.slot i).state = .pinned) :
    unpinCommand b s =
      ({ s with
          slots := s.slots.set i ⟨.free, false, none, []⟩
          bench := { s.bench with view := if s.bench.view = some i then none else s.bench.view } }, .accepted, []) := by
  simp only [unpinCommand, hi, hpinned]
  rfl

/-- In a FILLING, READY or ANALYSING slot UNPIN clears the mark, and is refused where there is none. -/
theorem unpinCommand_of_occupied (hi : slotOf b = some i) (hfree : (s.slot i).state ≠ .free)
    (hpinned : (s.slot i).state ≠ .pinned) :
    unpinCommand b s =
      if (s.slot i).pinMark then (s.modSlot i fun x => { x with pinMark := false }, .accepted, [])
      else (s, .wrongState, []) := by
  cases hstate : (s.slot i).state with
  | free => exact absurd hstate hfree
  | pinned => exact absurd hstate hpinned
  | filling | ready | analysing =>
    simp only [unpinCommand, hi, hstate]

theorem unpinCommand_clearsMark (hi : slotOf b = some i) (hfree : (s.slot i).state ≠ .free)
    (hpinned : (s.slot i).state ≠ .pinned) (hmark : (s.slot i).pinMark = true) :
    unpinCommand b s = (s.modSlot i fun x => { x with pinMark := false }, .accepted, []) := by
  rw [unpinCommand_of_occupied hi hfree hpinned, if_pos hmark]

theorem unpinCommand_unmarked (hi : slotOf b = some i) (hfree : (s.slot i).state ≠ .free)
    (hpinned : (s.slot i).state ≠ .pinned) (hmark : (s.slot i).pinMark = false) :
    unpinCommand b s = (s, .wrongState, []) := by
  rw [unpinCommand_of_occupied hi hfree hpinned, if_neg (ne_true_of_eq_false hmark)]

/-! ### VIEW_SLOT (R123) -/

theorem viewSlotCommand_ignored (hi : slotOf b = none) : viewSlotCommand b s = (s, .ignored, []) := by
  simp only [viewSlotCommand, hi]

theorem viewSlotCommand_pinned (hi : slotOf b = some i) (hpinned : (s.slot i).state = .pinned) :
    viewSlotCommand b s =
      ({ s with bench := { s.bench with view := some i, pointer := 0, dataReady := true } }, .accepted, []) := by
  simp only [viewSlotCommand, hi, if_pos hpinned]
  rfl

theorem viewSlotCommand_wrongState (hi : slotOf b = some i) (hpinned : (s.slot i).state ≠ .pinned) :
    viewSlotCommand b s = (s, .wrongState, []) := by
  simp only [viewSlotCommand, hi, if_neg hpinned]

/-! ### The rows of the slot commands on a free bench port -/

variable {t : State} {reply : ReplyCode} {extra : List Word}

theorem exec_pin_of_benchFree (hs : s.benchFree) (heff : pinCommand b s = (t, reply, extra)) (ht : t.benchFree) :
    exec (.pin b) s = .next { t with bench := t.bench.answered 0x18 reply extra } :=
  congrArg Host.Outcome.next (commandRow_of_benchFree hs heff ht)

theorem exec_unpin_of_benchFree (hs : s.benchFree) (heff : unpinCommand b s = (t, reply, extra)) (ht : t.benchFree) :
    exec (.unpin b) s = .next { t with bench := t.bench.answered 0x19 reply extra } :=
  congrArg Host.Outcome.next (commandRow_of_benchFree hs heff ht)

theorem exec_viewSlot_of_benchFree (hs : s.benchFree) (heff : viewSlotCommand b s = (t, reply, extra)) (ht : t.benchFree) :
    exec (.viewSlot b) s = .next { t with bench := t.bench.answered 0x1A reply extra } :=
  congrArg Host.Outcome.next (commandRow_of_benchFree hs heff ht)

end

/-- Settles O32: each clause is the command's answer for the state of the slot, carried to the bench port; no effect of the three
commands touches what makes the port free. -/
theorem slotCommandsAct : Obligations.SlotCommandsAct := by
  intro b s hs
  refine ⟨fun hb => ?ignored, fun i hbi => ?named⟩
  case ignored =>
    have hi : slotOf b = none := slotOf_eq_none_iff.mpr hb
    exact ⟨exec_pin_of_benchFree hs (pinCommand_ignored hi) hs,
      exec_unpin_of_benchFree hs (unpinCommand_ignored hi) hs,
      exec_viewSlot_of_benchFree hs (viewSlotCommand_ignored hi) hs⟩
  case named =>
    have hi : slotOf b = some i := slotOf_eq_some_iff.mpr hbi
    refine ⟨fun hstate => ?pinRefused, fun ⟨hfree, hpinned⟩ => ⟨fun hmark => ⟨?alreadyMarked, ?markCleared⟩,
      fun hmark hroom => ?marked, fun hmark hfull => ?pinLimit, fun hmark => ?unmarked⟩,
      fun hfree => ?unpinRefused, fun hpinned => ⟨?freed, ?viewed⟩, fun hpinned => ?viewRefused⟩
    case pinRefused => exact exec_pin_of_benchFree hs (pinCommand_wrongState hi hstate) hs
    case alreadyMarked => exact exec_pin_of_benchFree hs (pinCommand_alreadyMarked hi hfree hpinned hmark) hs
    case markCleared => exact exec_unpin_of_benchFree hs (unpinCommand_clearsMark hi hfree hpinned hmark) hs
    case marked => exact exec_pin_of_benchFree hs (pinCommand_marks hi hfree hpinned hmark hroom) hs
    case pinLimit => exact exec_pin_of_benchFree hs (pinCommand_pinLimit hi hfree hpinned hmark hfull) hs
    case unmarked => exact exec_unpin_of_benchFree hs (unpinCommand_unmarked hi hfree hpinned hmark) hs
    case unpinRefused => exact exec_unpin_of_benchFree hs (unpinCommand_free hi hfree) hs
    case freed => exact exec_unpin_of_benchFree hs (unpinCommand_pinned hi hpinned) hs
    case viewed => exact exec_viewSlot_of_benchFree hs (viewSlotCommand_pinned hi hpinned) hs
    case viewRefused => exact exec_viewSlot_of_benchFree hs (viewSlotCommand_wrongState hi hpinned) hs

end Sys2Proof.Machine
end

section
/-! PROOFS. What a filing that finds room does to the state (R150, R151); the removal of the oldest report (R155); the requests of
the plant link on a free link (R156 to R158); the settings of the report queue (R160 to R162). -/

namespace Sys2Proof.Machine

/-! ### A filing that finds room, and the removal of the oldest report (R31, R150, R151, R155) -/

section
variable {s : State} {n : Nest}

/-- A release of a nest's plan changes the plan store alone. -/
theorem State.releasePlan_frame (s : State) (n : Nest) : ∃ plans, s.releasePlan n = { s with plans := plans } := by
  unfold State.releasePlan
  split
  · exact ⟨_, rfl⟩
  · exact ⟨s.plans, rfl⟩

/-- A filing that finds room appends the dossier's report under the next number, moves the number on, takes the nest off the
filing-pending list and has the dossier FILED under its number; besides, it changes the plan store alone. -/
theorem State.fileReport_eq (s : State) (n : Nest) :
    ∃ plans, s.fileReport n =
      { s with
        plans := plans
        reports :=
          { s.reports with
            reports := s.reports.reports ++ [reportOf (some s.reports.nextNumber) s.reports.station n (s.dossier n)]
            nextNumber := numberAfter s.reports.nextNumber
            filingPending := s.reports.filingPending.filter fun m => m ≠ n }
        dossiers :=
          s.dossiers.set n
            { s.dossier n with state := .filed, reportNumber := some s.reports.nextNumber, filingPending := false } } := by
  unfold State.fileReport
  extract_lets number appended named
  obtain ⟨plans, hplans⟩ := named.releasePlan_frame n
  refine ⟨plans, ?_⟩
  have hdossiers : named.dossiers.mod n (fun d => { d with state := .filed }) =
      s.dossiers.set n { s.dossier n with state := .filed, reportNumber := some number, filingPending := false } := by
    simp only [named, appended, State.modDossier_dossiers, State.modReports_dossiers, PerNest.mod,
      PerNest.get_set_same, PerNest.set_set]
    rfl
  rw [hplans, ← hdossiers]
  rfl

/-- The head of the filing-pending list leaves it, and the others stay in their order. -/
theorem filter_ne_head {more : List Nest} (h : n ∉ more) : ((n :: more).filter fun m => m ≠ n) = more := by
  rw [List.filter_cons_of_neg (by simp), List.filter_eq_self]
  exact fun m hm => decide_eq_true (ne_of_mem_of_not_mem hm h)

variable {r : Report} {rest : List Report}

/-- Without its oldest report the queue holds the reports after it. -/
theorem State.modReports_drop_one (h : s.reports.reports = r :: rest) :
    (s.modReports fun q => { q with reports := q.reports.drop 1 }) = s.modReports fun q => { q with reports := rest } := by
  simp only [State.modReports, h, List.drop_one, List.tail_cons]

theorem State.removeOldest_of_noneWaiting (h : s.reports.reports = r :: rest) (hnone : s.reports.filingPending = []) :
    s.removeOldest = s.modReports fun q => { q with reports := rest } := by
  simp only [State.removeOldest, State.modReports_drop_one h, State.modReports_reports, hnone]

theorem State.removeOldest_of_waiting {more : List Nest} (h : s.reports.reports = r :: rest)
    (hwait : s.reports.filingPending = n :: more) :
    s.removeOldest = (s.modReports fun q => { q with reports := rest }).fileReport n := by
  simp only [State.removeOldest, State.modReports_drop_one h, State.modReports_reports, hwait]

end

/-! ### The requests of the plant link (R156 to R158) -/

section
variable {s : State} {k : Word} {r : Report} {rest : List Report}

theorem fetchRequest_empty (h : s.reports.reports = []) : fetchRequest s = (s, .empty, []) := by
  simp only [fetchRequest, h]

theorem fetchRequest_accepted (h : s.reports.reports = r :: rest) : fetchRequest s = (s, .accepted, r.bytes) := by
  simp only [fetchRequest, h]

theorem takeRequest_empty (h : s.reports.reports = []) : takeRequest k s = (s, .empty, []) := by
  simp only [takeRequest, h]

theorem takeRequest_wrongReport (h : s.reports.reports = r :: rest) (hk : r.number ≠ some k.toNat) :
    takeRequest k s = (s, .wrongReport, []) := by
  simp only [takeRequest, h, if_neg hk]

/-- TAKE with the oldest report's number removes it, and answers the number with the count as the removal leaves it. -/
theorem takeRequest_accepted (h : s.reports.reports = r :: rest) (hk : r.number = some k.toNat) :
    takeRequest k s =
      (s.removeOldest, .accepted, bytes16 k ++ [natByte s.removeOldest.reports.reports.length]) := by
  simp only [takeRequest, h, if_pos hk]

variable {t : State} {reply : ReplyCode} {bytes : List Byte}

theorem exec_fetch_of_linkFree (hfree : s.linkFree .plant) (hreq : fetchRequest s = (t, reply, bytes))
    (hlinks : t.links = s.links) :
    exec .fetch s = .next { t with links := s.links.set .plant (replying 0x20 [] reply bytes) } :=
  congrArg Host.Outcome.next (frameRow_of_linkFree hfree (Nat.zero_le _) hreq hlinks)

theorem exec_take_of_linkFree (hfree : s.linkFree .plant) (hreq : takeRequest k s = (t, reply, bytes))
    (hlinks : t.links = s.links) :
    exec (.take k) s = .next { t with links := s.links.set .plant (replying 0x21 (bytes16 k) reply bytes) } :=
  have hlength : (bytes16 k).length ≤ 1024 := by simp [bytes16]
  congrArg Host.Outcome.next (frameRow_of_linkFree hfree hlength hreq hlinks)

theorem exec_count_of_linkFree (hfree : s.linkFree .plant) (hreq : countRequest s = (t, reply, bytes))
    (hlinks : t.links = s.links) :
    exec .count s = .next { t with links := s.links.set .plant (replying 0x22 [] reply bytes) } :=
  congrArg Host.Outcome.next (frameRow_of_linkFree hfree (Nat.zero_le _) hreq hlinks)

end

/-- Settles O10: each clause is the request's answer for its case, carried to the link's reply; with a dossier waiting, the state
after TAKE is that of a filing with room in the queue just shortened. -/
theorem plantRequestsReadAndTake : Obligations.PlantRequestsReadAndTake := by
  intro s hfree
  refine ⟨fun h => exec_fetch_of_linkFree hfree (fetchRequest_empty h) rfl,
    fun r rest h => exec_fetch_of_linkFree hfree (fetchRequest_accepted h) rfl,
    exec_count_of_linkFree hfree rfl rfl, fun k => ⟨fun h => ?empty, fun r rest h hk => ?wrongReport,
      fun r rest h hk hnone => ?removed, fun r rest n more h hk hwait hmore => ?filed⟩⟩
  case empty => exact exec_take_of_linkFree hfree (takeRequest_empty h) rfl
  case wrongReport => exact exec_take_of_linkFree hfree (takeRequest_wrongReport h hk) rfl
  case removed =>
    have hreq := takeRequest_accepted h hk
    rw [State.removeOldest_of_noneWaiting h hnone] at hreq
    exact exec_take_of_linkFree hfree hreq rfl
  case filed =>
    obtain ⟨plans, hfiled⟩ := State.fileReport_eq (s.modReports fun q => { q with reports := rest }) n
    have hreq := takeRequest_accepted h hk
    rw [State.removeOldest_of_waiting h hwait, hfiled] at hreq
    simp only [State.modReports_reports, hwait, filter_ne_head hmore, List.length_append, List.length_singleton] at hreq
    exact ⟨_, reportOf (some s.reports.nextNumber) s.reports.station n (s.dossier n),
      exec_take_of_linkFree hfree hreq rfl, rfl, rfl, rfl, rfl, rfl, rfl, rfl, rfl, rfl, rfl⟩

/-! ### The settings of the report queue (R160 to R162) -/

section
variable {k : Word} {s t : State} {reply : ReplyCode} {extra : List Word}

theorem setReportBaseCommand_ignored (hk : k = 0) : setReportBaseCommand k s = (s, .ignored, []) := if_pos hk

theorem setReportBaseCommand_wrongState (hk : k ≠ 0) (h : s.reports.reports ≠ [] ∨ s.reports.filingPending ≠ []) :
    setReportBaseCommand k s = (s, .wrongState, []) := by
  simp only [setReportBaseCommand, if_neg hk, if_pos h]

theorem setReportBaseCommand_accepted (hk : k ≠ 0) (hreports : s.reports.reports = [])
    (hpending : s.reports.filingPending = []) :
    setReportBaseCommand k s = (s.modReports fun q => { q with nextNumber := k.toNat }, .accepted, []) := by
  simp only [setReportBaseCommand, if_neg hk, hreports, hpending, ne_eq, not_true_eq_false, or_self, if_false]

theorem exec_setReportBase_of_benchFree (hs : s.benchFree) (heff : setReportBaseCommand k s = (t, reply, extra))
    (ht : t.benchFree) :
    exec (.setReportBase k) s = .next { t with bench := t.bench.answered 0x21 reply extra } :=
  congrArg Host.Outcome.next (commandRow_of_benchFree hs heff ht)

theorem exec_setStation_of_benchFree {k : Byte} (hs : s.benchFree) (heff : setStationCommand k s = (t, reply, extra))
    (ht : t.benchFree) :
    exec (.setStation k) s = .next { t with bench := t.bench.answered 0x22 reply extra } :=
  congrArg Host.Outcome.next (commandRow_of_benchFree hs heff ht)

theorem exec_setClock_of_benchFree {high low : Word} (hs : s.benchFree)
    (heff : setClockCommand high low s = (t, reply, extra)) (ht : t.benchFree) :
    exec (.setClock high low) s = .next { t with bench := t.bench.answered 0x23 reply extra } :=
  congrArg Host.Outcome.next (commandRow_of_benchFree hs heff ht)

/-- The clock is a 32-bit word, so that 4,294,967,295 is followed by 0. -/
theorem exec_clockTick : exec .clockTick s = .next (s.modReports fun q => { q with clock := q.clock + 1 }) := rfl

end

/-- Settles O27: each command's answer for its case, carried to the bench port; the settings touch nothing that makes the port
free. -/
theorem reportQueueSettings : Obligations.ReportQueueSettings := by
  refine ⟨fun k s hs => ⟨fun hk => ?ignored, fun hk hheld => ?wrongState, fun hk hreports hpending => ?based⟩,
    fun k s hs => ?station, fun high low s hs => ?clock, fun s => exec_clockTick⟩
  case ignored => exact exec_setReportBase_of_benchFree hs (setReportBaseCommand_ignored hk) hs
  case wrongState => exact exec_setReportBase_of_benchFree hs (setReportBaseCommand_wrongState hk hheld) hs
  case based => exact exec_setReportBase_of_benchFree hs (setReportBaseCommand_accepted hk hreports hpending) hs
  case station => exact exec_setStation_of_benchFree hs rfl hs
  case clock => exact exec_setClock_of_benchFree hs rfl hs

end Sys2Proof.Machine
end

section
/-! PROOFS. The checks of ZERO in order (R166), and its row on a free bench port: a failed check answered at once, or the ZERO in
progress and the command held. -/

namespace Sys2Proof.Machine

/-! ### The operands of ZERO (R195) -/

/-- A word codes no ZERO target exactly when it lies above 2. -/
theorem zeroTargetOf_eq_none_iff {w : Word} : zeroTargetOf w = none ↔ 2 < w.toNat := by
  unfold zeroTargetOf
  split_ifs with h0 h1 h2
  · simp [h0]
  · simp [h1]
  · simp [h2]
  · simp only [true_iff]
    bv_omega

/-- A word codes no ZERO length exactly when it lies above 1. -/
theorem zeroLengthOf_eq_none_iff {w : Word} : zeroLengthOf w = none ↔ 1 < w.toNat := by
  unfold zeroLengthOf
  split_ifs with h0 h1
  · simp [h0]
  · simp [h1]
  · simp only [true_iff]
    bv_omega

/-! ### The three checks in order (R166) -/

section
variable {b : Byte} {target length : Word} {s : State} {n : Nest} {t : ZeroTarget} {l : ZeroLength}

/-- A ZERO is allowed exactly when the nest's enable is off and, for a chamber target, the named circuit is IDLE. -/
theorem State.zeroAllowed_eq_true_iff :
    s.zeroAllowed n t = true ↔
      (s.channel n).enable = false ∧ ∀ c, t = .chamber c → (s.circuit n c).state = .idle := by
  cases t <;> simp [State.zeroAllowed]

theorem zeroChecks_badNest (hn : nestOf b = none) : zeroChecks b target length s = .error .badNest := by
  simp only [zeroChecks, hn]

theorem zeroChecks_ignored (hn : nestOf b = some n) (h : zeroTargetOf target = none ∨ zeroLengthOf length = none) :
    zeroChecks b target length s = .error .ignored := by
  obtain ht | hl := h
  · simp only [zeroChecks, hn, ht]
  · cases ht : zeroTargetOf target <;> simp only [zeroChecks, hn, ht, hl]

theorem zeroChecks_of_coded (hn : nestOf b = some n) (ht : zeroTargetOf target = some t) (hl : zeroLengthOf length = some l) :
    zeroChecks b target length s = if s.zeroAllowed n t then .ok ⟨n, t, l, 0, 0⟩ else .error .wrongState := by
  simp only [zeroChecks, hn, ht, hl]

/-! ### The row of ZERO on a free bench port -/

/-- A bench row on a free port takes its command on the state as it stands. -/
theorem State.benchRow_of_benchFree (hs : s.benchFree) (take : State → State) : s.benchRow take = take s := by
  have hheld : s.dropCommandLatch.bench.commandHeld = false := congrArg Option.isSome hs.1
  simp only [State.benchRow, hheld, State.dropCommandLatch_setCollected_of_benchFree hs, Bool.false_eq_true, if_false]

theorem exec_zero_of_benchFree (hs : s.benchFree) : exec (.zero b target length) s = .next (s.takeZero b target length) :=
  congrArg Host.Outcome.next (State.benchRow_of_benchFree hs _)

/-- A failed check is answered at once and changes nothing but the bench port. -/
theorem exec_zero_refused {reply : ReplyCode} (hs : s.benchFree) (hchecks : zeroChecks b target length s = .error reply) :
    exec (.zero b target length) s = .next { s with bench := s.bench.answered 0x09 reply [] } := by
  rw [exec_zero_of_benchFree hs, State.takeZero, hchecks]
  exact congrArg Host.Outcome.next (State.answer_of_benchFree hs zeroCode reply [])

/-- A ZERO that passes every check becomes the one in progress, and its words are held. -/
theorem exec_zero_held {z : ZeroInProgress} (hs : s.benchFree) (hchecks : zeroChecks b target length s = .ok z) :
    exec (.zero b target length) s =
      .next { s with
        interlock := { s.interlock with zero := some z }
        bench :=
          { s.bench with
            collected := []
            held := some [firstWord 0x09 b, target, length]
            writeLatches := { s.bench.writeLatches with command := none } } } := by
  rw [exec_zero_of_benchFree hs, State.takeZero, hchecks]
  obtain ⟨-, hcollected, hlatch⟩ := hs
  simp only [State.modInterlock, State.modBench, zeroWords, zeroCode]
  rw [← hcollected, ← hlatch]

end

/-- Settles O19: each refusal is the first of the three checks that fails, answered on the free port; a ZERO that passes them is
held with no sample taken. -/
theorem zeroIsHeldUntilAnswered : Obligations.ZeroIsHeldUntilAnswered := by
  intro b target length s hs
  refine ⟨fun hn => ?badNest, fun hn hcodes => ?ignored,
    fun n t l hn ht hl => ⟨fun hbusy => ?wrongState, fun henable hidle => ?held⟩⟩
  case badNest => exact exec_zero_refused hs (zeroChecks_badNest hn)
  case ignored =>
    obtain ⟨n, hn⟩ := Option.ne_none_iff_exists'.mp hn
    exact exec_zero_refused hs
      (zeroChecks_ignored hn (hcodes.imp zeroTargetOf_eq_none_iff.mpr zeroLengthOf_eq_none_iff.mpr))
  case wrongState =>
    have hnot : ¬ s.zeroAllowed n t = true := by
      rw [State.zeroAllowed_eq_true_iff]
      rintro ⟨henable, hidle⟩
      obtain hon | ⟨c, hc, hleft⟩ := hbusy
      · simp [henable] at hon
      · exact hleft (hidle c hc)
    exact exec_zero_refused hs ((zeroChecks_of_coded hn ht hl).trans (if_neg hnot))
  case held =>
    have hallowed : s.zeroAllowed n t = true := State.zeroAllowed_eq_true_iff.mpr ⟨henable, hidle⟩
    exact exec_zero_held hs ((zeroChecks_of_coded hn ht hl).trans (if_pos hallowed))

end Sys2Proof.Machine
end

section
/-! PROOFS. The enabled pending cause of highest priority (R181); READ_ATTENTION and ENABLE_ATTENTION (R182, R55), and their rows on
a free bench port. -/

namespace Sys2Proof.Machine

/-! ### The cause of highest priority (R181) -/

@[simp] theorem AttentionCause.mem_all (k : AttentionCause) : k ∈ AttentionCause.all := by
  cases k with
  | nestFault n => cases n <;> decide
  | judged n => cases n <;> decide
  | classChanged n => cases n <;> decide
  | _ => decide

/-- The causes are listed in the order of their numbers. -/
theorem AttentionCause.all_pairwise_number : AttentionCause.all.Pairwise fun j k => j.number < k.number := by decide

section
variable {b : Bench} {k : AttentionCause}

theorem Bench.highestCause_eq_none_iff :
    b.highestCause = none ↔ ∀ k, b.isPending k = false ∨ b.isEnabled k = false := by
  simp only [Bench.highestCause, List.find?_eq_none, AttentionCause.mem_all, Bool.not_eq_true,
    Bool.and_eq_false_iff, forall_const]

/-- The search runs through the causes in the order of their numbers, so that what it finds has the lowest number. -/
theorem Bench.highestCause_eq_some_iff :
    b.highestCause = some k ↔ (b.isPending k = true ∧ b.isEnabled k = true) ∧
      ∀ j : AttentionCause, j.number < k.number → b.isPending j = false ∨ b.isEnabled j = false := by
  simp only [Bench.highestCause, List.find?_eq_some_iff_append, Bool.and_eq_true, Bool.not_eq_true', Bool.and_eq_false_iff]
  refine and_congr_right fun _ => ⟨?lower, ?found⟩
  case lower =>
    rintro ⟨before, after, hall, hbefore⟩ j hj
    have hmem : j ∈ before ++ k :: after := hall ▸ j.mem_all
    have hsorted := hall ▸ AttentionCause.all_pairwise_number
    obtain ⟨-, hafter, -⟩ := List.pairwise_append.mp hsorted
    obtain hjb | rfl | hja : j ∈ before ∨ j = k ∨ j ∈ after := by simpa using hmem
    · exact hbefore j hjb
    · omega
    · have := List.rel_of_pairwise_cons hafter hja
      omega
  case found =>
    intro hlower
    obtain ⟨before, after, hall⟩ := List.append_of_mem k.mem_all
    refine ⟨before, after, hall, fun j hj => ?_⟩
    have hsorted := hall ▸ AttentionCause.all_pairwise_number
    obtain ⟨-, -, hcross⟩ := List.pairwise_append.mp hsorted
    exact hlower j (hcross j hj k List.mem_cons_self)

end

/-! ### The two commands, case by case (R182, R55) -/

/-- The state in which READ_ATTENTION has reported a cause: the cause no longer pending, and with a class change reported, the changed
flag of its monitor cleared (R182, R55). -/
def State.attentionReported (s : State) (k : AttentionCause) : State :=
  { s with
    bench := { s.bench with causes := s.bench.causes &&& ~~~k.bit }
    monitors :=
      match k with
      | .classChanged n => s.monitors.set n { s.monitor n with changed := false }
      | _ => s.monitors }

section
variable {s t : State} {k : AttentionCause} {mask : Word} {reply : ReplyCode} {extra : List Word}

/-- Reporting a cause leaves the bench port as free as it was. -/
theorem State.attentionReported_benchFree (hs : s.benchFree) : (s.attentionReported k).benchFree := hs

theorem readAttentionCommand_empty (h : s.bench.highestCause = none) : readAttentionCommand s = (s, .empty, [0]) := by
  simp only [readAttentionCommand, h]

theorem readAttentionCommand_accepted (h : s.bench.highestCause = some k) :
    readAttentionCommand s = (s.attentionReported k, .accepted, [BitVec.ofNat 16 k.number]) := by
  simp only [readAttentionCommand, h]
  cases k <;> rfl

/-- A mask has no bit from 9 up exactly when it is below 512. -/
theorem extractLsb'_nine_eq_zero_iff : mask.extractLsb' 9 7 = 0 ↔ mask.toNat < 512 := by
  rw [← BitVec.toNat_inj, BitVec.extractLsb'_toNat, Nat.shiftRight_eq_div_pow]
  have hmask : mask.toNat < 2 ^ 16 := mask.isLt
  simp only [BitVec.ofNat_eq_ofNat, BitVec.toNat_ofNat]
  omega

theorem enableAttentionCommand_ignored (h : 512 ≤ mask.toNat) : enableAttentionCommand mask s = (s, .ignored, []) :=
  if_pos fun hzero => (extractLsb'_nine_eq_zero_iff.mp hzero).not_ge h

theorem enableAttentionCommand_accepted (h : mask.toNat < 512) :
    enableAttentionCommand mask s = (s.modBench fun b => { b with enableMask := mask.setWidth 9 }, .accepted, []) := by
  rw [BitVec.setWidth_eq_extractLsb' (by decide)]
  exact if_neg (not_not.mpr (extractLsb'_nine_eq_zero_iff.mpr h))

/-! ### The rows of the two commands on a free bench port -/

theorem exec_readAttention_of_benchFree (hs : s.benchFree) (heff : readAttentionCommand s = (t, reply, extra))
    (ht : t.benchFree) :
    exec .readAttention s = .next { t with bench := t.bench.answered 0x28 reply extra } :=
  congrArg Host.Outcome.next (commandRow_of_benchFree hs heff ht)

theorem exec_enableAttention_of_benchFree (hs : s.benchFree) (heff : enableAttentionCommand mask s = (t, reply, extra))
    (ht : t.benchFree) :
    exec (.enableAttention mask) s = .next { t with bench := t.bench.answered 0x29 reply extra } :=
  congrArg Host.Outcome.next (commandRow_of_benchFree hs heff ht)

end

/-- Settles O28: the cause of lowest number among the enabled pending ones is the one the search finds; each command's answer for its
case is carried to the bench port. -/
theorem attentionCommandsAct : Obligations.AttentionCommandsAct := by
  refine fun s hs => ⟨fun hnone => ?empty, fun k hpending henabled hlower => ?reported,
    fun mask => ⟨fun hbig => ?ignored, fun hsmall => ?enabled⟩⟩
  case empty =>
    exact exec_readAttention_of_benchFree hs (readAttentionCommand_empty (Bench.highestCause_eq_none_iff.mpr hnone)) hs
  case reported =>
    have hk : s.bench.highestCause = some k := Bench.highestCause_eq_some_iff.mpr ⟨⟨hpending, henabled⟩, hlower⟩
    exact exec_readAttention_of_benchFree hs (readAttentionCommand_accepted hk) (State.attentionReported_benchFree hs)
  case ignored => exact exec_enableAttention_of_benchFree hs (enableAttentionCommand_ignored hbig) hs
  case enabled => exact exec_enableAttention_of_benchFree hs (enableAttentionCommand_accepted hsmall) hs

end Sys2Proof.Machine
end

section
/-! PROOFS. The plan of an image without offence lies in its ranges and meets the checks of the plan rules (R35 to R42). -/

namespace Sys2Proof.Machine

/-! ### What an image without offence passes, check by check (R41 to R43) -/

section
variable {img : List Word} {o s t : Nat}

theorem badPlanOffset_eq_none_iff : badPlanOffset img = none ↔ imageOffences img = [] := List.min?_eq_none_iff

theorem checkWord_eq_nil_iff {ok : Word → Bool} :
    checkWord img o ok = [] ↔ o < img.length ∧ ok (img.getD o 0) = true := by
  unfold checkWord
  by_cases h : o < img.length
  · simp [h]
  · simp [h]

theorem checkNat_eq_nil_iff {lo hi : Nat} :
    checkNat img o lo hi = [] ↔ o < img.length ∧ lo ≤ natAt img o ∧ natAt img o ≤ hi := by
  simp [checkNat, checkWord_eq_nil_iff, natAt]

theorem checkInt_eq_nil_iff {lo hi : Int} :
    checkInt img o lo hi = [] ↔ o < img.length ∧ lo ≤ intAt img o ∧ intAt img o ≤ hi := by
  simp [checkInt, checkWord_eq_nil_iff, intAt]

theorem checkNat32_eq_nil_iff {lo hi : Nat} :
    checkNat32 img o lo hi = [] ↔ o + 1 < img.length ∧ lo ≤ nat32At img o ∧ nat32At img o ≤ hi := by
  unfold checkNat32
  split <;> simp_all

theorem countAt_of_checkNat {lo hi : Nat} (h : checkNat img o lo hi = []) : countAt img o lo hi = some (natAt img o) :=
  if_pos (checkNat_eq_nil_iff.mp h)

/-- A guarded offence is none exactly when the guard fails. -/
theorem offence_ite_eq_nil_iff {c : Prop} [Decidable c] : (if c then [o] else []) = ([] : List Nat) ↔ ¬ c := by
  split <;> simp_all

theorem flatMap_range_eq_nil_iff {n : Nat} {f : Nat → List Nat} : (List.range n).flatMap f = [] ↔ ∀ i < n, f i = [] := by
  simp [List.flatMap_eq_nil_iff]

/-- The parts of an image without offence are without offence, their counts those of the header. -/
theorem imageOffences_eq_nil_parts (h : imageOffences img = []) :
    headerOffences img = [] ∧ stageOffences img (natAt img 9) = [] ∧ bodyOffences img (natAt img 9) (natAt img 10) = [] := by
  unfold imageOffences at h
  obtain ⟨hheader, hrest⟩ := List.append_eq_nil_iff.mp h
  have hcounts : checkNat img 9 1 8 = [] ∧ checkNat img 10 1 16 = [] := by
    simp only [headerOffences, List.append_eq_nil_iff] at hheader
    tauto
  rw [countAt_of_checkNat hcounts.1] at hrest
  obtain ⟨hstages, hbody⟩ := List.append_eq_nil_iff.mp hrest
  rw [countAt_of_checkNat hcounts.2] at hbody
  exact ⟨hheader, hstages, hbody⟩

/-- The parts of the body of an image without offence. -/
theorem bodyOffences_eq_nil_parts (hcount : checkNat img 12 0 8 = []) (h : bodyOffences img s t = []) :
    (∀ j < t, stepOffences img (stepsOffset s + 6 * j) = [] ∧
      stepCrossOffences img (stepsOffset s + 6 * j) (some (natAt img 12))
        (windowCounts img (natAt img 12) (capturesOffset s t)) (profileUnreferenced img s) = []) ∧
    leakSetOffences img (leakOffset s t) = [] ∧ leakSetOffences img (leakOffset s t + 13) = [] ∧
    captureOffences img (natAt img 12) (capturesOffset s t) = [] := by
  simpa [bodyOffences, countAt_of_checkNat hcount, List.append_eq_nil_iff, flatMap_range_eq_nil_iff, and_assoc] using h

/-- A capture definition without offence, and the definitions after it. -/
theorem captureOffences_succ_eq_nil {k : Nat} (h : captureOffences img (k + 1) o = []) :
    (checkWord img o (fun w => (w.toNat == 4) || (w.toNat == 8) || (w.toNat == 16) || (w.toNat == 32)) = [] ∧
      checkNat img (o + 1) 1 16 = [] ∧ checkNat img (o + 2) 1 32768 = [] ∧ checkNat img (o + 3) 0 8 = [] ∧
      checkNat img (o + 4) 0 8 = []) ∧
    (∀ i < natAt img (o + 3), lineOffences img (o + 5 + 3 * i) = []) ∧
    (∀ i < natAt img (o + 4), windowOffences img (o + 5 + 3 * natAt img (o + 3) + 3 * i) = []) ∧
    captureOffences img k (o + captureSizeAt img o) = [] := by
  rw [captureOffences] at h
  simp only [List.append_eq_nil_iff] at h
  obtain ⟨⟨⟨⟨⟨hrev, hblocks⟩, hlimit⟩, hlines⟩, hwindows⟩, hrest⟩ := h
  rw [countAt_of_checkNat hlines, countAt_of_checkNat hwindows] at hrest
  simp only [List.append_eq_nil_iff, flatMap_range_eq_nil_iff, and_assoc] at hrest
  exact ⟨⟨hrev, hblocks, hlimit, hlines, hwindows⟩, hrest⟩

@[simp] theorem length_capturesAt (img : List Word) (k o : Nat) : (capturesAt img k o).length = k := by
  induction k generalizing o with
  | zero => rfl
  | succ k ih => simp [capturesAt, ih]

/-! ### The fields of a decoded plan (R35 to R39) -/

/-- A step lies in the ranges of R37. -/
def Step.InRange (t : Step) : Prop :=
  -3000 ≤ t.target ∧ t.target ≤ 3000 ∧ t.rampUpdates ≤ 5000 ∧ 1 ≤ t.dwellUpdates ∧ t.dwellUpdates ≤ 30000 ∧
    1 ≤ t.torqueLimit ∧ t.torqueLimit ≤ 4000

theorem stepAt_inRange (h : stepOffences img o = []) : (stepAt img o).InRange := by
  simp only [stepOffences, List.append_eq_nil_iff, checkNat_eq_nil_iff, checkInt_eq_nil_iff] at h
  simp only [Step.InRange, stepAt]
  omega

/-- A step that names a capture names a defined one and moves at 100 rpm or more (R42). -/
theorem stepAt_capture {n k : Nat} {counts : List (Option Nat)} {unreferenced : Bool} (h : stepOffences img o = [])
    (hcross : stepCrossOffences img o (some n) counts unreferenced = []) (hk : (stepAt img o).capture = some k) :
    k = natAt img (o + 4) ∧ k < n ∧ 100 ≤ (stepAt img o).target.natAbs ∧ ∀ w, unreferenced = true → counts.getD k none ≠ some (w + 1) := by
  simp only [stepAt, Option.ite_none_left_eq_some, Option.some.injEq] at hk ⊢
  obtain ⟨hff, rfl⟩ := hk
  simp only [stepOffences, List.append_eq_nil_iff, checkWord_eq_nil_iff] at h
  obtain ⟨⟨-, hlen, hword⟩, -⟩ := h
  have hseven : natAt img (o + 4) ≤ 7 := by
    simp only [natAt, Bool.or_eq_true, decide_eq_true_eq, beq_iff_eq] at hword hff ⊢
    omega
  rw [stepCrossOffences, if_neg (by omega)] at hcross
  simp only [List.append_eq_nil_iff, offence_ite_eq_nil_iff] at hcross
  obtain ⟨hspeed, hdefined, hwindows⟩ := hcross
  have hdef : natAt img (o + 4) < n := by omega
  refine ⟨rfl, hdef, by omega, fun w hun hcount => ?_⟩
  rw [if_pos ⟨hun, hdef⟩, hcount] at hwindows
  simp at hwindows

/-- A leak set lies in the ranges of R38. -/
def LeakSet.InRange (l : LeakSet) : Prop :=
  5000 ≤ l.fillTarget ∧ l.fillTarget ≤ 150000 ∧ 1 ≤ l.fillTimeout ∧ l.fillTimeout ≤ 600 ∧ 1 ≤ l.settleTime ∧
    l.settleTime ≤ 600 ∧ 10 ≤ l.measureTime ∧ l.measureTime ≤ 600 ∧ 1 ≤ l.decayLimit ∧ l.decayLimit ≤ 20000 ∧
    l.compensation.length = 6 ∧ ∀ x ∈ l.compensation, -2000 ≤ x ∧ x ≤ 2000

theorem leakSetAt_inRange (h : leakSetOffences img o = []) : (leakSetAt img o).InRange := by
  simp only [leakSetOffences, List.append_eq_nil_iff, flatMap_range_eq_nil_iff, checkNat_eq_nil_iff, checkInt_eq_nil_iff,
    checkNat32_eq_nil_iff] at h
  obtain ⟨⟨⟨⟨⟨⟨hfill, htimeout⟩, hsettle⟩, hmeasure⟩, hdecay⟩, hcomp⟩, -⟩ := h
  refine ⟨hfill.2.1, hfill.2.2, htimeout.2.1, htimeout.2.2, hsettle.2.1, hsettle.2.2, hmeasure.2.1, hmeasure.2.2,
    hdecay.2.1, hdecay.2.2, by simp [leakSetAt], ?_⟩
  intro x hx
  obtain ⟨k, hk, rfl⟩ := List.mem_map.mp hx
  exact (hcomp k (List.mem_range.mp hk)).2

/-- A capture definition lies in the ranges of R39 and meets the extent of R42. -/
def CaptureDef.InRange (d : CaptureDef) : Prop :=
  d.revolutions ∈ [4, 8, 16, 32] ∧ 1 ≤ d.blocks ∧ d.blocks ≤ 16 ∧ 1 ≤ d.overallLimit ∧ d.overallLimit ≤ 32768 ∧
    d.lines.length ≤ 8 ∧ d.windows.length ≤ 8 ∧
    (∀ l ∈ d.lines, 1 ≤ l.q ∧ l.q ≤ 511 ∧ 1 ≤ l.driveLimit ∧ l.driveLimit ≤ 65535 ∧ 1 ≤ l.coastLimit ∧
      l.coastLimit ≤ 65535) ∧
    ∀ w ∈ d.windows, w.start ≤ 4095 ∧ w.stop ≤ 4095 ∧ w.start ≠ w.stop ∧ 1 ≤ w.peakLimit ∧ w.peakLimit ≤ 32768

theorem lineAt_inRange (h : lineOffences img o = []) :
    1 ≤ (lineAt img o).q ∧ (lineAt img o).q ≤ 511 ∧ 1 ≤ (lineAt img o).driveLimit ∧ (lineAt img o).driveLimit ≤ 65535 ∧
      1 ≤ (lineAt img o).coastLimit ∧ (lineAt img o).coastLimit ≤ 65535 := by
  simp only [lineOffences, List.append_eq_nil_iff, checkNat_eq_nil_iff] at h
  simp only [lineAt]
  omega

theorem windowAt_inRange (h : windowOffences img o = []) :
    (windowAt img o).start ≤ 4095 ∧ (windowAt img o).stop ≤ 4095 ∧ (windowAt img o).start ≠ (windowAt img o).stop ∧
      1 ≤ (windowAt img o).peakLimit ∧ (windowAt img o).peakLimit ≤ 32768 := by
  simp only [windowOffences, List.append_eq_nil_iff, checkNat_eq_nil_iff, offence_ite_eq_nil_iff] at h
  simp only [windowAt]
  omega

theorem captureAt_inRange {k : Nat} (h : captureOffences img (k + 1) o = []) : (captureAt img o).InRange := by
  obtain ⟨⟨hrev, hblocks, hlimit, hlines, hwindows⟩, hline, hwindow, -⟩ := captureOffences_succ_eq_nil h
  simp only [checkNat_eq_nil_iff, checkWord_eq_nil_iff, Bool.or_eq_true, beq_iff_eq] at hrev hblocks hlimit hlines hwindows
  refine ⟨?_, hblocks.2.1, hblocks.2.2, hlimit.2.1, hlimit.2.2, by simpa [captureAt] using hlines.2.2,
    by simpa [captureAt] using hwindows.2.2, fun l hl => ?_, fun w hw => ?_⟩
  · simp only [captureAt, natAt, List.mem_cons, List.not_mem_nil, or_false]
    omega
  · obtain ⟨i, hi, rfl⟩ := List.mem_map.mp hl
    exact lineAt_inRange (hline i (List.mem_range.mp hi))
  · obtain ⟨i, hi, rfl⟩ := List.mem_map.mp hw
    exact windowAt_inRange (hwindow i (List.mem_range.mp hi))

theorem capturesAt_inRange {k : Nat} (h : captureOffences img k o = []) : ∀ d ∈ capturesAt img k o, d.InRange := by
  induction k generalizing o with
  | zero => simp [capturesAt]
  | succ k ih =>
    simp only [capturesAt, List.forall_mem_cons]
    exact ⟨captureAt_inRange h, ih (captureOffences_succ_eq_nil h).2.2.2⟩

/-- The window counts found by the validation are those of the decoded definitions. -/
theorem windowCounts_getD {k c : Nat} {d : CaptureDef} (h : captureOffences img k o = []) (hd : (capturesAt img k o)[c]? = some d) :
    (windowCounts img k o).getD c none = some d.windows.length := by
  induction k generalizing o c with
  | zero => simp [capturesAt] at hd
  | succ k ih =>
    obtain ⟨⟨-, -, -, hlines, hwindows⟩, -, -, hrest⟩ := captureOffences_succ_eq_nil h
    rw [windowCounts, countAt_of_checkNat hlines, countAt_of_checkNat hwindows]
    cases c with
    | zero =>
      obtain rfl : captureAt img o = d := by simpa [capturesAt] using hd
      simp [captureAt]
    | succ c => simpa using ih hrest (by simpa [capturesAt] using hd)

/-! ### The stage list (R36, R42) -/

/-- The kind code of a stage (R36). -/
def Stage.kind : Stage → Nat
  | .leak _ _ => 1
  | .engage => 2
  | .reference => 3
  | .profile => 4

/-- The stage that a word codes is coded by that word and names a chamber if it is a LEAK stage. -/
theorem stageOf_eq_some {w : Word} {st : Stage} (h : stageOf w = some st) :
    st.word = w ∧ ∀ m set, st = .leak m set → m.c0 = true ∨ m.c1 = true := by
  unfold stageOf at h
  simp only at h
  split at h
  case h_2 => cases h
  case h_1 st' _ =>
    split at h
    case isFalse => cases h
    case isTrue hst =>
      obtain ⟨hword, hset0, hset1⟩ := hst
      obtain rfl : st' = st := Option.some.inj h
      refine ⟨hword, fun m set hm => ?_⟩
      obtain ⟨c0, c1⟩ := m
      cases set <;> cases c0 <;> cases c1 <;> simp_all

theorem Stage.word_kind (st : Stage) : (st.word.extractLsb' 8 4).toNat = st.kind := by
  match st with
  | .leak ⟨c0, c1⟩ set => cases c0 <;> cases c1 <;> cases set <;> rfl
  | .engage => rfl
  | .reference => rfl
  | .profile => rfl

theorem Stage.word_mask (m : ChamberSet) (set : LeakSetIx) : (Stage.leak m set).word.toNat % 4 = m.mask := by
  obtain ⟨c0, c1⟩ := m
  cases c0 <;> cases c1 <;> cases set <;> rfl

/-- Two sets that share a chamber have masks that share a bit. -/
theorem ChamberSet.mask_and_ne_zero {m m' : ChamberSet} {c : Chamber} (h : m.has c = true) (h' : m'.has c = true) :
    m.mask &&& m'.mask ≠ 0 := by
  obtain ⟨a, b⟩ := m
  obtain ⟨a', b'⟩ := m'
  cases c <;> simp only [ChamberSet.has] at h h' <;> subst h h'
  · cases b <;> cases b' <;> decide
  · cases a <;> cases a' <;> decide

theorem stageOffences_eq_nil (h : stageOffences img s = []) :
    (∀ i < s, stagesOffset + i < img.length ∧ (stageOf (img.getD (stagesOffset + i) 0)).isSome = true ∧
      stageCrossOk img i = true) ∧
    ¬ (earlierKind img s 2 = true ∧ 13 < img.length ∧ natAt img 13 = 0) := by
  simp only [stageOffences, List.append_eq_nil_iff, flatMap_range_eq_nil_iff, checkWord_eq_nil_iff,
    offence_ite_eq_nil_iff] at h
  refine ⟨fun i hi => ?_, h.2⟩
  obtain ⟨⟨hlen, hsome⟩, hcross⟩ := h.1 i hi
  exact ⟨hlen, hsome, by simpa using hcross⟩

theorem earlierKind_eq_true_iff {i kind : Nat} : earlierKind img i kind = true ↔ ∃ j < i, kindAt img j = kind := by
  simp [earlierKind]

end

/-- The stages of an image without offence, each coded by its word. -/
theorem planOfImage_stages {img : List Word} {i : Nat} {st : Stage} (h : stageOffences img (natAt img 9) = []) :
    (planOfImage img).stages[i]? = some st ↔
      i < natAt img 9 ∧ stageOf (img.getD (stagesOffset + i) 0) = some st := by
  by_cases hi : i < natAt img 9
  · obtain ⟨-, hcoded, -⟩ := (stageOffences_eq_nil h).1 i hi
    obtain ⟨st', hst'⟩ := Option.isSome_iff_exists.mp hcoded
    simp only [BitVec.ofNat_eq_ofNat] at hst'
    simp [planOfImage, hi, -List.getD_eq_getElem?_getD, hst']
  · simp [planOfImage, hi]

section
variable {img : List Word} {i : Nat} {st : Stage} (h : stageOffences img (natAt img 9) = [])
include h

theorem kindAt_of_stage (hst : (planOfImage img).stages[i]? = some st) : kindAt img i = st.kind := by
  obtain ⟨hi, hword⟩ := (planOfImage_stages h).mp hst
  obtain ⟨hlen, -, -⟩ := (stageOffences_eq_nil h).1 i hi
  rw [kindAt, if_pos hlen, ← (stageOf_eq_some hword).1, Stage.word_kind]
  cases st <;> rfl

theorem stage_of_kindAt (hi : i < natAt img 9) : ∃ st, (planOfImage img).stages[i]? = some st ∧ kindAt img i = st.kind := by
  obtain ⟨-, hsome, -⟩ := (stageOffences_eq_nil h).1 i hi
  obtain ⟨st, hst⟩ := Option.isSome_iff_exists.mp hsome
  have := (planOfImage_stages h).mpr ⟨hi, hst⟩
  exact ⟨st, this, kindAt_of_stage h this⟩

theorem maskAt_of_stage {m : ChamberSet} {set : LeakSetIx} (hst : (planOfImage img).stages[i]? = some (.leak m set)) :
    maskAt img i = m.mask := by
  obtain ⟨-, hword⟩ := (planOfImage_stages h).mp hst
  rw [maskAt, natAt, ← (stageOf_eq_some hword).1, Stage.word_mask]

/-- The kinds of the earlier stages are those that the validation found. -/
theorem earlierKind_iff_stage {kind : Nat} (hi : i ≤ natAt img 9) :
    earlierKind img i kind = true ↔ ∃ j < i, ∃ st, (planOfImage img).stages[j]? = some st ∧ st.kind = kind := by
  rw [earlierKind_eq_true_iff]
  constructor
  · rintro ⟨j, hj, hkind⟩
    obtain ⟨st, hst, hk⟩ := stage_of_kindAt h (i := j) (by omega)
    exact ⟨j, hj, st, hst, hk ▸ hkind⟩
  · rintro ⟨j, hj, st, hst, hkind⟩
    exact ⟨j, hj, (kindAt_of_stage h hst).trans hkind⟩

/-- What the checks of R42 on a stage entry say of the stage: engagement before reference and profile, one profile, each chamber once. -/
theorem stage_checks (hst : (planOfImage img).stages[i]? = some st) :
    ((st = .reference ∨ st = .profile) → ∃ j < i, (planOfImage img).stages[j]? = some .engage) ∧
    (st = .profile → ∀ j < i, (planOfImage img).stages[j]? ≠ some .profile) ∧
    ∀ m set, st = .leak m set → ∀ j < i, ∀ m' set', (planOfImage img).stages[j]? = some (.leak m' set') →
      ∀ c, ¬ (m.has c = true ∧ m'.has c = true) := by
  obtain ⟨hi, -⟩ := (planOfImage_stages h).mp hst
  obtain ⟨-, -, hcross⟩ := (stageOffences_eq_nil h).1 i hi
  have hkind := kindAt_of_stage h hst
  simp only [stageCrossOk, hkind, Bool.and_eq_true, Bool.not_eq_true', Bool.and_eq_false_iff, Bool.or_eq_false_iff,
    beq_eq_false_iff_ne, List.any_eq_false, List.mem_range] at hcross
  obtain ⟨⟨hengage, hone⟩, hleak⟩ := hcross
  refine ⟨fun href => ?_, fun hprofile j hj hpj => ?_, fun m set hm j hj m' set' hm' c hc => ?_⟩
  · have hearlier : earlierKind img i 2 = true := by
      rcases href with rfl | rfl <;> simpa [Stage.kind] using hengage
    obtain ⟨j, hj, st', hst', hk⟩ := (earlierKind_iff_stage h (Nat.le_of_lt hi)).mp hearlier
    refine ⟨j, hj, ?_⟩
    cases st' <;> simp_all [Stage.kind]
  · subst hprofile
    have hnone : earlierKind img i 4 = false := by simpa [Stage.kind] using hone
    have : earlierKind img i 4 = true := (earlierKind_iff_stage h (Nat.le_of_lt hi)).mpr ⟨j, hj, .profile, hpj, rfl⟩
    simp [this] at hnone
  · subst hm
    have hshare := ChamberSet.mask_and_ne_zero hc.1 hc.2
    rcases hleak with hleak | hleak
    · simp [Stage.kind] at hleak
    · refine hleak j hj ?_
      simp [kindAt_of_stage h hm', maskAt_of_stage h hst, maskAt_of_stage h hm', hshare, Stage.kind]

/-- A profile with no reference before it is found unreferenced. -/
theorem profileUnreferenced_of_stages (hst : (planOfImage img).stages[i]? = some .profile)
    (hno : ∀ j < i, (planOfImage img).stages[j]? ≠ some .reference) : profileUnreferenced img (natAt img 9) = true := by
  obtain ⟨hi, -⟩ := (planOfImage_stages h).mp hst
  have hfind : (List.range (natAt img 9)).find? (fun i => kindAt img i == 4) = some i := by
    rw [List.find?_range_eq_some]
    refine ⟨by simp [kindAt_of_stage h hst, Stage.kind], by simpa using hi, fun j hj => ?_⟩
    obtain ⟨st, hstj, hk⟩ := stage_of_kindAt h (i := j) (by omega)
    have hne : st ≠ .profile := fun he => (stage_checks h hst).2.1 rfl j hj (he ▸ hstj)
    cases st <;> simp_all [Stage.kind]
  rw [profileUnreferenced, hfind]
  simp only [Bool.not_eq_true']
  refine Bool.eq_false_iff.mpr fun hearlier => ?_
  obtain ⟨j, hj, st, hstj, hk⟩ := (earlierKind_iff_stage h (Nat.le_of_lt hi)).mp hearlier
  refine hno j hj ?_
  cases st <;> simp_all [Stage.kind]

end

/-! ### The plan of an image without offence -/

section
variable {img : List Word} (h : badPlanOffset img = none)
include h

theorem headerOffences_of_accepted : headerOffences img = [] :=
  (imageOffences_eq_nil_parts (badPlanOffset_eq_none_iff.mp h)).1

theorem stageOffences_of_accepted : stageOffences img (natAt img 9) = [] :=
  (imageOffences_eq_nil_parts (badPlanOffset_eq_none_iff.mp h)).2.1

/-- The header fields of an accepted image, each within the image and in its range (R35). -/
theorem headerFields_of_accepted :
    (checkNat img 0 0 12 = [] ∧ labelOffences img = [] ∧ checkNat img 7 0 1 = [] ∧ checkNat img 8 0 1 = []) ∧
    (checkNat img 9 1 8 = [] ∧ checkNat img 10 1 16 = [] ∧ checkNat img 11 1 8 = [] ∧ checkNat img 12 0 8 = []) ∧
    checkNat img 13 0 7 = [] ∧ checkNat img 14 20 1000 = [] ∧ checkNat img 15 30 300 = [] ∧ checkNat img 16 0 1 = [] ∧
    checkNat img 17 0 15 = [] := by
  have hheader := headerOffences_of_accepted h
  simp only [headerOffences, List.append_eq_nil_iff] at hheader
  tauto

theorem bodyParts_of_accepted :
    (∀ j < natAt img 10, stepOffences img (stepsOffset (natAt img 9) + 6 * j) = [] ∧
      stepCrossOffences img (stepsOffset (natAt img 9) + 6 * j) (some (natAt img 12))
        (windowCounts img (natAt img 12) (capturesOffset (natAt img 9) (natAt img 10)))
        (profileUnreferenced img (natAt img 9)) = []) ∧
    leakSetOffences img (leakOffset (natAt img 9) (natAt img 10)) = [] ∧
    leakSetOffences img (leakOffset (natAt img 9) (natAt img 10) + 13) = [] ∧
    captureOffences img (natAt img 12) (capturesOffset (natAt img 9) (natAt img 10)) = [] :=
  bodyOffences_eq_nil_parts (headerFields_of_accepted h).2.1.2.2.2
    (imageOffences_eq_nil_parts (badPlanOffset_eq_none_iff.mp h)).2.2

/-- Every character of the label is printable (R35, R41). -/
theorem label_printable_of_accepted : ∀ c ∈ (planOfImage img).label, 0x20 ≤ c.toNat ∧ c.toNat ≤ 0x7E := by
  obtain ⟨⟨hlen, hlabel, -, -⟩, -⟩ := headerFields_of_accepted h
  rw [labelOffences, countAt_of_checkNat hlen] at hlabel
  simp only [flatMap_range_eq_nil_iff, checkWord_eq_nil_iff, Bool.and_eq_true] at hlabel
  obtain ⟨-, -, hmax⟩ := checkNat_eq_nil_iff.mp hlen
  intro c hc
  obtain ⟨i, hi, rfl⟩ := List.mem_map.mp hc
  rw [List.mem_range] at hi
  obtain ⟨-, heven, hodd⟩ := hlabel (i / 2) (by omega)
  rcases Nat.mod_two_eq_zero_or_one i with hpar | hpar
  · simp only [labelCharOk, if_pos (show 2 * (i / 2) < natAt img 0 by omega), Bool.and_eq_true, decide_eq_true_eq] at heven
    rw [labelByteAt, if_pos hpar]
    exact heven
  · simp only [labelCharOk, if_pos (show 2 * (i / 2) + 1 < natAt img 0 by omega), Bool.and_eq_true, decide_eq_true_eq] at hodd
    rw [labelByteAt, if_neg (by omega)]
    exact hodd

theorem searchSpeed_of_accepted : 30 ≤ (planOfImage img).searchSpeed ∧ (planOfImage img).searchSpeed ≤ 300 :=
  (checkNat_eq_nil_iff.mp (headerFields_of_accepted h).2.2.2.2.1).2

omit h in
theorem exists_stepAt_of_mem {t : Step} (ht : t ∈ (planOfImage img).steps) :
    ∃ j < natAt img 10, t = stepAt img (stepsOffset (natAt img 9) + 6 * j) := by
  obtain ⟨j, hj, rfl⟩ := List.mem_map.mp ht
  exact ⟨j, List.mem_range.mp hj, rfl⟩

theorem step_inRange_of_accepted {t : Step} (ht : t ∈ (planOfImage img).steps) : t.InRange := by
  obtain ⟨j, hj, rfl⟩ := exists_stepAt_of_mem ht
  exact stepAt_inRange ((bodyParts_of_accepted h).1 j hj).1

theorem step_capture_of_accepted {t : Step} {k : Nat} (ht : t ∈ (planOfImage img).steps) (hk : t.capture = some k) :
    k < (planOfImage img).captures.length ∧ 100 ≤ t.target.natAbs ∧
      (profileUnreferenced img (natAt img 9) = true → ∀ d, (planOfImage img).captures[k]? = some d → d.windows = []) := by
  obtain ⟨j, hj, rfl⟩ := exists_stepAt_of_mem ht
  obtain ⟨hsteps, -, -, hcaptures⟩ := bodyParts_of_accepted h
  obtain ⟨-, hdefined, hspeed, hwindows⟩ := stepAt_capture (hsteps j hj).1 (hsteps j hj).2 hk
  refine ⟨by simpa [planOfImage] using hdefined, hspeed, fun hun d hd => ?_⟩
  have hcount := windowCounts_getD hcaptures hd
  cases hw : d.windows with
  | nil => rfl
  | cons w ws => exact absurd (by rw [hcount, hw]; rfl) (hwindows ws.length hun)

theorem stages_unique_of_accepted {i j : Nat} (hi : (planOfImage img).stages[i]? = some .profile)
    (hj : (planOfImage img).stages[j]? = some .profile) : i = j := by
  have hcheck {a b : Nat} (ha : (planOfImage img).stages[a]? = some .profile)
      (hb : (planOfImage img).stages[b]? = some .profile) : ¬ a < b := fun hab =>
    (stage_checks (stageOffences_of_accepted h) hb).2.1 rfl a hab ha
  exact Nat.le_antisymm (Nat.not_lt.mp (hcheck hj hi)) (Nat.not_lt.mp (hcheck hi hj))

theorem chambers_unique_of_accepted {i j : Nat} {m m' : ChamberSet} {set set' : LeakSetIx} {c : Chamber}
    (hi : (planOfImage img).stages[i]? = some (.leak m set)) (hj : (planOfImage img).stages[j]? = some (.leak m' set'))
    (hc : m.has c = true) (hc' : m'.has c = true) : i = j := by
  have hcheck {a b : Nat} {k k' : ChamberSet} {x x' : LeakSetIx} (ha : (planOfImage img).stages[a]? = some (.leak k x))
      (hb : (planOfImage img).stages[b]? = some (.leak k' x')) (hk : k.has c = true) (hk' : k'.has c = true) : ¬ a < b :=
    fun hab => (stage_checks (stageOffences_of_accepted h) hb).2.2 _ _ rfl a hab _ _ ha c ⟨hk', hk⟩
  exact Nat.le_antisymm (Nat.not_lt.mp (hcheck hj hi hc' hc)) (Nat.not_lt.mp (hcheck hi hj hc hc'))

theorem attemptsMask_of_accepted (hengage : Stage.engage ∈ (planOfImage img).stages) : (planOfImage img).attemptsMask ≠ 0 := by
  intro hzero
  have hstages := stageOffences_of_accepted h
  obtain ⟨i, hi⟩ := List.mem_iff_getElem?.mp hengage
  refine (stageOffences_eq_nil hstages).2 ⟨(earlierKind_iff_stage hstages le_rfl).mpr
    ⟨i, ((planOfImage_stages hstages).mp hi).1, .engage, hi, rfl⟩, ?_, hzero⟩
  exact (checkNat_eq_nil_iff.mp (headerFields_of_accepted h).2.2.1).1

end

/-- Settles O30: the header by its ranges; steps, leak sets and capture definitions by their own checks; the stage list by the checks
of R42, which the validation makes on the kind codes and masks of the words. -/
theorem acceptedPlanLiesInItsRanges : Obligations.AcceptedPlanLiesInItsRanges := by
  rintro img _ h rfl
  obtain ⟨⟨hlabel, -⟩, ⟨hs, ht, hcycles, hcount⟩, hmask, hjam, hspeed, -, hindex⟩ := headerFields_of_accepted h
  simp only [checkNat_eq_nil_iff] at hlabel hs ht hcycles hcount hmask hjam hspeed hindex
  obtain ⟨-, hset0, hset1, hcaptures⟩ := bodyParts_of_accepted h
  have hstages := stageOffences_of_accepted h
  refine ⟨by simpa [planOfImage] using hlabel.2.2, label_printable_of_accepted h, by simpa [planOfImage] using hs.2.1,
    by simpa [planOfImage] using hs.2.2, by simpa [planOfImage] using ht.2.1, by simpa [planOfImage] using ht.2.2,
    hcycles.2.1, hcycles.2.2, by simpa [planOfImage] using hcount.2.2, hmask.2.2, hjam.2.1, hjam.2.2, hspeed.2.1, hspeed.2.2,
    hindex.2.2, ?_, ?_, capturesAt_inRange hcaptures, ?_, attemptsMask_of_accepted h,
    fun _ _ => stages_unique_of_accepted h, ?_, fun _ _ _ _ _ _ _ => chambers_unique_of_accepted h, ?_⟩
  · intro t ht
    obtain ⟨h1, h2, h3, h4, h5, h6, h7⟩ := step_inRange_of_accepted h ht
    exact ⟨h1, h2, h3, h4, h5, h6, h7, fun k hk =>
      ⟨(step_capture_of_accepted h ht hk).1, (step_capture_of_accepted h ht hk).2.1⟩⟩
  · rintro l (rfl | rfl)
    · exact leakSetAt_inRange hset0
    · exact leakSetAt_inRange hset1
  · rintro i (hi | hi)
    · exact (stage_checks hstages hi).1 (.inl rfl)
    · exact (stage_checks hstages hi).1 (.inr rfl)
  · intro m set hm
    obtain ⟨i, hi⟩ := List.mem_iff_getElem?.mp hm
    exact (stageOf_eq_some ((planOfImage_stages hstages).mp hi).2).2 m set rfl
  · intro i hi hno t ht k d hk hd
    exact (step_capture_of_accepted h ht hk).2.2 (profileUnreferenced_of_stages hstages hi hno) d hd

end Sys2Proof.Machine
end

section
/-! PROOFS. An image without offence is the image of the plan read from it (R44, R46, R192): each part of the layout holds, at its offset,
the words of the field that is decoded there. -/

namespace Sys2Proof.Machine

/-! ### Words at an offset of an image -/

/-- The words of a list stand one after the other in an image from an offset on. -/
def HoldsAt (img : List Word) (o : Nat) (ws : List Word) : Prop := ∀ (k : Nat) (w : Word), ws[k]? = some w → img[o + k]? = some w

section
variable {img : List Word} {o n : Nat}

@[simp] theorem holdsAt_nil : HoldsAt img o [] := fun _ _ h => nomatch h

@[simp] theorem holdsAt_cons {w : Word} {ws : List Word} :
    HoldsAt img o (w :: ws) ↔ img[o]? = some w ∧ HoldsAt img (o + 1) ws := by
  constructor
  · intro h
    exact ⟨h 0 w rfl, fun k x hx => by simpa [Nat.add_right_comm, Nat.add_assoc] using h (k + 1) x (by simpa using hx)⟩
  · rintro ⟨h0, h⟩ (_ | k) x hx
    · simpa [h0] using hx
    · simpa [Nat.add_right_comm, Nat.add_assoc] using h k x (by simpa using hx)

theorem holdsAt_append {a b : List Word} :
    HoldsAt img o (a ++ b) ↔ HoldsAt img o a ∧ HoldsAt img (o + a.length) b := by
  induction a generalizing o with
  | nil => simp
  | cons w a ih => simp [ih, and_assoc, Nat.add_assoc, Nat.add_comm 1]

/-- Words read off one by one. -/
theorem holdsAt_map_range {f : Nat → Word} (h : ∀ j < n, img[o + j]? = some (f j)) : HoldsAt img o ((List.range n).map f) := by
  intro k w hk
  have hlt : k < n := by simpa using (List.getElem?_eq_some_iff.mp hk).1
  rw [h k hlt]
  simpa [hlt] using hk

/-- Records of one size `m`, read off one after the other. -/
theorem holdsAt_flatMap_range {f : Nat → List Word} {m : Nat} (hlen : ∀ j < n, (f j).length = m)
    (h : ∀ j < n, HoldsAt img (o + m * j) (f j)) :
    HoldsAt img o ((List.range n).flatMap f) ∧ ((List.range n).flatMap f).length = m * n := by
  induction n with
  | zero => simp
  | succ n ih =>
    obtain ⟨hold, hl⟩ := ih (fun j hj => hlen j (by omega)) (fun j hj => h j (by omega))
    rw [List.range_succ, List.flatMap_append]
    refine ⟨holdsAt_append.mpr ⟨hold, ?_⟩, ?_⟩
    · simpa [hl] using h n (by omega)
    · simp [hl, hlen n (by omega), Nat.mul_succ]

/-- Words that stand from offset 0 on and reach the end are the image. -/
theorem eq_of_holdsAt_zero {ws : List Word} (h : HoldsAt img 0 ws) (hlen : img.length ≤ ws.length) : ws = img := by
  refine List.ext_getElem? fun k => ?_
  rcases Nat.lt_or_ge k ws.length with hk | hk
  · rw [List.getElem?_eq_getElem hk]
    simpa using (h k ws[k] (List.getElem?_eq_getElem hk)).symm
  · rw [List.getElem?_eq_none hk, List.getElem?_eq_none (hlen.trans hk)]

/-! ### One field, decoded and coded again -/

theorem getElem?_of_lt (h : o < img.length) : img[o]? = some (img.getD o 0) := by simp [h]

theorem getElem?_eq_natWord (h : o < img.length) : img[o]? = some (natWord (natAt img o)) := by
  rw [getElem?_of_lt h, natWord, natAt, BitVec.ofNat_toNat, BitVec.setWidth_eq]

theorem getElem?_eq_intWord (h : o < img.length) : img[o]? = some (intWord (intAt img o)) := by
  rw [getElem?_of_lt h, intWord, intAt, BitVec.ofInt_toInt]

theorem getElem?_of_checkNat {lo hi : Nat} (h : checkNat img o lo hi = []) : img[o]? = some (natWord (natAt img o)) :=
  getElem?_eq_natWord (checkNat_eq_nil_iff.mp h).1

theorem getElem?_of_checkInt {lo hi : Int} (h : checkInt img o lo hi = []) : img[o]? = some (intWord (intAt img o)) :=
  getElem?_eq_intWord (checkInt_eq_nil_iff.mp h).1

/-- A field of two values, coded 0 and 1, is read back. -/
theorem getElem?_of_check01 {α : Type} {f : α → Word} {a b : α} (h : checkNat img o 0 1 = []) (ha : f a = 0) (hb : f b = 1) :
    img[o]? = some (f (if natAt img o = 0 then a else b)) := by
  obtain ⟨hlt, -, hmax⟩ := checkNat_eq_nil_iff.mp h
  rw [getElem?_eq_natWord hlt]
  rcases Nat.le_one_iff_eq_zero_or_eq_one.mp hmax with h0 | h1
  · simp [h0, ha, natWord]
  · simp [h1, hb, natWord]

theorem getElem?_flagWord (h : checkNat img o 0 1 = []) : img[o]? = some (flagWord (natAt img o = 1)) := by
  obtain ⟨hlt, -, hmax⟩ := checkNat_eq_nil_iff.mp h
  rw [getElem?_eq_natWord hlt]
  rcases Nat.le_one_iff_eq_zero_or_eq_one.mp hmax with h0 | h1
  · simp [h0, natWord, flagWord]
  · simp [h1, natWord, flagWord]

theorem holdsAt_words32 (h : o + 1 < img.length) : HoldsAt img o (words32 (nat32At img o)) := by
  have hlow : natAt img (o + 1) < 65536 := (img.getD (o + 1) 0).isLt
  have hhigh : nat32At img o / 65536 = natAt img o := by simp only [nat32At]; omega
  have hword : BitVec.ofNat 16 (nat32At img o) = natWord (natAt img (o + 1)) := by
    apply BitVec.eq_of_toNat_eq
    simp only [natWord, BitVec.toNat_ofNat, nat32At]
    omega
  simp only [words32, holdsAt_cons, holdsAt_nil, and_true, hhigh, hword]
  exact ⟨getElem?_eq_natWord (by omega), getElem?_eq_natWord h⟩

/-! ### The parts of the layout (R40, R192) -/

theorem holdsAt_step (h : stepOffences img o = []) : HoldsAt img o (stepAt img o).words := by
  simp only [stepOffences, List.append_eq_nil_iff] at h
  obtain ⟨⟨⟨⟨⟨htarget, hramp⟩, hdwell⟩, htorque⟩, hcapture⟩, hside⟩ := h
  have hcaptureWord : img[o + 4]? = some (captureWord (stepAt img o).capture) := by
    rw [getElem?_eq_natWord (checkWord_eq_nil_iff.mp hcapture).1]
    by_cases hff : natAt img (o + 4) = 0xFF
    · simp [stepAt, hff, captureWord, natWord]
    · simp [stepAt, hff, captureWord]
  simp only [Step.words, holdsAt_cons, holdsAt_nil, and_true, Nat.add_assoc, Nat.reduceAdd]
  exact ⟨getElem?_of_checkInt htarget, getElem?_of_checkNat hramp, getElem?_of_checkNat hdwell, getElem?_of_checkNat htorque,
    hcaptureWord, getElem?_of_check01 hside rfl rfl⟩

theorem holdsAt_leakSet (h : leakSetOffences img o = []) :
    HoldsAt img o (leakSetAt img o).words ∧ (leakSetAt img o).words.length = 13 := by
  simp only [leakSetOffences, List.append_eq_nil_iff, flatMap_range_eq_nil_iff] at h
  obtain ⟨⟨⟨⟨⟨⟨hfill, htimeout⟩, hsettle⟩, hmeasure⟩, hdecay⟩, hcomp⟩, hafter⟩ := h
  have hcompensation : HoldsAt img (o + 6) ((leakSetAt img o).compensation.map intWord) := by
    rw [leakSetAt, List.map_map]
    exact holdsAt_map_range fun k hk => getElem?_of_checkInt (hcomp k hk)
  refine ⟨?_, by simp [LeakSet.words, words32, leakSetAt]⟩
  have hlen : (leakSetAt img o).compensation.length = 6 := by simp [leakSetAt]
  simp only [LeakSet.words, holdsAt_append, holdsAt_cons, holdsAt_nil, and_true, words32, List.length_append,
    List.length_cons, List.length_nil, List.length_map, hlen, Nat.add_assoc, Nat.reduceAdd]
  exact ⟨⟨⟨by simpa [words32, leakSetAt] using holdsAt_words32 (checkNat32_eq_nil_iff.mp hfill).1, getElem?_of_checkNat htimeout,
    getElem?_of_checkNat hsettle, getElem?_of_checkNat hmeasure, getElem?_of_checkNat hdecay⟩, hcompensation⟩,
    getElem?_of_check01 hafter rfl rfl⟩

theorem holdsAt_line (h : lineOffences img o = []) : HoldsAt img o (lineAt img o).words := by
  simp only [lineOffences, List.append_eq_nil_iff] at h
  simp only [OrderLine.words, holdsAt_cons, holdsAt_nil, and_true, Nat.add_assoc, Nat.reduceAdd]
  exact ⟨getElem?_of_checkNat h.1.1, getElem?_of_checkNat h.1.2, getElem?_of_checkNat h.2⟩

theorem holdsAt_window (h : windowOffences img o = []) : HoldsAt img o (windowAt img o).words := by
  simp only [windowOffences, List.append_eq_nil_iff] at h
  simp only [ImpactWindow.words, holdsAt_cons, holdsAt_nil, and_true, Nat.add_assoc, Nat.reduceAdd]
  exact ⟨getElem?_of_checkNat h.1.1.1, getElem?_of_checkNat h.1.1.2, getElem?_of_checkNat h.1.2⟩

/-- A capture definition stands at its offset and has the size that locates the next one. -/
theorem holdsAt_capture {k : Nat} (h : captureOffences img (k + 1) o = []) :
    HoldsAt img o (captureAt img o).words ∧ (captureAt img o).words.length = captureSizeAt img o := by
  obtain ⟨⟨hrev, hblocks, hlimit, hlines, hwindows⟩, hline, hwindow, -⟩ := captureOffences_succ_eq_nil h
  obtain ⟨hlineHold, hlineLen⟩ := holdsAt_flatMap_range (o := o + 5) (m := 3)
    (f := fun i => (lineAt img (o + 5 + 3 * i)).words) (fun _ _ => rfl) (fun i hi => holdsAt_line (hline i hi))
  obtain ⟨hwindowHold, hwindowLen⟩ := holdsAt_flatMap_range (o := o + 5 + 3 * natAt img (o + 3)) (m := 3)
    (f := fun i => (windowAt img (o + 5 + 3 * natAt img (o + 3) + 3 * i)).words) (fun _ _ => rfl)
    (fun i hi => holdsAt_window (hwindow i hi))
  simp only [CaptureDef.words, captureAt, List.flatMap_map, List.length_map, List.length_range]
  refine ⟨?_, ?_⟩
  · simp only [holdsAt_append, List.length_append, List.length_cons, List.length_nil, hlineLen, ← Nat.add_assoc]
    refine ⟨⟨?_, hlineHold⟩, hwindowHold⟩
    simp only [holdsAt_cons, holdsAt_nil, and_true, Nat.add_assoc, Nat.reduceAdd]
    exact ⟨getElem?_eq_natWord (checkWord_eq_nil_iff.mp hrev).1, getElem?_of_checkNat hblocks, getElem?_of_checkNat hlimit,
      getElem?_of_checkNat hlines, getElem?_of_checkNat hwindows⟩
  · simp only [List.length_append, hlineLen, hwindowLen, captureSizeAt, List.length_cons, List.length_nil]
    omega

/-- The capture definitions stand from their offset on and reach the end of the image (R43). -/
theorem holdsAt_captures {k : Nat} (h : captureOffences img k o = []) :
    HoldsAt img o ((capturesAt img k o).flatMap CaptureDef.words) ∧
      img.length ≤ o + ((capturesAt img k o).flatMap CaptureDef.words).length := by
  induction k generalizing o with
  | zero =>
    have hend : ¬ o < img.length := offence_ite_eq_nil_iff.mp h
    simpa [capturesAt] using hend
  | succ k ih =>
    obtain ⟨hold, hlen⟩ := holdsAt_capture h
    obtain ⟨hrest, hend⟩ := ih (captureOffences_succ_eq_nil h).2.2.2
    rw [capturesAt, List.flatMap_cons, holdsAt_append, List.length_append, hlen]
    exact ⟨⟨hold, hrest⟩, by omega⟩

theorem holdsAt_stages (h : stageOffences img (natAt img 9) = []) :
    HoldsAt img stagesOffset ((planOfImage img).stages.map Stage.word) := by
  simp only [planOfImage, List.map_map]
  refine holdsAt_map_range fun i hi => ?_
  obtain ⟨hlen, hsome, -⟩ := (stageOffences_eq_nil h).1 i hi
  obtain ⟨st, hst⟩ := Option.isSome_iff_exists.mp hsome
  rw [Function.comp_apply, hst, Option.getD_some, (stageOf_eq_some hst).1, getElem?_of_lt hlen]

/-! ### The header -/

/-- Within the label area the characters of the decoded label are those of the image, 0 beyond the label length (R41). -/
theorem labelChar_of_image {i : Nat} (hlen : checkNat img 0 0 12 = []) (hlabel : labelOffences img = []) (hi : i < 12) :
    labelChar (planOfImage img).label i = labelByteAt img i := by
  rw [labelOffences, countAt_of_checkNat hlen] at hlabel
  simp only [flatMap_range_eq_nil_iff, checkWord_eq_nil_iff, Bool.and_eq_true] at hlabel
  by_cases hn : i < natAt img 0
  · simp [labelChar, planOfImage, hn]
  · obtain ⟨-, heven, hodd⟩ := hlabel (i / 2) (by omega)
    have hzero : labelByteAt img i = 0 := by
      rcases Nat.mod_two_eq_zero_or_one i with hpar | hpar
      · rw [labelCharOk, if_neg (by omega), beq_iff_eq] at heven
        rw [labelByteAt, if_pos hpar, heven]
      · rw [labelCharOk, if_neg (by omega), beq_iff_eq] at hodd
        rw [labelByteAt, if_neg (by omega), hodd]
    rw [hzero]
    simp [labelChar, planOfImage, hn]

theorem word_of_bytes (w : Word) : w.extractLsb' 8 8 ++ w.extractLsb' 0 8 = w := by
  apply BitVec.eq_of_getLsbD_eq
  intro i hi
  simp only [BitVec.getLsbD_append, BitVec.getLsbD_extractLsb']
  by_cases h : i < 8
  · simp [h]
  · have : i - 8 < 8 := by omega
    simp [h, this, show 8 + (i - 8) = i by omega]

theorem holdsAt_labelWords (h0 : checkNat img 0 0 12 = []) (hlabel : labelOffences img = []) :
    HoldsAt img 1 (labelWords (planOfImage img).label) := by
  refine holdsAt_map_range fun k hk => ?_
  have hlt : 1 + k < img.length := by
    rw [labelOffences, countAt_of_checkNat h0] at hlabel
    simp only [flatMap_range_eq_nil_iff, checkWord_eq_nil_iff] at hlabel
    exact (hlabel k hk).1
  rw [labelChar_of_image h0 hlabel (by omega), labelChar_of_image h0 hlabel (by omega), getElem?_of_lt hlt]
  simp only [labelByteAt, Nat.mul_mod_right, if_true, show (2 * k + 1) % 2 = 1 by omega, if_neg (show ¬ (1 = 0) by decide),
    show 2 * k / 2 = k by omega, show (2 * k + 1) / 2 = k by omega, word_of_bytes]

theorem holdsAt_header (h : badPlanOffset img = none) : HoldsAt img 0 (planOfImage img).headerWords := by
  obtain ⟨⟨h0, hlabel, h7, h8⟩, ⟨h9, h10, h11, h12⟩, h13, h14, h15, h16, h17⟩ := headerFields_of_accepted h
  simp only [Plan.headerWords, List.cons_append, holdsAt_cons, holdsAt_append, holdsAt_nil, and_true, Nat.zero_add,
    show (labelWords (planOfImage img).label).length = 6 by simp [labelWords], Nat.reduceAdd]
  refine ⟨?_, holdsAt_labelWords h0 hlabel, getElem?_flagWord h7, getElem?_flagWord h8, ?_, ?_, getElem?_of_checkNat h11, ?_,
    getElem?_of_checkNat h13, getElem?_of_checkNat h14, getElem?_of_checkNat h15, getElem?_of_check01 h16 rfl rfl,
    getElem?_of_checkNat h17⟩
  · simpa [planOfImage] using getElem?_of_checkNat h0
  · simpa [planOfImage] using getElem?_of_checkNat h9
  · simpa [planOfImage] using getElem?_of_checkNat h10
  · simpa [planOfImage] using getElem?_of_checkNat h12

theorem image_planOfImage (h : badPlanOffset img = none) : (planOfImage img).image = img := by
  obtain ⟨hsteps, hset0, hset1, hcaptures⟩ := bodyParts_of_accepted h
  obtain ⟨hstepHold, hstepLen⟩ := holdsAt_flatMap_range (o := stepsOffset (natAt img 9)) (m := 6)
    (f := fun j => (stepAt img (stepsOffset (natAt img 9) + 6 * j)).words) (fun _ _ => rfl)
    (fun j hj => holdsAt_step (hsteps j hj).1)
  obtain ⟨hhold0, hlen0⟩ := holdsAt_leakSet hset0
  obtain ⟨hhold1, hlen1⟩ := holdsAt_leakSet hset1
  obtain ⟨hcapHold, hcapEnd⟩ := holdsAt_captures hcaptures
  have hheader : (planOfImage img).headerWords.length = 18 := by simp [Plan.headerWords, labelWords]
  have hstages : ((planOfImage img).stages.map Stage.word).length = natAt img 9 := by simp [planOfImage]
  have hsteps : (planOfImage img).steps.flatMap Step.words =
      (List.range (natAt img 10)).flatMap fun j => (stepAt img (stepsOffset (natAt img 9) + 6 * j)).words := by
    simp [planOfImage, List.flatMap_map]
  have hleak0 : (planOfImage img).leakSet0 = leakSetAt img (leakOffset (natAt img 9) (natAt img 10)) := rfl
  have hleak1 : (planOfImage img).leakSet1 = leakSetAt img (leakOffset (natAt img 9) (natAt img 10) + 13) := rfl
  have hcaps : (planOfImage img).captures = capturesAt img (natAt img 12) (capturesOffset (natAt img 9) (natAt img 10)) := rfl
  rw [Plan.image, hsteps, hleak0, hleak1, hcaps]
  refine eq_of_holdsAt_zero ?_ ?_
  · simp only [holdsAt_append, List.length_append, hheader, hstages, hstepLen, hlen0, hlen1, Nat.zero_add]
    exact ⟨⟨⟨⟨⟨holdsAt_header h, holdsAt_stages (stageOffences_of_accepted h)⟩, hstepHold⟩, hhold0⟩, hhold1⟩, hcapHold⟩
  · simp only [List.length_append, hheader, hstages, hstepLen, hlen0, hlen1]
    exact hcapEnd

end

/-- A list of commands runs its first command and goes on from there. -/
theorem execAll_cons {c : Instr} {cs : List Instr} {s t : State} (h : exec c s = .next t) :
    execAll (c :: cs) s = execAll cs t := by
  simp only [execAll, h]

/-- Settles O29: the layout part by part for the image; LOAD_PLAN then leaves that plan in the store, whose image READ_PLAN puts out. -/
theorem acceptedImageIsReadBack : Obligations.AcceptedImageIsReadBack := by
  refine ⟨fun img => image_planOfImage, fun b v length s hv hs huse hmin hmax hok => ?_⟩
  have hload := exec_loadPlan_of_benchFree hs (loadPlanCommand_accepted hv huse hmin hmax hok) hs
  let u : State := { s with
    plans := s.plans.set v ⟨some (planOfImage (s.bench.intakeWords length.toNat)), 0⟩
    bench := s.bench.answered 0x10 .accepted [] }
  have hu : u.benchFree := ⟨rfl, rfl, rfl⟩
  have hplan : (u.planEntry v).plan = some (planOfImage (s.bench.intakeWords length.toNat)) := by
    simp [u, State.planEntry]
  have hread := exec_readPlan_of_benchFree hu (readPlanCommand_accepted hv hplan) hu
  refine ⟨_, (execAll_cons hload).trans (execAll_cons hread), ?_, rfl, rfl, rfl, rfl⟩
  exact image_planOfImage hok

end Sys2Proof.Machine
end

section
/-! PROOFS. What every operation keeps (O3, O57, O59 and parts of O58): the waiting commands, the canonical intake buffer, the sound
fault lists, the bounded drives, the sound ramps, the sound report queue and in-use counts. `Keeps` holds of each operation of the
model in turn, from the updates of single fields up. -/

namespace Sys2Proof.Machine

/-! ### The relation -/

/-- Every drive rests while its enable is off, and every speed lies in its range. -/
def State.driveSound (s : State) : Prop := s.restsWhenOff ∧ s.speedBounded

/-- The report queue and the in-use counts are sound. -/
def State.filingSound (s : State) : Prop := s.queueSound ∧ s.inUseSound

/-- What an operation that leads from `s` to `t` keeps. -/
structure Keeps (s t : State) : Prop where
  pending : t.pending = s.pending
  intake : WordMem.wf s.bench.intake = true → WordMem.wf t.bench.intake = true
  faults : s.faultsSound → t.faultsSound
  drive : s.driveSound → t.driveSound
  ramp : s.rampSound → t.rampSound
  filing : s.filingSound → t.filingSound

theorem Keeps.refl (s : State) : Keeps s s := ⟨rfl, id, id, id, id, id⟩

theorem Keeps.trans {s t u : State} (h : Keeps s t) (k : Keeps t u) : Keeps s u :=
  ⟨k.pending.trans h.pending, k.intake ∘ h.intake, k.faults ∘ h.faults, k.drive ∘ h.drive, k.ramp ∘ h.ramp,
    k.filing ∘ h.filing⟩

/-- Both branches of a choice. -/
theorem Keeps.ite {c : Prop} [Decidable c] {s t u : State} (ht : c → Keeps s t) (hu : ¬ c → Keeps s u) :
    Keeps s (if c then t else u) := by
  split
  · exact ht ‹c›
  · exact hu ‹¬ c›

/-- A guarded operation. -/
theorem Keeps.guarded {c : Prop} [Decidable c] {s t : State} (ht : c → Keeps s t) : Keeps s (if c then t else s) :=
  Keeps.ite ht fun _ => Keeps.refl s

/-! ### What the kept properties depend on -/

/-- The fields of a dossier that filing and the in-use counts depend on. -/
def Dossier.filing (d : Dossier) : DossierState × Option (Fin 32) × Bool := (d.state, d.variant, d.filingPending)

/-- A channel at rest while its enable is off, its set-point within 3000 rpm. -/
def Channel.Bounded (ch : Channel) : Prop := (ch.enable = false → ch.setPoint = 0) ∧ -3000 ≤ ch.setPoint ∧ ch.setPoint ≤ 3000

/-- Profile counters whose step capture is NONE while in phase RAMP. -/
def ProfileCounters.rampOk (c : ProfileCounters) : Prop := c.phase = .ramp → c.stepCapture = .none

/-- An activity whose profile counters, if it has any, are sound. -/
def Activity.rampOk : Activity → Prop
  | .profiling c => c.rampOk
  | _ => True

theorem State.rampSound_iff {s : State} : s.rampSound ↔ ∀ n, (s.channel n).activity.rampOk := by
  refine forall_congr' fun n => ?_
  cases h : (s.channel n).activity <;> simp [Activity.rampOk, ProfileCounters.rampOk]

/-- Every stored search speed lies in its range. -/
def State.speedsStored (s : State) : Prop := ∀ v p, (s.planEntry v).plan = some p → 30 ≤ p.searchSpeed ∧ p.searchSpeed ≤ 300

theorem State.driveSound_iff {s : State} : s.driveSound ↔ (∀ n, (s.channel n).Bounded) ∧ s.speedsStored := by
  simp only [State.driveSound, State.restsWhenOff, State.speedBounded, Channel.Bounded, State.speedsStored]
  constructor
  · rintro ⟨hrest, hbound, hplan⟩
    exact ⟨fun n => ⟨hrest n, hbound n⟩, hplan⟩
  · rintro ⟨hch, hplan⟩
    exact ⟨fun n => (hch n).1, fun n => (hch n).2, hplan⟩

section
variable {s t : State} {n : Nest}

theorem State.filingSound_congr (hq : t.reports.reports = s.reports.reports) (hnext : t.reports.nextNumber = s.reports.nextNumber)
    (hwait : t.reports.filingPending = s.reports.filingPending) (hplans : t.plans = s.plans)
    (hd : ∀ n, (t.dossier n).filing = (s.dossier n).filing) (h : s.filingSound) : t.filingSound := by
  have hstate (n : Nest) : (t.dossier n).state = (s.dossier n).state := congrArg Prod.fst (hd n)
  have hvariant (n : Nest) : (t.dossier n).variant = (s.dossier n).variant := congrArg (fun x => x.2.1) (hd n)
  have hflag (n : Nest) : (t.dossier n).filingPending = (s.dossier n).filingPending := congrArg (fun x => x.2.2) (hd n)
  have hentry (v : Fin 32) : t.planEntry v = s.planEntry v := congrArg (fun x : Vector PlanEntry 32 => x[v]) hplans
  simpa [State.filingSound, State.queueSound, State.inUseSound, State.liveCount, State.names, hq, hnext, hwait, hentry, hstate,
    hvariant, hflag] using h

theorem State.faultsSound_congr (h : t.interlock.faults = s.interlock.faults) (hs : s.faultsSound) : t.faultsSound := by
  simpa [State.faultsSound, State.faultList, h] using hs

/-- An operation that leaves alone all that the kept properties depend on. -/
theorem Keeps.frame (hpending : t.pending = s.pending) (hintake : t.bench.intake = s.bench.intake)
    (hfaults : t.interlock.faults = s.interlock.faults) (hchannels : t.channels = s.channels) (hplans : t.plans = s.plans)
    (hreports : t.reports = s.reports) (hd : ∀ n, (t.dossier n).filing = (s.dossier n).filing) : Keeps s t where
  pending := hpending
  intake h := hintake ▸ h
  faults := State.faultsSound_congr hfaults
  drive h := by simpa [State.driveSound, State.restsWhenOff, State.speedBounded, State.channel, State.planEntry, hchannels, hplans] using h
  ramp h := by simpa [State.rampSound, State.channel, hchannels] using h
  filing := State.filingSound_congr (by rw [hreports]) (by rw [hreports]) (by rw [hreports]) hplans hd

/-! ### Updates of single fields -/

variable (s n)

theorem Nest.other_ne (n : Nest) : n.other ≠ n := by cases n <;> decide

/-- The nests other than one are its other one. -/
theorem State.dossier_modDossier (s : State) (n m : Nest) (f : Dossier → Dossier) :
    (s.modDossier n f).dossier m = if m = n then f (s.dossier n) else s.dossier m := by
  split
  · subst m; simp
  · exact State.dossier_modDossier_ne s f ‹_›

theorem State.channel_modChannel (s : State) (n m : Nest) (f : Channel → Channel) :
    (s.modChannel n f).channel m = if m = n then f (s.channel n) else s.channel m := by
  split
  · subst m; simp
  · exact State.channel_modChannel_ne s f ‹_›

/-- A change of a dossier's other fields. -/
theorem State.modDossier_keeps {f : Dossier → Dossier} (hf : (f (s.dossier n)).filing = (s.dossier n).filing) :
    Keeps s (s.modDossier n f) := by
  refine Keeps.frame rfl rfl rfl rfl rfl rfl fun m => ?_
  rw [State.dossier_modDossier]
  split
  · subst m; exact hf
  · rfl

/-- A change of a channel that keeps it bounded and its ramp sound. -/
theorem State.modChannel_keeps {f : Channel → Channel}
    (hbounded : s.speedsStored → (s.channel n).Bounded → (f (s.channel n)).Bounded)
    (hramp : (s.channel n).activity.rampOk → (f (s.channel n)).activity.rampOk) : Keeps s (s.modChannel n f) where
  pending := rfl
  intake := id
  faults := id
  filing := id
  drive h := by
    rw [State.driveSound_iff] at h ⊢
    refine ⟨fun m => ?_, h.2⟩
    rw [State.channel_modChannel]
    split
    · exact hbounded h.2 (h.1 n)
    · exact h.1 m
  ramp h := by
    rw [State.rampSound_iff] at h ⊢
    intro m
    rw [State.channel_modChannel]
    split
    · exact hramp (h n)
    · exact h m

/-- A change of a channel's activity alone. -/
theorem State.setActivity_keeps {a : Activity} (ha : (s.channel n).activity.rampOk → a.rampOk) : Keeps s (s.setActivity n a) :=
  State.modChannel_keeps s n (fun _ h => h) ha

theorem State.modMonitor_keeps (f : Monitor → Monitor) : Keeps s (s.modMonitor n f) :=
  Keeps.frame rfl rfl rfl rfl rfl rfl fun _ => rfl

theorem State.modCircuit_keeps (c : Chamber) (f : Circuit → Circuit) : Keeps s (s.modCircuit n c f) :=
  Keeps.frame rfl rfl rfl rfl rfl rfl fun _ => rfl

theorem State.setLeakStage_keeps (l : Option LeakStage) : Keeps s (s.setLeakStage n l) :=
  Keeps.frame rfl rfl rfl rfl rfl rfl fun _ => rfl

theorem State.modArbiter_keeps (f : Arbiter → Arbiter) : Keeps s (s.modArbiter f) :=
  Keeps.frame rfl rfl rfl rfl rfl rfl fun _ => rfl

theorem State.modSlot_keeps (i : Fin 4) (f : Slot → Slot) : Keeps s (s.modSlot i f) :=
  Keeps.frame rfl rfl rfl rfl rfl rfl fun _ => rfl

theorem State.setUnit_keeps (u : CaptureUnit) : Keeps s (s.setUnit n u) :=
  Keeps.frame rfl rfl rfl rfl rfl rfl fun _ => rfl

theorem State.modEngine_keeps (f : Engine → Engine) : Keeps s (s.modEngine f) :=
  Keeps.frame rfl rfl rfl rfl rfl rfl fun _ => rfl

theorem State.modLink_keeps (l : Link) (f : LinkState → LinkState) : Keeps s (s.modLink l f) :=
  Keeps.frame rfl rfl rfl rfl rfl rfl fun _ => rfl

/-- A change of the bench port that keeps the intake buffer. -/
theorem State.modBench_keeps {f : Bench → Bench} (hf : (f s.bench).intake = s.bench.intake) : Keeps s (s.modBench f) :=
  Keeps.frame rfl hf rfl rfl rfl rfl fun _ => rfl

/-- A change of the interlock unit that keeps the fault lists. -/
theorem State.modInterlock_keeps {f : Interlock → Interlock} (hf : (f s.interlock).faults = s.interlock.faults) :
    Keeps s (s.modInterlock f) :=
  Keeps.frame rfl rfl hf rfl rfl rfl fun _ => rfl

/-! ### Records, attention, fault lists, answers and the ZERO -/

theorem State.giveRunIn_keeps (g : Given) : Keeps s (s.giveRunIn n g) := State.modDossier_keeps s n rfl

theorem State.modLeakRecord_keeps (c : Chamber) (f : LeakRecord → LeakRecord) : Keeps s (s.modLeakRecord n c f) :=
  State.modDossier_keeps s n rfl

theorem State.modCaptureRecord_keeps (number : Nat) (f : CaptureRecord → CaptureRecord) :
    Keeps s (s.modCaptureRecord n number f) :=
  State.modDossier_keeps s n rfl

theorem State.raise_keeps (k : AttentionCause) : Keeps s (s.raise k) := State.modBench_keeps s rfl

/-- A fault list that stays sound. -/
theorem State.setFaultList_keeps {l : FaultList} (h : s.faultsSound → l.causes.Nodup ∧ l.causes.length ≤ 4 ∧
    (l.more = true → l.causes.length = 4)) : Keeps s (s.setFaultList n l) where
  pending := rfl
  intake := id
  drive := id
  ramp := id
  filing := id
  faults hs m := by
    rcases Classical.em (m = n) with rfl | hm
    · simpa using h hs
    · simpa [State.faultList, State.setFaultList, PerNest.get_set_ne _ _ hm] using hs m

theorem State.reportFault_keeps (f : FaultCause) : Keeps s (s.reportFault n f) := by
  rcases reportFault_cases s n f with ⟨h, -⟩ | ⟨hnew, hroom, h⟩ | ⟨-, hfull, -, h⟩
  · rw [h]; exact Keeps.refl s
  · rw [h]
    refine (State.setFaultList_keeps s n fun hs => ?_).trans (State.raise_keeps _ _)
    obtain ⟨hnodup, -, hmore⟩ := hs n
    refine ⟨List.nodup_append.mpr ⟨hnodup, List.nodup_singleton f, fun a ha b hb hab => ?_⟩, by simpa using hroom,
      fun h => absurd (hmore h) (by omega)⟩
    exact hnew (List.mem_singleton.mp hb ▸ hab ▸ ha)
  · rw [h]
    refine (State.setFaultList_keeps s n fun hs => ?_).trans (State.raise_keeps _ _)
    obtain ⟨hnodup, hlen, -⟩ := hs n
    exact ⟨hnodup, hlen, fun _ => by simpa using Nat.le_antisymm hlen hfull⟩

theorem State.answer_keeps (code : Byte) (reply : ReplyCode) (extra : List Word) : Keeps s (s.answer code reply extra) :=
  State.modBench_keeps s rfl

theorem State.fillOutput_keeps (words : List Word) : Keeps s (s.fillOutput words) := State.modBench_keeps s rfl

theorem State.endZero_keeps (reply : ReplyCode) : Keeps s (s.endZero reply) :=
  (State.modInterlock_keeps s (f := fun i => { i with zero := none }) rfl).trans (State.answer_keeps _ _ _ _)

theorem State.endZeroOnEnable_keeps : Keeps s (s.endZeroOnEnable n) := Keeps.guarded fun _ => State.endZero_keeps s _

theorem State.endZeroOnLeavingIdle_keeps (c : Chamber) : Keeps s (s.endZeroOnLeavingIdle n c) :=
  Keeps.guarded fun _ => State.endZero_keeps s _

theorem State.setOffset_keeps (t : ZeroTarget) (x : Int) : Keeps s (s.setOffset n t x) := by
  cases t <;> exact Keeps.frame rfl rfl rfl rfl rfl rfl fun _ => rfl

theorem State.completeZero_keeps (z : ZeroInProgress) : Keeps s (s.completeZero z) :=
  Keeps.ite (fun _ => (State.setOffset_keeps s _ _ _).trans (State.endZero_keeps _ _)) fun _ => State.endZero_keeps s _

theorem State.zeroSample_keeps (t : ZeroTarget) (raw : Int) (fault : Bool) : Keeps s (s.zeroSample n t raw fault) := by
  rcases zeroSample_cases s n t raw fault with ⟨-, h⟩ | ⟨z, -, -, -, ⟨-, h⟩ | ⟨-, -, h⟩ | ⟨-, -, h⟩⟩ <;> rw [h]
  · exact Keeps.refl s
  · exact State.endZero_keeps s _
  · exact State.completeZero_keeps s _
  · exact State.modInterlock_keeps s rfl

end
end Sys2Proof.Machine
end

section
/-! PROOFS. What the operations of the capture memory, of the leak circuits and of the report queue keep (`Keeps`). -/

namespace Sys2Proof.Machine

section
variable (s : State) (n : Nest)

/-! ### Slots, jobs and captures (Chapters 7 and 8) -/

theorem State.giveBackSlot_keeps (i : Fin 4) : Keeps s (s.giveBackSlot i) :=
  Keeps.ite (fun _ => (State.modSlot_keeps s i _).trans (State.raise_keeps _ _)) fun _ => State.modSlot_keeps s i _

theorem State.takeJob_keeps : Keeps s s.takeJob := by
  unfold State.takeJob
  split
  · exact (State.modEngine_keeps s _).trans (State.modSlot_keeps _ _ _)
  · exact Keeps.refl s

theorem State.giveBackJobs_keeps (js : List Job) : Keeps s (s.giveBackJobs js) := by
  induction js generalizing s with
  | nil => exact Keeps.refl s
  | cons j rest ih => exact (State.giveBackSlot_keeps s _).trans (ih _)

theorem State.dropJobs_keeps : Keeps s (s.dropJobs n) := (State.modEngine_keeps s _).trans (State.giveBackJobs_keeps _ _)

theorem State.judgeCapture_keeps (number : Nat) : Keeps s (s.judgeCapture n number) := by
  unfold State.judgeCapture
  split
  · exact Keeps.refl s
  · exact State.modCaptureRecord_keeps s n _ _

/-- Telling the sequencer that its capture has ended keeps its ramp sound. -/
theorem Activity.captureEnded_rampOk {a : Activity} (h : a.rampOk) : a.captureEnded.rampOk := by
  cases a with
  | profiling c =>
    intro hphase
    have hnone : c.stepCapture = .none := h hphase
    simp [hnone]
  | _ => trivial

theorem State.captureEnded_keeps : Keeps s (s.modChannel n fun ch => { ch with activity := ch.activity.captureEnded }) :=
  State.modChannel_keeps s n (fun _ h => h) Activity.captureEnded_rampOk

theorem State.finishCapture_keeps (number : Nat) (why : CaptureEnd) : Keeps s (s.finishCapture n number why) :=
  Keeps.ite (fun _ => State.setUnit_keeps s n _) fun _ =>
    (State.setUnit_keeps s n _).trans <| (State.captureEnded_keeps _ n).trans <| (State.modCaptureRecord_keeps _ n _ _).trans <|
      State.judgeCapture_keeps _ n _

theorem State.endCapture_keeps (why : CaptureEnd) : Keeps s (s.endCapture n why) := by
  unfold State.endCapture
  split
  · exact Keeps.refl s
  · exact State.finishCapture_keeps s n _ _
  · exact (State.modSlot_keeps s _ _).trans (State.finishCapture_keeps _ n _ _)

theorem State.lookForSlot_keeps : Keeps s (s.lookForSlot n) := by
  unfold State.lookForSlot
  split
  · exact (State.modSlot_keeps s _ _).trans (State.setUnit_keeps _ n _)
  · exact Keeps.refl s

theorem State.requestCapture_keeps (number : Nat) (side : LoadSide) (setPoint : Int) :
    Keeps s (s.requestCapture n number side setPoint) := by
  unfold State.requestCapture
  split
  · exact Keeps.refl s
  · exact (State.modCaptureRecord_keeps s n _ _).trans <| (State.setUnit_keeps _ n _).trans <| State.lookForSlot_keeps _ n

theorem State.completeBlock_keeps (c : Capture) (b : BlockInProgress) : Keeps s (s.completeBlock n c b) := by
  have hqueued (i f g number h u) : Keeps s ((((s.modSlot i f).modEngine g).modCaptureRecord n number h).setUnit n u) :=
    (State.modSlot_keeps s _ _).trans <| (State.modEngine_keeps _ _).trans <| (State.modCaptureRecord_keeps _ n _ _).trans <|
      State.setUnit_keeps _ n _
  exact Keeps.trans (Keeps.ite (fun _ => (hqueued _ _ _ _ _ _).trans (State.endCapture_keeps _ n _)) fun _ =>
    (hqueued _ _ _ _ _ _).trans (State.lookForSlot_keeps _ n)) (State.takeJob_keeps _)

theorem State.writeSample_keeps (c : Capture) (b : BlockInProgress) : Keeps s (s.writeSample n c b) :=
  (State.modSlot_keeps s _ _).trans <|
    Keeps.ite (fun _ => State.completeBlock_keeps _ n _ _) fun _ => State.setUnit_keeps _ n _

theorem State.restartBlock_keeps (c : Capture) (b : BlockInProgress) : Keeps s (s.restartBlock n c b) :=
  Keeps.ite (fun _ => Keeps.refl s) fun _ => (State.modCaptureRecord_keeps s n _ _).trans <|
    Keeps.ite (fun _ => (State.setUnit_keeps _ n _).trans (State.endCapture_keeps _ n _)) fun _ =>
      (State.modSlot_keeps _ _ _).trans (State.setUnit_keeps _ n _)

theorem State.samplePoint_keeps (d : Direction) : Keeps s (s.samplePoint n d) := by
  unfold State.samplePoint
  split
  · split
    · exact State.writeSample_keeps s n _ _
    · exact Keeps.ite (fun _ => State.writeSample_keeps s n _ _) fun _ => State.restartBlock_keeps s n _ _
  · exact Keeps.refl s

theorem State.referenceLost_keeps : Keeps s (s.referenceLost n) := by
  unfold State.referenceLost
  split
  · exact Keeps.refl s
  · exact (State.setUnit_keeps s n _).trans (State.modCaptureRecord_keeps _ n _ _)
  · exact (State.setUnit_keeps s n _).trans (State.modCaptureRecord_keeps _ n _ _)

theorem State.mergeJob_keeps (j : Job) : Keeps s (s.mergeJob j) := by
  unfold State.mergeJob
  split
  · exact Keeps.refl s
  · exact (State.modCaptureRecord_keeps s _ _ _).trans (State.judgeCapture_keeps _ _ _)

/-! ### Leak circuits and the arbiter (Chapter 6) -/

theorem State.giveLeak_keeps (c : Chamber) (g : Given) : Keeps s (s.giveLeak n c g) :=
  (State.modLeakRecord_keeps s n _ _).trans (State.modCircuit_keeps _ n _ _)

theorem State.requestAir_keeps (c : Chamber) (set : LeakSetIx) : Keeps s (s.requestAir n c set) :=
  (State.modCircuit_keeps s n _ _).trans <| (State.modArbiter_keeps _ _).trans <| State.endZeroOnLeavingIdle_keeps _ n _

theorem State.leaveAir_keeps (c : Chamber) : Keeps s (s.leaveAir n c) := State.modArbiter_keeps s _

theorem State.arbitrate_keeps : Keeps s s.arbitrate := by
  rcases arbitrate_cases s with ⟨x, rest, -, -, -, h⟩ | ⟨-, h⟩ <;> rw [h]
  · exact (State.modArbiter_keeps s _).trans (State.modCircuit_keeps _ _ _ _)
  · exact Keeps.refl s

theorem State.waitRule_keeps (c : Chamber) : Keeps s (s.waitRule n c) :=
  Keeps.guarded fun _ => (State.leaveAir_keeps s n c).trans <| (State.giveLeak_keeps _ n _ _).trans <|
    State.modCircuit_keeps _ n _ _

theorem State.fillRule_keeps (c : Chamber) (p : LeakSet) (x : Int) : Keeps s (s.fillRule n c p x) :=
  Keeps.ite (fun _ => (State.leaveAir_keeps s n c).trans (State.modCircuit_keeps _ n _ _)) fun _ =>
    Keeps.guarded fun _ => (State.leaveAir_keeps s n c).trans <| (State.giveLeak_keeps _ n _ _).trans <|
      State.modCircuit_keeps _ n _ _

theorem State.settleRule_keeps (c : Chamber) (p : LeakSet) (x : Int) : Keeps s (s.settleRule n c p x) :=
  Keeps.ite (fun _ => (State.giveLeak_keeps s n _ _).trans (State.modCircuit_keeps _ n _ _)) fun _ =>
    Keeps.guarded fun _ =>
      Keeps.ite (fun _ => (State.giveLeak_keeps s n _ _).trans (State.modCircuit_keeps _ n _ _)) fun _ =>
        (State.modLeakRecord_keeps s n _ _).trans (State.modCircuit_keeps _ n _ _)

theorem State.measureRule_keeps (c : Chamber) (p : LeakSet) : Keeps s (s.measureRule n c p) :=
  Keeps.guarded fun _ => Keeps.trans
    (Keeps.ite (fun _ => State.giveLeak_keeps s n _ _) fun _ =>
      (State.modLeakRecord_keeps s n _ _).trans (State.giveLeak_keeps _ n _ _))
    (State.modCircuit_keeps _ n _ _)

theorem State.ventLimitRule_keeps (c : Chamber) : Keeps s (s.ventLimitRule n c) :=
  Keeps.guarded fun _ => (State.modCircuit_keeps s n _ _).trans (State.reportFault_keeps _ n _)

theorem State.ventRule_keeps (c : Chamber) (x : Int) : Keeps s (s.ventRule n c x) :=
  Keeps.ite (fun _ => State.modCircuit_keeps s n _ _) fun _ => State.ventLimitRule_keeps s n c

theorem State.stateRule_keeps (c : Chamber) (x : Int) : Keeps s (s.stateRule n c x) := by
  unfold State.stateRule
  split
  · exact Keeps.refl s
  · exact State.waitRule_keeps s n c
  · exact State.fillRule_keeps s n c _ x
  · exact State.settleRule_keeps s n c _ x
  · exact State.measureRule_keeps s n c _
  · exact Keeps.refl s
  · exact State.ventRule_keeps s n c x
  · exact Keeps.refl s

/-- A result given only to a pending record. -/
theorem State.giveIfPending_keeps (c : Chamber) (g : Given) : Keeps s (if s.leakPending n c then s.giveLeak n c g else s) :=
  Keeps.guarded fun _ => State.giveLeak_keeps s n c g

theorem State.sensorRule_keeps (c : Chamber) : Keeps s (s.sensorRule n c) := by
  unfold State.sensorRule
  split
  · exact Keeps.refl s
  · exact (State.leaveAir_keeps s n c).trans <| (State.giveIfPending_keeps _ n c _).trans <| State.modCircuit_keeps _ n _ _
  · exact (State.leaveAir_keeps s n c).trans <| (State.giveIfPending_keeps _ n c _).trans <| State.modCircuit_keeps _ n _ _
  · exact (State.giveIfPending_keeps s n c _).trans (State.modCircuit_keeps _ n _ _)
  · exact (State.giveIfPending_keeps s n c _).trans (State.modCircuit_keeps _ n _ _)
  · exact State.modCircuit_keeps s n _ _
  · exact State.ventLimitRule_keeps s n c

theorem State.circuitSample_keeps (c : Chamber) (x : Int) (fault : Bool) : Keeps s (s.circuitSample n c x fault) :=
  (State.modCircuit_keeps s n _ _).trans <|
    Keeps.ite (fun _ => State.sensorRule_keeps _ n c) fun _ => State.stateRule_keeps _ n c x

theorem State.abortCircuit_keeps (c : Chamber) : Keeps s (s.abortCircuit n c) := by
  unfold State.abortCircuit
  split
  · exact Keeps.refl s
  · exact (State.leaveAir_keeps s n c).trans <| (State.giveIfPending_keeps _ n c _).trans <| State.modCircuit_keeps _ n _ _
  · exact (State.leaveAir_keeps s n c).trans <| (State.giveIfPending_keeps _ n c _).trans <| State.modCircuit_keeps _ n _ _
  · exact (State.giveIfPending_keeps s n c _).trans (State.modCircuit_keeps _ n _ _)
  · exact (State.giveIfPending_keeps s n c _).trans (State.modCircuit_keeps _ n _ _)
  · exact State.modCircuit_keeps s n _ _
  · exact Keeps.refl s

theorem State.abortLeak_keeps : Keeps s (s.abortLeak n) :=
  (State.abortCircuit_keeps s n .c0).trans <| (State.abortCircuit_keeps _ n .c1).trans <| State.setLeakStage_keeps _ n _

theorem State.beginLeak_keeps (mask : ChamberSet) (set : LeakSetIx) : Keeps s (s.beginLeak n mask set) := by
  unfold State.beginLeak
  refine Keeps.trans ?_ (State.arbitrate_keeps _)
  have hclear (u : State) (b : Bool) (c : Chamber) (f : Circuit → Circuit) : Keeps u (if b then u.modCircuit n c f else u) :=
    Keeps.guarded fun _ => State.modCircuit_keeps u n c f
  exact Keeps.ite
    (fun _ => (hclear s _ _ _).trans <| (hclear _ _ _ _).trans <| (State.setLeakStage_keeps _ n _).trans <| State.requestAir_keeps _ n _ _)
    fun _ => (hclear s _ _ _).trans <| (hclear _ _ _ _).trans <| (State.setLeakStage_keeps _ n _).trans <| State.requestAir_keeps _ n _ _

theorem State.requestNext_keeps : Keeps s (s.requestNext n) := by
  unfold State.requestNext
  split
  · exact Keeps.ite (fun _ => Keeps.refl s) fun _ => (State.setLeakStage_keeps s n _).trans (State.requestAir_keeps _ n _ _)
  · exact Keeps.refl s

theorem State.ventHolding_keeps (c : Chamber) : Keeps s (s.ventHolding n c) :=
  Keeps.guarded fun _ => State.modCircuit_keeps s n _ _

end
end Sys2Proof.Machine
end

section
/-! PROOFS. The report queue and the in-use counts: what a change of a dossier's state, a filing, a removal, an ARRIVE and a change of a
plan keep (R32, R34, R149 to R151, R154, R155). -/

namespace Sys2Proof.Machine

/-! ### Report numbers (R150) -/

theorem numberAfter_range (k : Nat) : 1 ≤ numberAfter k ∧ numberAfter k ≤ 65535 := by
  unfold numberAfter
  split <;> omega

/-- A report under the next number goes on with the run. -/
theorem numbersRun_append {rs : List Report} {next : Nat} {r : Report} (h : numbersRun rs next) (hr : r.number = some next)
    (hlo : 1 ≤ next) (hhi : next ≤ 65535) : numbersRun (rs ++ [r]) (numberAfter next) := by
  induction rs with
  | nil => exact ⟨next, hr, hlo, hhi, rfl⟩
  | cons a rest ih =>
    cases rest with
    | nil =>
      obtain ⟨k, hk, hk1, hk2, hnext⟩ := h
      exact ⟨⟨k, next, hk, hk1, hk2, hr, hnext⟩, next, hr, hlo, hhi, rfl⟩
    | cons b rest => exact ⟨h.1, ih h.2⟩

theorem numbersRun_drop_one {rs : List Report} {next : Nat} (h : numbersRun rs next) : numbersRun (rs.drop 1) next := by
  match rs, h with
  | [], _ => trivial
  | [_], _ => trivial
  | _ :: _ :: _, h => exact h.2

/-! ### The in-use counts, one nest at a time (R32, R34) -/

/-- Whether a dossier is live and names a variant (R32). -/
def Dossier.names (d : Dossier) (v : Fin 32) : Bool := d.state.live && (d.variant == some v)

@[simp] theorem DossierState.live_vacant : DossierState.vacant.live = false := rfl
@[simp] theorem DossierState.live_opened : DossierState.opened.live = true := rfl
@[simp] theorem DossierState.live_testing : DossierState.testing.live = true := rfl
@[simp] theorem DossierState.live_stopping : DossierState.stopping.live = true := rfl
@[simp] theorem DossierState.live_judged : DossierState.judged.live = true := rfl
@[simp] theorem DossierState.live_filed : DossierState.filed.live = false := rfl

theorem State.names_eq (s : State) (n : Nest) (v : Fin 32) : s.names n v = (s.dossier n).names v := rfl

/-- A live dossier names a VALID plan (R32). -/
def State.planValid (s : State) (d : Dossier) : Prop :=
  d.state.live = true → ∃ v p, d.variant = some v ∧ (s.planEntry v).plan = some p

section
variable {s t : State} {n : Nest}

theorem State.inUseSound_iff (n : Nest) : s.inUseSound ↔
    (∀ v, (s.planEntry v).inUse = ((s.dossier n).names v).toNat + ((s.dossier n.other).names v).toNat) ∧
      s.planValid (s.dossier n) ∧ s.planValid (s.dossier n.other) := by
  simp only [State.inUseSound, State.liveCount, State.names_eq, State.planValid]
  cases n
  · exact and_congr_right fun _ => ⟨fun h => ⟨h .n0, h .n1⟩, fun h m => by cases m; exacts [h.1, h.2]⟩
  · refine and_congr (forall_congr' fun v => by rw [Nat.add_comm]; rfl) ⟨fun h => ⟨h .n1, h .n0⟩, fun h m => ?_⟩
    cases m; exacts [h.2, h.1]

theorem State.modDossier_other (s : State) (n : Nest) (f : Dossier → Dossier) :
    (s.modDossier n f).dossier n.other = s.dossier n.other := State.dossier_modDossier_ne s f (Nest.other_ne n)

/-- A dossier that stays live under its variant, or stays not live, leaves the in-use counts sound. -/
theorem State.inUseSound_modDossier {f : Dossier → Dossier} (hlive : (f (s.dossier n)).state.live = (s.dossier n).state.live)
    (hvariant : (s.dossier n).state.live = true → (f (s.dossier n)).variant = (s.dossier n).variant)
    (h : s.inUseSound) : (s.modDossier n f).inUseSound := by
  rw [State.inUseSound_iff n] at h ⊢
  obtain ⟨hcount, hself, hother⟩ := h
  simp only [State.modDossier_other, State.dossier_modDossier_same, State.planValid, State.planEntry_modDossier, hlive] at hcount ⊢
  refine ⟨fun v => ?_, fun hl => hvariant hl ▸ hself hl, hother⟩
  rw [hcount v]
  simp only [Dossier.names, hlive]
  cases hl : (s.dossier n).state.live
  · rfl
  · rw [hvariant hl]

/-! ### The queue without its clause for room (R149, R150, R154) -/

/-- The report queue is sound but for the clause that says the filing-pending list is empty while there is room. -/
def State.queueCore (s : State) : Prop :=
  s.reports.reports.length ≤ 16 ∧ numbersRun s.reports.reports s.reports.nextNumber ∧
    1 ≤ s.reports.nextNumber ∧ s.reports.nextNumber ≤ 65535 ∧ s.reports.filingPending.Nodup ∧
    ∀ n, (n ∈ s.reports.filingPending ↔ (s.dossier n).filingPending = true) ∧
      (n ∈ s.reports.filingPending → (s.dossier n).state = .judged)

theorem State.queueSound_iff :
    s.queueSound ↔ s.queueCore ∧ (s.reports.reports.length < 16 → s.reports.filingPending = []) := by
  simp only [State.queueSound, State.queueCore]
  tauto

/-- Only a JUDGED dossier waits to be filed. -/
theorem State.queueSound.not_mem (h : s.queueSound) (hn : (s.dossier n).state ≠ .judged) :
    n ∉ s.reports.filingPending ∧ (s.dossier n).filingPending = false := by
  obtain ⟨-, -, -, -, -, -, hwait⟩ := h
  have hnot : n ∉ s.reports.filingPending := fun hm => hn ((hwait n).2 hm)
  exact ⟨hnot, by simpa [(hwait n).1] using hnot⟩

/-- A dossier that keeps its flag, and is JUDGED if it waits, leaves the queue sound. -/
theorem State.queueCore_modDossier {f : Dossier → Dossier} (hflag : (f (s.dossier n)).filingPending = (s.dossier n).filingPending)
    (hjudged : n ∈ s.reports.filingPending → (f (s.dossier n)).state = .judged) (h : s.queueCore) :
    (s.modDossier n f).queueCore := by
  obtain ⟨hlen, hrun, hlo, hhi, hnodup, hwait⟩ := h
  refine ⟨hlen, hrun, hlo, hhi, hnodup, fun m => ?_⟩
  rw [State.dossier_modDossier]
  split
  · subst m
    exact ⟨hflag ▸ (hwait n).1, hjudged⟩
  · exact hwait m

/-- A change of a dossier's state that filing does not see. -/
theorem State.filingSound_modDossier {f : Dossier → Dossier}
    (hlive : (f (s.dossier n)).state.live = (s.dossier n).state.live)
    (hvariant : (s.dossier n).state.live = true → (f (s.dossier n)).variant = (s.dossier n).variant)
    (hflag : (f (s.dossier n)).filingPending = (s.dossier n).filingPending)
    (hjudged : n ∈ s.reports.filingPending → (f (s.dossier n)).state = .judged) (h : s.filingSound) :
    (s.modDossier n f).filingSound := by
  obtain ⟨hq, huse⟩ := h
  rw [State.queueSound_iff] at hq
  exact ⟨State.queueSound_iff.mpr ⟨State.queueCore_modDossier hflag hjudged hq.1, hq.2⟩,
    State.inUseSound_modDossier hlive hvariant huse⟩

/-- An operation that keeps all but filing as it is, and filing by an argument of its own. -/
theorem Keeps.of_filing (hpending : t.pending = s.pending) (hintake : t.bench.intake = s.bench.intake)
    (hfaults : t.interlock.faults = s.interlock.faults) (hchannels : t.channels = s.channels)
    (hspeeds : s.speedsStored → t.speedsStored) (hfiling : s.filingSound → t.filingSound) : Keeps s t where
  pending := hpending
  intake h := hintake ▸ h
  faults := State.faultsSound_congr hfaults
  drive h := by
    rw [State.driveSound_iff] at h ⊢
    exact ⟨by simpa [State.channel, hchannels] using h.1, hspeeds h.2⟩
  ramp h := by simpa [State.rampSound, State.channel, hchannels] using h
  filing := hfiling

/-- A dossier that changes its state but stays live, from a state other than JUDGED or into JUDGED. -/
theorem State.modDossier_keeps_live {f : Dossier → Dossier} (hlive : (s.dossier n).state.live = true)
    (hlive' : (f (s.dossier n)).state.live = true) (hvariant : (f (s.dossier n)).variant = (s.dossier n).variant)
    (hflag : (f (s.dossier n)).filingPending = (s.dossier n).filingPending)
    (hjudged : (s.dossier n).state ≠ .judged ∨ (f (s.dossier n)).state = .judged) : Keeps s (s.modDossier n f) :=
  Keeps.of_filing rfl rfl rfl rfl id fun h =>
    State.filingSound_modDossier (hlive'.trans hlive.symm) (fun _ => hvariant) hflag
      (fun hm => hjudged.resolve_left fun hne => (h.1.not_mem hne).1 hm) h

/-! ### A filing that finds room (R31, R34, R150, R151) -/

theorem State.planEntry_releasePlan (s : State) (n : Nest) (v : Fin 32) : (s.releasePlan n).planEntry v =
    if (s.dossier n).variant = some v then { s.planEntry v with inUse := (s.planEntry v).inUse - 1 } else s.planEntry v := by
  rw [State.releasePlan]
  cases hv : (s.dossier n).variant with
  | none => simp
  | some w =>
    by_cases hw : w = v
    · subst w; simp
    · simp only [Option.some.injEq, hw, if_false]
      exact State.planEntry_modPlan_ne s _ (Ne.symm hw)

theorem State.planEntry_fileReport (v : Fin 32) : (s.fileReport n).planEntry v =
    if (s.dossier n).variant = some v then { s.planEntry v with inUse := (s.planEntry v).inUse - 1 } else s.planEntry v := by
  simp only [State.fileReport, State.planEntry_modDossier, State.planEntry_releasePlan, State.dossier_modDossier_same,
    State.dossier_modReports, State.planEntry_modReports]

theorem State.dossier_fileReport_same : (s.fileReport n).dossier n =
    { s.dossier n with state := .filed, reportNumber := some s.reports.nextNumber, filingPending := false } := by
  obtain ⟨plans, h⟩ := State.fileReport_eq s n
  rw [h]
  exact PerNest.get_set_same _ _ _

theorem State.dossier_fileReport_ne {m : Nest} (hm : m ≠ n) : (s.fileReport n).dossier m = s.dossier m := by
  obtain ⟨plans, h⟩ := State.fileReport_eq s n
  rw [h]
  exact PerNest.get_set_ne _ _ hm

theorem State.reports_fileReport : (s.fileReport n).reports =
    { s.reports with
      reports := s.reports.reports ++ [reportOf (some s.reports.nextNumber) s.reports.station n (s.dossier n)]
      nextNumber := numberAfter s.reports.nextNumber
      filingPending := s.reports.filingPending.filter fun m => m ≠ n } := by
  obtain ⟨plans, h⟩ := State.fileReport_eq s n
  rw [h]

/-- A filing takes a live dossier out of the counts. -/
theorem State.inUseSound_fileReport (hlive : (s.dossier n).state.live = true) (h : s.inUseSound) :
    (s.fileReport n).inUseSound := by
  rw [State.inUseSound_iff n] at h ⊢
  obtain ⟨hcount, -, hother⟩ := h
  simp only [State.planValid, State.dossier_fileReport_same, State.dossier_fileReport_ne (Nest.other_ne n),
    State.planEntry_fileReport] at hother ⊢
  refine ⟨fun v => ?_, by simp, fun hl => ?_⟩
  · have hv := hcount v
    simp only [Dossier.names, hlive, Bool.true_and, DossierState.live_filed, Bool.false_and, Bool.toNat_false] at hv ⊢
    split
    · simp_all
    · simp_all
  · obtain ⟨v, p, hv, hp⟩ := hother hl
    refine ⟨v, p, hv, ?_⟩
    split <;> exact hp

/-- A filing that finds room appends a report under the next number and takes the nest off the list. -/
theorem State.queueCore_fileReport (hroom : s.reports.reports.length < 16) (h : s.queueCore) : (s.fileReport n).queueCore := by
  obtain ⟨-, hrun, hlo, hhi, hnodup, hwait⟩ := h
  simp only [State.queueCore, State.reports_fileReport, List.length_append, List.length_singleton, List.mem_filter,
    decide_eq_true_eq]
  refine ⟨by omega, numbersRun_append hrun rfl hlo hhi, (numberAfter_range _).1, (numberAfter_range _).2, hnodup.filter _,
    fun m => ?_⟩
  rcases Classical.em (m = n) with rfl | hm
  · simp [State.dossier_fileReport_same]
  · simpa [State.dossier_fileReport_ne hm, hm] using hwait m

theorem State.speedsStored_fileReport (h : s.speedsStored) : (s.fileReport n).speedsStored := by
  intro v p hp
  refine h v p ?_
  rw [State.planEntry_fileReport] at hp
  split at hp <;> exact hp

/-- A filing as an operation, when what filing depends on is kept by an argument of its own. -/
theorem State.fileReport_keeps_of (hfiling : s.filingSound → (s.fileReport n).filingSound) : Keeps s (s.fileReport n) := by
  obtain ⟨plans, h⟩ := State.fileReport_eq s n
  refine Keeps.of_filing ?_ ?_ ?_ ?_ State.speedsStored_fileReport hfiling <;> rw [h]

theorem State.fileReport_keeps (hroom : s.reports.reports.length < 16) (hlive : (s.dossier n).state.live = true) :
    Keeps s (s.fileReport n) := by
  refine State.fileReport_keeps_of fun ⟨hq, huse⟩ => ⟨?_, State.inUseSound_fileReport hlive huse⟩
  rw [State.queueSound_iff] at hq ⊢
  refine ⟨State.queueCore_fileReport hroom hq.1, fun _ => ?_⟩
  simp [State.reports_fileReport, hq.2 hroom]

/-- A JUDGED dossier that does not wait yet joins the end of the list of a full queue. -/
theorem State.filingSound_waits (hfull : 16 ≤ s.reports.reports.length) (hstate : (s.dossier n).state = .judged)
    (hflag : (s.dossier n).filingPending = false) (h : s.filingSound) :
    ((s.modDossier n fun d => { d with filingPending := true }).modReports fun q =>
      { q with filingPending := q.filingPending ++ [n] }).filingSound := by
  obtain ⟨hq, huse⟩ := h
  obtain ⟨⟨hlen, hrun, hlo, hhi, hnodup, hwait⟩, -⟩ := State.queueSound_iff.mp hq
  have hnew : n ∉ s.reports.filingPending := by
    rw [(hwait n).1, hflag]
    simp
  refine ⟨State.queueSound_iff.mpr ⟨⟨hlen, hrun, hlo, hhi, ?_, fun m => ?_⟩, fun hroom => absurd hroom ?_⟩, ?_⟩
  · exact List.nodup_append.mpr ⟨hnodup, List.nodup_singleton n, fun a ha b hb hab =>
      hnew (List.mem_singleton.mp hb ▸ hab ▸ ha)⟩
  · simp only [State.modReports_reports, State.modDossier_reports, List.mem_append, List.mem_singleton]
    rcases Classical.em (m = n) with rfl | hm
    · simpa using hstate
    · simpa [hm, State.dossier_modDossier_ne s _ hm] using hwait m
  · exact Nat.not_lt.mpr hfull
  · exact State.inUseSound_modDossier rfl (fun _ => rfl) huse

/-- A filing by auto-file or FILE, after an operation that leaves the dossier JUDGED and not waiting. -/
theorem State.fileDossier_keeps {r : State} (h : Keeps r s) (hstate : (s.dossier n).state = .judged)
    (hflag : r.queueSound → (s.dossier n).filingPending = false) : Keeps r (s.fileDossier n) := by
  rcases fileDossier_cases s n with ⟨hroom, heq⟩ | ⟨hfull, heq⟩ <;> rw [heq]
  · exact h.trans (State.fileReport_keeps hroom (by rw [hstate]; rfl))
  · refine Keeps.trans ?_ (State.raise_keeps _ _)
    exact ⟨h.pending, h.intake, h.faults, h.drive, h.ramp, fun hr =>
      State.filingSound_waits hfull hstate (hflag hr.1) (h.filing hr)⟩

/-! ### A removal, an ARRIVE, a release and a change of a plan (R9, R16, R44, R45, R155) -/

theorem State.removeOldest_keeps (hne : s.reports.reports ≠ []) : Keeps s s.removeOldest := by
  obtain ⟨r, rest, hr⟩ := List.exists_cons_of_ne_nil hne
  have hcore : s.queueCore → (s.modReports fun q => { q with reports := rest }).queueCore := by
    rintro ⟨hlen, hrun, hlo, hhi, hnodup, hwait⟩
    rw [hr] at hlen hrun
    exact ⟨by simp only [State.modReports_reports, List.length_cons] at hlen ⊢; omega, numbersRun_drop_one hrun, hlo, hhi,
      hnodup, hwait⟩
  cases hwaiting : s.reports.filingPending with
  | nil =>
    rw [State.removeOldest_of_noneWaiting hr hwaiting]
    exact Keeps.of_filing rfl rfl rfl rfl id fun ⟨hq, huse⟩ =>
      ⟨State.queueSound_iff.mpr ⟨hcore (State.queueSound_iff.mp hq).1, fun _ => hwaiting⟩, huse⟩
  | cons m more =>
    rw [State.removeOldest_of_waiting hr hwaiting]
    obtain ⟨plans, heq⟩ := State.fileReport_eq (s.modReports fun q => { q with reports := rest }) m
    refine Keeps.of_filing (by rw [heq]; rfl) (by rw [heq]; rfl) (by rw [heq]; rfl) (by rw [heq]; rfl)
      (fun h => State.speedsStored_fileReport (s := s.modReports _) h) fun ⟨hq, huse⟩ => ?_
    obtain ⟨hc, hempty⟩ := State.queueSound_iff.mp hq
    obtain ⟨hlen, -, -, -, hnodup, hwait⟩ := id hc
    have hfull : s.reports.reports.length = 16 := by
      rcases Nat.lt_or_ge s.reports.reports.length 16 with hlt | hge
      · rw [hempty hlt] at hwaiting; cases hwaiting
      · omega
    have hjudged : (s.dossier m).state = .judged := (hwait m).2 (by simp [hwaiting])
    have hrest : rest.length = 15 := by rw [hr] at hfull; simpa using hfull
    refine ⟨State.queueSound_iff.mpr ⟨State.queueCore_fileReport (by simp [hrest]) (hcore hc), fun hroom => ?_⟩,
      State.inUseSound_fileReport (by simp [State.dossier, State.modReports] at hjudged ⊢; rw [hjudged]; rfl) huse⟩
    simp [State.reports_fileReport, hrest] at hroom

/-- The nest of a FILED dossier becomes VACANT. -/
theorem State.vacate_keeps (h : (s.dossier n).state = .filed) : Keeps s (s.vacate n) :=
  Keeps.of_filing rfl rfl rfl rfl id fun hs =>
    State.filingSound_modDossier (by rw [h]; rfl) (fun hl => by rw [h] at hl; cases hl)
      (hs.1.not_mem (by rw [h]; decide)).2.symm (fun hm => absurd hm (hs.1.not_mem (by rw [h]; decide)).1) hs

/-- A plan entry that changes, with an in-use count of 0, leaves the counts sound; its new plan lies in its range. -/
theorem State.modPlan_keeps {v : Fin 32} {p : Option Plan} (huse : (s.planEntry v).inUse = 0)
    (hp : ∀ q, p = some q → 30 ≤ q.searchSpeed ∧ q.searchSpeed ≤ 300) :
    Keeps s (s.modPlan v fun e => { e with plan := p }) := by
  refine Keeps.of_filing rfl rfl rfl rfl (fun h w q hq => ?_) fun ⟨hq, hu⟩ => ⟨hq, ?_⟩
  · rcases Classical.em (w = v) with rfl | hw
    · exact hp q (by simpa using hq)
    · exact h w q (by rwa [State.planEntry_modPlan_ne s _ hw] at hq)
  · have hentry (w : Fin 32) : ((s.modPlan v fun e => { e with plan := p }).planEntry w).inUse = (s.planEntry w).inUse := by
      rcases Classical.em (w = v) with rfl | hw
      · simp
      · rw [State.planEntry_modPlan_ne s _ hw]
    refine ⟨fun w => (hentry w).trans (hu.1 w), fun m hlive => ?_⟩
    obtain ⟨w, q, hw, hq⟩ := hu.2 m hlive
    refine ⟨w, q, hw, ?_⟩
    rwa [State.planEntry_modPlan_ne]
    rintro rfl
    have hnames : (s.names m w).toNat = 1 := by
      have hlive : (s.dossier m).state.live = true := hlive
      have hw : (s.dossier m).variant = some w := hw
      simp [State.names, hlive, hw]
    have hzero : s.liveCount w = 0 := by rw [← hu.1 w, huse]
    rw [State.liveCount] at hzero
    cases m <;> omega

/-- An accepted ARRIVE opens a dossier that names a VALID plan and counts it (R9, R34). -/
theorem State.arrive_keeps {v : Fin 32} {d : Dossier} (hvacant : (s.dossier n).state = .vacant)
    (hplan : (s.planEntry v).plan.isSome = true) (hd : d.state = .opened ∧ d.variant = some v ∧ d.filingPending = false) :
    Keeps s ((s.modDossier n fun _ => d).modPlan v fun e => { e with inUse := e.inUse + 1 }) := by
  obtain ⟨hstate, hvariant, hflag⟩ := hd
  have hentry (w : Fin 32) : ((s.modDossier n fun _ => d).modPlan v fun e => { e with inUse := e.inUse + 1 }).planEntry w =
      if w = v then { s.planEntry v with inUse := (s.planEntry v).inUse + 1 } else s.planEntry w := by
    split
    · subst w; simp
    · exact State.planEntry_modPlan_ne _ _ ‹_›
  refine Keeps.of_filing rfl rfl rfl rfl (fun h w q hq => ?_) fun ⟨hq, hu⟩ => ⟨?_, ?_⟩
  · refine h w q ?_
    rw [hentry] at hq
    split at hq
    · subst w; exact hq
    · exact hq
  · rw [State.queueSound_iff] at hq ⊢
    have hnot := State.queueSound.not_mem (State.queueSound_iff.mpr hq) (n := n) (by rw [hvacant]; decide)
    exact ⟨State.queueCore_modDossier (hflag.trans hnot.2.symm) (fun hm => absurd hm hnot.1) hq.1, hq.2⟩
  · rw [State.inUseSound_iff n] at hu ⊢
    obtain ⟨hcount, -, hother⟩ := hu
    simp only [State.planValid, hentry, State.dossier_modPlan, State.dossier_modDossier_same, State.modDossier_other] at hcount hother ⊢
    refine ⟨fun w => ?_, fun _ => ?_, fun hl => ?_⟩
    · have hw := hcount w
      simp only [Dossier.names, hvacant, DossierState.live_vacant, DossierState.live_opened, Bool.false_and, Bool.toNat_false, hstate, hvariant, Bool.true_and] at hw ⊢
      split
      · subst w; simp_all; omega
      · have hne : ¬ v = w := Ne.symm ‹_›
        simp_all
    · obtain ⟨p, hp⟩ := Option.isSome_iff_exists.mp hplan
      exact ⟨v, p, hvariant, by simp [hp]⟩
    · obtain ⟨w, p, hw, hp⟩ := hother hl
      refine ⟨w, p, hw, ?_⟩
      split
      · subst w; exact hp
      · exact hp

/-- An accepted RETEST takes its dossier off the filing-pending list (R19, R20). -/
theorem State.retest_keeps {p : Plan} (hstate : (s.dossier n).state = .judged) :
    Keeps s ((s.modReports fun q => { q with filingPending := q.filingPending.filter fun m => m ≠ n }).modDossier n fun d =>
      d.retested p) := by
  refine Keeps.of_filing rfl rfl rfl rfl id fun ⟨hq, hu⟩ => ⟨?_, ?_⟩
  · obtain ⟨⟨hlen, hrun, hlo, hhi, hnodup, hwait⟩, hempty⟩ := State.queueSound_iff.mp hq
    refine State.queueSound_iff.mpr ⟨⟨hlen, hrun, hlo, hhi, hnodup.filter _, fun m => ?_⟩, fun hroom => ?_⟩
    · simp only [State.modDossier_reports, State.modReports_reports, List.mem_filter, decide_eq_true_eq]
      rcases Classical.em (m = n) with rfl | hm
      · simp [Dossier.retested]
      · rw [State.dossier_modDossier_ne _ _ hm]
        simpa [hm] using hwait m
    · have hnone : s.reports.filingPending = [] := hempty hroom
      simp [hnone]
  · exact State.inUseSound_modDossier (s := s.modReports _) (by rw [State.dossier_modReports, hstate]; rfl) (fun _ => rfl) hu

end
end Sys2Proof.Machine
end

section
/-! PROOFS. What the dossier operations and the stage engines keep (`Keeps`), up to the requests against a dossier (Chapter 1). -/

namespace Sys2Proof.Machine

section
variable (s : State) (n : Nest)

/-! ### Judgment and stops (R26 to R31) -/

/-- A change of a channel that keeps its enable, its set-point and its activity. -/
theorem State.modChannel_keeps_same {f : Channel → Channel} (he : (f (s.channel n)).enable = (s.channel n).enable)
    (hx : (f (s.channel n)).setPoint = (s.channel n).setPoint) (ha : (f (s.channel n)).activity = (s.channel n).activity) :
    Keeps s (s.modChannel n f) :=
  State.modChannel_keeps s n (fun _ h => by simpa [Channel.Bounded, he, hx] using h) (fun h => ha ▸ h)

theorem State.immediateStop_keeps : Keeps s (s.modChannel n Channel.immediateStop) :=
  State.modChannel_keeps s n (fun _ _ => ⟨fun _ => rfl, by simp [Channel.immediateStop], by simp [Channel.immediateStop]⟩) id

theorem State.controlledStop_keeps : Keeps s (s.modChannel n Channel.controlledStop) :=
  State.modChannel_keeps_same s n rfl rfl rfl

theorem State.enterJudged_keeps (h : (s.dossier n).state = .testing ∨ (s.dossier n).state = .stopping) :
    Keeps s (s.enterJudged n) := by
  unfold State.enterJudged
  extract_lets judged cleared
  have hlive : (s.dossier n).state.live = true := by rcases h with h | h <;> rw [h] <;> rfl
  have hcleared : Keeps s cleared :=
    (State.modDossier_keeps_live hlive rfl rfl rfl (.inr rfl)).trans <|
      (State.modChannel_keeps_same judged n rfl rfl rfl).trans (State.raise_keeps _ _)
  have hdossier : cleared.dossier n = (s.dossier n).enterJudged s.reports.clock (s.classOf n) :=
    State.dossier_modDossier_same s n _
  split
  · refine Keeps.ite (fun _ => State.fileDossier_keeps hcleared (by rw [hdossier]; rfl) fun hq => ?_) fun _ => hcleared
    rw [hdossier]
    exact (hq.not_mem (by rcases h with h | h <;> rw [h] <;> decide)).2
  · exact hcleared

theorem State.checkStopping_keeps : Keeps s (s.checkStopping n) := by
  refine Keeps.guarded fun h => ?_
  refine (State.modDossier_keeps s n (f := fun d => d.givePending .aborted) rfl).trans (State.enterJudged_keeps _ n (.inr ?_))
  rw [State.dossier_modDossier_same]
  exact h.1

theorem State.checkTested_keeps : Keeps s (s.checkTested n) := Keeps.guarded fun h => State.enterJudged_keeps s n (.inl h.1)

theorem State.enterStopping_keeps (cause : Cause) (h : (s.dossier n).state = .testing) : Keeps s (s.enterStopping n cause) := by
  unfold State.enterStopping
  extract_lets stopping ended
  have hstopping : Keeps s stopping :=
    State.modDossier_keeps_live (by rw [h]; rfl) rfl rfl rfl (.inl (by rw [h]; decide))
  have hended : Keeps stopping ended :=
    (State.setActivity_keeps stopping n (a := .idle) fun _ => trivial).trans (State.endCapture_keeps _ n _)
  exact hstopping.trans <| hended.trans <| (State.abortLeak_keeps _ n).trans (State.dropJobs_keeps _ n)

theorem State.abortNest_keeps (h : (s.dossier n).state = .testing) : Keeps s (s.abortNest n) :=
  (State.enterStopping_keeps s n _ h).trans <| (State.controlledStop_keeps _ n).trans <| (State.arbitrate_keeps _).trans <|
    State.checkStopping_keeps _ n

theorem State.stopNest_keeps (cause : Cause) : Keeps s (s.stopNest n cause) :=
  Keeps.trans (Keeps.guarded fun h => State.enterStopping_keeps s n cause h) (State.immediateStop_keeps _ n)

theorem State.guardStop_keeps : Keeps s (s.guardStop n) :=
  Keeps.guarded fun _ => (State.stopNest_keeps s n _).trans <| (State.arbitrate_keeps _).trans <| State.checkStopping_keeps _ n

/-! ### Run-in failures and the stage engine (R22 to R25) -/

theorem State.withdrawCapture_keeps : Keeps s (s.withdrawCapture n) := by
  unfold State.withdrawCapture
  split
  · exact Keeps.guarded fun _ => State.endCapture_keeps s n _
  · exact Keeps.refl s

/-- Skipping later stages changes records and skip marks alone. -/
theorem Dossier.filing_skipLater (d : Dossier) (p : Plan) : (d.skipLater p).filing = d.filing := by
  unfold Dossier.skipLater
  extract_lets later marks marked
  split <;> rfl

/-- Closing a stage changes records alone. -/
theorem Dossier.filing_closeStage (d : Dossier) (st : Stage) (later : List (Stage × Nat)) :
    (d.closeStage st later).filing = d.filing := by
  unfold Dossier.closeStage
  extract_lets skipped
  have hskipped : skipped.filing = d.filing := by unfold skipped; split <;> rfl
  split <;> exact hskipped

theorem Activity.markFailed_rampOk {a : Activity} (h : a.rampOk) : a.markFailed.rampOk := by
  cases a with
  | profiling c => exact h
  | _ => trivial

theorem State.failRunIn_keeps (cause : Cause) : Keeps s (s.failRunIn n cause) := by
  unfold State.failRunIn
  extract_lets given skipped
  have hskipped : Keeps given skipped := by
    unfold skipped
    split
    · exact State.modDossier_keeps given n (Dossier.filing_skipLater _ _)
    · exact Keeps.refl given
  exact (State.giveRunIn_keeps s n _).trans <| hskipped.trans <|
    (State.modChannel_keeps skipped n (fun _ h => h) Activity.markFailed_rampOk).trans (State.withdrawCapture_keeps _ n)

theorem State.beginStage_keeps (p : Plan) (st : Stage) : Keeps s (s.beginStage n p st).1 := by
  cases st with
  | leak mask set =>
    simp only [State.beginStage]
    split
    · exact Keeps.refl s
    · exact State.beginLeak_keeps s n mask set
  | engage =>
    simp only [State.beginStage]
    have hbegun : Keeps s ((s.modChannel n fun ch => { ch with engaged := false }).modDossier n fun d =>
        { d with runIn := d.runIn.map fun r => { r with attemptUsed := 0 } }) :=
      (State.modChannel_keeps_same s n rfl rfl rfl).trans (State.modDossier_keeps _ n rfl)
    split
    · refine hbegun.trans (State.setActivity_keeps _ n fun _ => ?_)
      split <;> trivial
    · exact hbegun.trans (State.failRunIn_keeps _ n _)
  | reference => exact State.modChannel_keeps s n (fun _ h => h) fun _ => trivial
  | profile =>
    simp only [State.beginStage]
    split
    · exact State.giveRunIn_keeps s n _
    · split
      · exact State.setActivity_keeps s n fun _ _ => rfl
      · exact Keeps.refl s

theorem State.walkStages_keeps (p : Plan) (stages : List (Stage × Nat)) : Keeps s (s.walkStages n p stages) := by
  induction stages generalizing s with
  | nil => exact (State.modDossier_keeps s n rfl).trans (State.checkTested_keeps _ n)
  | cons x later ih =>
    unfold State.walkStages
    refine Keeps.ite (fun _ => ih s) fun _ => ?_
    extract_lets begun
    have hbegun : Keeps s begun.1 := (State.modDossier_keeps s n rfl).trans (State.beginStage_keeps _ n p x.1)
    exact Keeps.ite (fun _ => hbegun.trans <| (State.modDossier_keeps _ n (Dossier.filing_closeStage _ _ _)).trans (ih _))
      fun _ => hbegun

theorem State.stageEnded_keeps : Keeps s (s.stageEnded n) := by
  unfold State.stageEnded
  split
  · refine Keeps.guarded fun _ => ?_
    split
    · exact (State.modDossier_keeps s n (Dossier.filing_closeStage _ _ _)).trans (State.walkStages_keeps _ n _ _)
    · exact Keeps.refl s
  · exact Keeps.refl s

theorem State.endDriveStage_keeps : Keeps s (s.endDriveStage n) :=
  (State.setActivity_keeps s n (a := .idle) fun _ => trivial).trans (State.stageEnded_keeps _ n)

theorem State.checkLeakStage_keeps : Keeps s (s.checkLeakStage n) := by
  refine Keeps.guarded fun _ => ?_
  have hvented : Keeps s ((s.ventHolding n .c0).ventHolding n .c1) :=
    (State.ventHolding_keeps s n .c0).trans (State.ventHolding_keeps _ n .c1)
  exact Keeps.ite (fun _ => hvented.trans <| (State.setLeakStage_keeps _ n _).trans (State.stageEnded_keeps _ n)) fun _ => hvented

theorem State.afterCircuit_keeps : Keeps s (s.afterCircuit n) :=
  (State.requestNext_keeps s n).trans <| (State.arbitrate_keeps _).trans <| (State.checkLeakStage_keeps _ n).trans <|
    State.checkStopping_keeps _ n

/-! ### The start and the retest (R11 to R13, R19 to R21) -/

theorem State.startDossier_keeps (h : (s.dossier n).state = .opened) : Keeps s (s.startDossier n) := by
  unfold State.startDossier
  split
  · exact (State.modDossier_keeps_live (by rw [h]; rfl) rfl rfl rfl (.inl (by rw [h]; decide))).trans (State.walkStages_keeps _ n _ _)
  · exact Keeps.refl s

theorem State.opened_of_autoStartHolds {s : State} {n : Nest} (h : s.autoStartHolds n = true) : (s.dossier n).state = .opened := by
  simp only [State.autoStartHolds, Bool.and_eq_true, beq_iff_eq] at h
  exact h.1.1.1.1

theorem State.autoStart_keeps : Keeps s (s.autoStart n) :=
  Keeps.guarded fun h => State.startDossier_keeps s n (State.opened_of_autoStartHolds h)

theorem State.retestDossier_keeps (h : (s.dossier n).state = .judged) : Keeps s (s.retestDossier n) := by
  unfold State.retestDossier
  split
  · exact (State.retest_keeps h).trans (State.walkStages_keeps _ n _ _)
  · exact Keeps.refl s

/-! ### Requests against a dossier (R8 to R21) -/

theorem withNest_keeps {b : Byte} {k : Nest → State → State × ReplyCode} (h : ∀ n, Keeps s (k n s).1) :
    Keeps s (withNest b k s).1 := by
  unfold withNest
  split
  · exact h _
  · exact Keeps.refl s

theorem arriveRequest_keeps (b v : Byte) (serial : List Byte) : Keeps s (arriveRequest b v serial s).1 := by
  refine withNest_keeps s fun n => ?_
  cases variantOf v with
  | none => split_ifs <;> exact Keeps.refl s
  | some v =>
    dsimp only
    split_ifs with hserial hvacant hfaults hplan
    · exact Keeps.refl s
    · exact Keeps.refl s
    · exact Keeps.refl s
    · exact Keeps.refl s
    · exact Keeps.refl s
    · exact State.arrive_keeps (Classical.not_not.mp hvacant) (by simpa [Option.isSome_iff_ne_none] using hplan) ⟨rfl, rfl, rfl⟩

theorem clampedRequest_keeps (b : Byte) : Keeps s (clampedRequest b s).1 := by
  refine withNest_keeps s fun n => ?_
  split_ifs
  · exact Keeps.refl s
  · exact Keeps.refl s
  · exact (State.modDossier_keeps s n rfl).trans (State.autoStart_keeps _ n)

theorem startRequest_keeps (b : Byte) : Keeps s (startRequest b s).1 := by
  refine withNest_keeps s fun n => ?_
  split_ifs with hopened
  · exact Keeps.refl s
  · exact Keeps.refl s
  · exact Keeps.refl s
  · exact Keeps.refl s
  · exact State.startDossier_keeps s n (Classical.not_not.mp hopened)

theorem abortRequest_keeps (b : Byte) : Keeps s (abortRequest b s).1 := by
  refine withNest_keeps s fun n => ?_
  split_ifs with htesting
  · exact State.abortNest_keeps s n htesting
  · exact Keeps.refl s

theorem releaseRequest_keeps (b : Byte) : Keeps s (releaseRequest b s).1 := by
  refine withNest_keeps s fun n => ?_
  dsimp only
  split_ifs with hvacant hstate hrest hfiled hfull
  · exact Keeps.refl s
  · exact Keeps.refl s
  · exact Keeps.refl s
  · exact State.vacate_keeps hfiled
  · exact Keeps.refl s
  · have hopened : (s.dossier n).state = .opened := by tauto
    have hroom : s.reports.reports.length < 16 := Nat.not_le.mp hfull
    have hreleased := State.modDossier_keeps s n (f := fun d => d.releasedUntested s.reports.clock (s.classOf n)) rfl
    refine hreleased.trans <| Keeps.trans (State.fileReport_keeps hroom ?_) (State.vacate_keeps (by rw [State.dossier_fileReport_same]))
    simp [Dossier.releasedUntested, hopened]

theorem fileRequest_keeps (b : Byte) : Keeps s (fileRequest b s).1 := by
  refine withNest_keeps s fun n => ?_
  split_ifs with hstate hflag
  · exact Keeps.refl s
  · exact Keeps.refl s
  · exact State.fileDossier_keeps (Keeps.refl s) (Classical.not_not.mp hstate) fun _ => Bool.eq_false_iff.mpr hflag

theorem quarantineRequest_keeps (b : Byte) : Keeps s (quarantineRequest b s).1 := by
  refine withNest_keeps s fun n => ?_
  split_ifs
  · exact Keeps.refl s
  · exact State.modDossier_keeps s n rfl

theorem retestRequest_keeps (b : Byte) : Keeps s (retestRequest b s).1 := by
  refine withNest_keeps s fun n => ?_
  dsimp only
  split_ifs with hstate
  · exact Keeps.refl s
  · exact Keeps.refl s
  · exact Keeps.refl s
  · exact Keeps.refl s
  · exact State.retestDossier_keeps s n (Classical.not_not.mp fun hne => hstate (.inl hne))

end
end Sys2Proof.Machine
end

section
/-! PROOFS. What the drive channels keep (`Keeps`): every set-point that an update sends lies within 3000 rpm, and no update leaves a
step capture in phase RAMP (Chapters 4 and 5). -/

namespace Sys2Proof.Machine

/-! ### A change of a channel, after an operation -/

/-- A change of a channel whose set-point and counters were computed from an earlier state. -/
theorem Keeps.modChannel {r s : State} {n : Nest} {f : Channel → Channel} (h : Keeps r s)
    (hbounded : r.driveSound → (s.channel n).Bounded → (f (s.channel n)).Bounded)
    (hramp : r.rampSound → (s.channel n).activity.rampOk → (f (s.channel n)).activity.rampOk) : Keeps r (s.modChannel n f) where
  pending := h.pending
  intake := h.intake
  faults := h.faults
  filing := h.filing
  drive hr :=
    (State.modChannel_keeps s n (fun _ => hbounded hr) (f := fun ch => { f ch with activity := ch.activity }) id).drive (h.drive hr)
      |> fun hd => by
        rw [State.driveSound_iff] at hd ⊢
        refine ⟨fun m => ?_, hd.2⟩
        have := hd.1 m
        rw [State.channel_modChannel] at this ⊢
        split <;> simp_all [Channel.Bounded]
  ramp hr := by
    have hs := State.rampSound_iff.mp (h.ramp hr)
    rw [State.rampSound_iff]
    intro m
    rw [State.channel_modChannel]
    split
    · exact hramp hr (hs n)
    · exact hs m

theorem Keeps.setActivity {r s : State} {n : Nest} {a : Activity} (h : Keeps r s) (ha : r.rampSound → a.rampOk) :
    Keeps r (s.setActivity n a) :=
  h.modChannel (fun _ hb => hb) fun hr _ => ha hr

section
variable {s : State} {n : Nest}

theorem State.bounded_of_driveSound (h : s.driveSound) : (s.channel n).Bounded := (State.driveSound_iff.mp h).1 n

theorem State.rampOk_of_rampSound (h : s.rampSound) : (s.channel n).activity.rampOk := State.rampSound_iff.mp h n

/-- A set-point within 3000 rpm that is sent leaves the channel bounded. -/
theorem Channel.send_bounded {ch : Channel} {x : Int} (hx : -3000 ≤ x ∧ x ≤ 3000) : (ch.send x).Bounded := by
  unfold Channel.send Channel.Bounded
  dsimp only
  split <;> simp_all

theorem Channel.enableWith_bounded {ch : Channel} {x : Int} (hx : -3000 ≤ x ∧ x ≤ 3000) : (ch.enableWith x).Bounded :=
  ⟨fun h => by simp [Channel.enableWith] at h, hx⟩

theorem Keeps.send {r : State} (h : Keeps r s) {x : Int} (hx : r.driveSound → -3000 ≤ x ∧ x ≤ 3000) :
    Keeps r (s.modChannel n fun ch => ch.send x) :=
  h.modChannel (fun hr _ => Channel.send_bounded (hx hr)) fun _ ha => ha

theorem Keeps.turnOn {r : State} (h : Keeps r s) {x : Int} (hx : r.driveSound → -3000 ≤ x ∧ x ≤ 3000) : Keeps r (s.turnOn n x) :=
  (h.modChannel (f := fun ch => ch.enableWith x) (fun hr _ => Channel.enableWith_bounded (hx hr)) fun _ ha => ha).trans
    (State.endZeroOnEnable_keeps _ n)

/-- A move toward a goal within range stays in range. -/
theorem State.moveToward_range {goal step : Int} (hs : 0 ≤ step) (hg : -3000 ≤ goal ∧ goal ≤ 3000) (h : s.driveSound) :
    -3000 ≤ moveToward goal step (s.channel n).setPoint ∧ moveToward goal step (s.channel n).setPoint ≤ 3000 :=
  moveToward_bounds hs hg (State.bounded_of_driveSound h).2

end

section
variable (s : State) (n : Nest)

/-! ### Failed enabling checks and controlled stops (R62, R63) -/

theorem State.failAtRest_keeps (cause : Cause) : Keeps s (s.failAtRest n cause) :=
  (State.failRunIn_keeps s n cause).trans (State.endDriveStage_keeps _ n)

theorem State.refuseEnable_keeps (k : EnableCheck) : Keeps s (s.refuseEnable n k) := by
  cases k with
  | granted => exact Keeps.refl s
  | openGuard => exact State.guardStop_keeps s n
  | failure cause => exact State.failAtRest_keeps s n cause

theorem State.stageStop_keeps : Keeps s (s.stageStop n) :=
  Keeps.ite (fun _ => State.controlledStop_keeps s n) fun _ => State.endDriveStage_keeps s n

theorem State.driveDropped_keeps : Keeps s (s.driveDropped n) := by
  unfold State.driveDropped
  split
  · exact State.checkStopping_keeps s n
  · exact Keeps.refl s
  · refine Keeps.ite (fun _ => State.endDriveStage_keeps s n) fun _ => ?_
    split
    · exact State.setActivity_keeps s n fun _ => trivial
    · exact State.failAtRest_keeps s n _
  · exact State.endDriveStage_keeps s n
  · exact State.endDriveStage_keeps s n
  · exact State.endDriveStage_keeps s n
  · exact State.endDriveStage_keeps s n

theorem State.stopUpdate_keeps : Keeps s (s.stopUpdate n) :=
  Keeps.ite (fun _ => (State.immediateStop_keeps s n).trans (State.driveDropped_keeps _ n)) fun _ =>
    (Keeps.refl s).send (State.moveToward_range (by decide) (by decide))

theorem State.failMoving_keeps (cause : Cause) : Keeps s (s.failMoving n cause) :=
  (State.failRunIn_keeps s n cause).trans <| (State.controlledStop_keeps _ n).trans (State.stopUpdate_keeps _ n)

/-! ### The ENGAGE stage (R69 to R72) -/

theorem Attempt.setPoint_range (a : Attempt) (k : Nat) : -3000 ≤ a.setPoint k ∧ a.setPoint k ≤ 3000 := by
  cases a with
  | forwardCreep => simp [Attempt.setPoint]
  | reverseCreep => simp [Attempt.setPoint]
  | oscillation =>
    simp only [Attempt.setPoint]
    omega

theorem State.attemptCriteria_keeps (p : Plan) (torque : Int) (e : EngageCounters) : Keeps s (s.attemptCriteria n p torque e) := by
  unfold State.attemptCriteria
  have hset (e : EngageCounters) : Keeps s (s.setActivity n (.engaging e)) := State.setActivity_keeps s n fun _ => trivial
  refine Keeps.ite (fun _ => ?_) fun _ => ?_
  · exact (hset e).trans <| (State.modChannel_keeps_same _ n rfl rfl rfl).trans (State.modDossier_keeps _ n rfl)
  · exact Keeps.ite (fun _ => (hset _).trans (State.controlledStop_keeps _ n)) fun _ => hset _

theorem State.engageUpdate_keeps (p : Plan) (torque : Int) (seated : Bool) (e : EngageCounters) :
    Keeps s (s.engageUpdate n p torque seated e) := by
  unfold State.engageUpdate
  refine Keeps.ite (fun _ => Keeps.ite (fun _ => State.failMoving_keeps s n _) fun _ => ?_) fun _ => ?_
  · exact ((Keeps.refl s).send fun _ => Attempt.setPoint_range _ _).trans (State.attemptCriteria_keeps _ n _ _ _)
  · split
    · exact ((Keeps.refl s).turnOn fun _ => Attempt.setPoint_range _ _).trans (State.attemptCriteria_keeps _ n _ _ _)
    · exact State.refuseEnable_keeps s n _

theorem State.permitWaitUpdate_keeps (p : Plan) (torque : Int) (seated : Bool) (updates : Nat) :
    Keeps s (s.permitWaitUpdate n p torque seated updates) := by
  unfold State.permitWaitUpdate
  refine Keeps.ite (fun _ => ?_) fun _ =>
    Keeps.ite (fun _ => State.failAtRest_keeps s n _) fun _ => State.setActivity_keeps s n fun _ => trivial
  split
  · exact (State.setActivity_keeps s n (a := .engaging _) fun _ => trivial).trans (State.engageUpdate_keeps _ n _ _ _ _)
  · exact State.failAtRest_keeps s n _

/-! ### The REFERENCE stage (R73 to R76) -/

theorem State.searchSpeed_range {s : State} {n : Nest} {p : Plan} (h : s.speedsStored) (hp : s.planOf n = some p) :
    30 ≤ p.searchSpeed ∧ p.searchSpeed ≤ 300 := by
  obtain ⟨v, -, hv⟩ := Option.bind_eq_some_iff.mp hp
  exact h v p hv

theorem referenceSetPoint_range {p : Plan} (hp : p.searchSpeed ≤ 300) (a : Activity) {x : Int} (hx : -3000 ≤ x ∧ x ≤ 3000) :
    -3000 ≤ referenceSetPoint p a x ∧ referenceSetPoint p a x ≤ 3000 := by
  cases a with
  | searching r => exact moveToward_bounds (by decide) (by omega) hx
  | reversing r =>
    simp only [referenceSetPoint]
    split
    · exact moveToward_bounds (by decide) (by decide) hx
    · exact moveToward_bounds (by decide) (by decide) hx
  | creeping r => exact moveToward_bounds (by decide) (by split <;> decide) hx
  | _ => exact hx

theorem Activity.withRef_rampOk {a : Activity} (h : a.rampOk) (r : RefCounters) : (a.withRef r).rampOk := by
  cases a with
  | profiling c => exact h
  | _ => trivial

theorem Activity.sent_rampOk {a : Activity} (h : a.rampOk) (x : Int) : (a.sent x).rampOk := by
  cases a with
  | profiling c => exact h
  | _ => trivial

theorem State.referenceUpdate_keeps {p : Plan} (hp : s.planOf n = some p) (torque : Int) {a : Activity} (ha : a.rampOk)
    (r : RefCounters) : Keeps s (s.referenceUpdate n p torque a r) := by
  unfold State.referenceUpdate
  extract_lets r' x a'
  have hx (h : s.driveSound) : -3000 ≤ x ∧ x ≤ 3000 :=
    referenceSetPoint_range (State.searchSpeed_range (State.driveSound_iff.mp h).2 hp).2 a (State.bounded_of_driveSound h).2
  have hset : Keeps s (s.setActivity n a') :=
    State.setActivity_keeps s n fun _ => Activity.sent_rampOk (Activity.withRef_rampOk ha r') x
  refine Keeps.ite (fun _ => Keeps.ite (fun _ => State.failMoving_keeps s n _) fun _ =>
    Keeps.ite (fun _ => ?_) fun _ => hset.send hx) fun _ => Keeps.ite (fun _ => hset) fun _ => ?_
  · exact (State.setActivity_keeps s n fun _ => Activity.withRef_rampOk ha r').trans (State.failMoving_keeps _ n _)
  · split
    · exact hset.turnOn hx
    · exact State.refuseEnable_keeps s n _

/-! ### The PROFILE stage (R82 to R94) -/

/-- The counters that an update belongs to keep a sound ramp: a step begins with its capture NONE. -/
theorem ProfileCounters.locate_rampOk {p p' : ProfileCounters} {plan : Plan} {x : Int} {t : Step} (h : p.rampOk)
    (hl : p.locate plan x = some (p', t)) : p'.rampOk := by
  unfold ProfileCounters.locate at hl
  split at hl
  · cases hl
  · split at hl
    · simp only at hl
      split at hl
      · cases hl
      · cases hl
        exact fun _ => rfl
    · cases hl
      unfold ProfileCounters.phased
      split
      · intro hphase
        cases hphase
      · exact h

/-- An update of a ramp leaves the step capture alone. -/
theorem ProfileCounters.advance_rampOk {p : ProfileCounters} (h : p.rampOk) (t : Step) : (p.advance t).rampOk := by
  unfold ProfileCounters.advance
  cases hphase : p.phase with
  | ramp => exact fun _ => h hphase
  | dwell =>
    intro hramp
    exfalso
    revert hramp
    simp only
    split <;> split <;> simp [hphase]

theorem State.profileOutput_range {s : State} (n : Nest) (computed : Int) (h : s.driveSound) :
    -3000 ≤ s.profileOutput n computed ∧ s.profileOutput n computed ≤ 3000 := by
  have hlimit (y : Int) (hy : -3000 ≤ y ∧ y ≤ 3000) := limiter_bounds (s.classOf n) computed hy
  unfold State.profileOutput
  dsimp only
  split
  · exact hlimit _ (State.bounded_of_driveSound h).2
  · split
    · decide
    · split
      · exact hlimit 0 (by decide)
      · decide

theorem State.dwellStart_keeps (t : Step) (x : Int) : Keeps s (s.dwellStart n t x) := by
  unfold State.dwellStart
  split
  · exact State.requestCapture_keeps s n _ _ _
  · exact Keeps.refl s

theorem State.holdLimitReached_keeps : Keeps s (s.holdLimitReached n) :=
  (State.endCapture_keeps s n _).trans (State.captureEnded_keeps _ n)

theorem State.takeStep_keeps (plan : Plan) (t : Step) (p : ProfileCounters) {p' : ProfileCounters} (x : Int)
    (hp : s.rampSound → p'.rampOk) : Keeps s (s.takeStep n plan t p p' x) := by
  unfold State.takeStep
  have hset : Keeps s (s.setActivity n (.profiling p')) := (Keeps.refl s).setActivity hp
  have hstart : Keeps s (if p.atDwellStart then (s.setActivity n (.profiling p')).dwellStart n t x
      else s.setActivity n (.profiling p')) :=
    Keeps.ite (fun _ => hset.trans (State.dwellStart_keeps _ n t x)) fun _ => hset
  refine Keeps.ite (fun _ => hstart.trans (State.holdLimitReached_keeps _ n)) fun _ => Keeps.ite (fun _ => ?_) fun _ => hstart
  exact (hstart.trans (State.modDossier_keeps _ n rfl)).setActivity hp

theorem Keeps.sendProfile {r s : State} {n : Nest} (h : Keeps r s) (computed : Int) {x : Int}
    (hx : r.driveSound → -3000 ≤ x ∧ x ≤ 3000) : Keeps r (s.sendProfile n computed x) := by
  unfold State.sendProfile
  refine Keeps.ite (fun _ => h.send hx) fun _ => Keeps.ite (fun _ => h) fun _ =>
    Keeps.ite (fun _ => h.trans (State.failAtRest_keeps s n _)) fun _ => ?_
  split
  · exact h.turnOn hx
  · exact h.trans (State.refuseEnable_keeps s n _)

theorem State.profileStep_keeps (plan : Plan) (t : Step) {p : ProfileCounters} (hp : s.rampSound → p.rampOk) :
    Keeps s (s.profileStep n plan t p) :=
  (State.takeStep_keeps s n plan t p _ fun hr => ProfileCounters.advance_rampOk (hp hr) t).sendProfile _
    (State.profileOutput_range n _)

theorem State.completeProfile_keeps : Keeps s (s.completeProfile n) :=
  Keeps.ite (fun _ => (State.controlledStop_keeps s n).trans (State.stopUpdate_keeps _ n)) fun _ => State.endDriveStage_keeps s n

theorem State.profileUpdate_keeps (plan : Plan) (torque : Int) {p : ProfileCounters} (hact : (s.channel n).activity = .profiling p) :
    Keeps s (s.profileUpdate n plan torque p) := by
  unfold State.profileUpdate
  refine Keeps.ite (fun _ => State.completeProfile_keeps s n) fun _ => ?_
  split
  · exact Keeps.refl s
  · next p' t hl =>
    have hp' (hr : s.rampSound) : p'.rampOk := by
      have hp := State.rampOk_of_rampSound (n := n) hr
      rw [hact] at hp
      exact ProfileCounters.locate_rampOk hp hl
    refine Keeps.ite (fun _ => Keeps.ite (fun _ => ?_) fun _ => ?_) fun _ => State.profileStep_keeps s n plan t hp'
    · exact ((Keeps.refl s).setActivity (a := .profiling p') hp').trans (State.failMoving_keeps _ n _)
    · extract_lets counted
      have hcounted : s.rampSound → counted.rampOk := hp'
      have hset : Keeps s (s.setActivity n (.profiling counted)) := (Keeps.refl s).setActivity hcounted
      exact Keeps.ite (fun _ => hset.trans (State.failMoving_keeps _ n _)) fun _ => State.profileStep_keeps s n plan t hcounted

/-! ### The drive update (R60) -/

theorem State.raisePeak_keeps (torque : Int) : Keeps s (s.raisePeak n torque) := by
  unfold State.raisePeak
  split
  · exact State.modDossier_keeps s n rfl
  · exact Keeps.refl s

theorem State.channelUpdate_keeps (torque : Int) (seated : Bool) : Keeps s (s.channelUpdate n torque seated) := by
  unfold State.channelUpdate
  refine Keeps.ite (fun _ => State.stopUpdate_keeps s n) fun _ => ?_
  split
  · exact State.permitWaitUpdate_keeps s n _ _ _ _
  · exact State.engageUpdate_keeps s n _ _ _ _
  · next hp _ => exact State.referenceUpdate_keeps s n hp torque (a := .searching _) trivial _
  · next hp _ => exact State.referenceUpdate_keeps s n hp torque (a := .reversing _) trivial _
  · next hp _ => exact State.referenceUpdate_keeps s n hp torque (a := .creeping _) trivial _
  · next hact => exact State.profileUpdate_keeps s n _ torque hact
  · exact Keeps.refl s

theorem State.driveUpdate_keeps (u : UpdateInput) : Keeps s (s.driveUpdate u) :=
  (State.zeroSample_keeps s _ _ _ _).trans <| (State.raisePeak_keeps _ _ _).trans <| (State.channelUpdate_keeps _ _ _ _).trans <|
    State.lookForSlot_keeps _ _

/-! ### The encoder, mark edges and index pulses (R67, R68, R74 to R77) -/

theorem State.encoderFault_keeps : Keeps s (s.encoderFault n) := by
  unfold State.encoderFault
  have hreported : Keeps s (((s.modChannel n fun ch => { ch with reference := none }).referenceLost n).reportFault n .encoderFault) :=
    (State.modChannel_keeps_same s n rfl rfl rfl).trans <| (State.referenceLost_keeps _ n).trans (State.reportFault_keeps _ n _)
  exact Keeps.ite (fun _ => hreported.trans <| (State.failRunIn_keeps _ n _).trans (State.stageStop_keeps _ n)) fun _ => hreported

theorem Activity.travelled_rampOk {a : Activity} (h : a.rampOk) (d : Direction) : (a.travelled d).rampOk := by
  cases a with
  | profiling c => exact h
  | _ => trivial

theorem State.checkTravel_keeps : Keeps s (s.checkTravel n) :=
  Keeps.guarded fun _ => (State.failRunIn_keeps s n _).trans (State.stageStop_keeps _ n)

theorem State.countChange_keeps (d : Direction) : Keeps s (s.countChange n d) := by
  unfold State.countChange
  extract_lets angle counted
  have hcounted : Keeps s counted := State.modChannel_keeps s n (fun _ h => h) fun h => Activity.travelled_rampOk h d
  exact hcounted.trans <| Keeps.trans (Keeps.guarded fun _ => State.samplePoint_keeps counted n d) (State.checkTravel_keeps _ n)

theorem State.encoderChange_keeps (e : EncoderInput) : Keeps s (s.encoderChange e) := by
  unfold State.encoderChange
  split
  · exact State.countChange_keeps s _ _
  · exact State.countChange_keeps s _ _
  · exact State.encoderFault_keeps s _

theorem State.beginCreep_keeps (p : Plan) (r : RefCounters) : Keeps s (s.beginCreep n p r) :=
  State.modChannel_keeps s n (fun _ h => h) fun _ => trivial

theorem State.markEdge_keeps : Keeps s (s.markEdge n) := by
  unfold State.markEdge
  refine Keeps.ite (fun _ => Keeps.refl s) fun _ => ?_
  split
  · split
    · exact State.beginCreep_keeps s n _ _
    · exact State.setActivity_keeps s n fun _ => trivial
  · exact Keeps.ite (fun _ => State.beginCreep_keeps s n _ _) fun _ => Keeps.refl s
  · exact Keeps.refl s

theorem State.recordReference_keeps : Keeps s (s.recordReference n) :=
  (State.modChannel_keeps_same s n rfl rfl rfl).trans (State.stageStop_keeps _ n)

theorem State.creepPulse_keeps (p : Plan) (r : RefCounters) : Keeps s (s.creepPulse n p r) := by
  have hset : Keeps s (s.setActivity n (.creeping { r with pulses := r.pulses + 1 })) := State.setActivity_keeps s n fun _ => trivial
  exact Keeps.ite (fun _ => State.recordReference_keeps s n) fun _ =>
    Keeps.ite (fun _ => hset.trans <| (State.modChannel_keeps_same _ n rfl rfl rfl).trans (State.recordReference_keeps _ n)) fun _ => hset

theorem State.indexPulse_keeps : Keeps s (s.indexPulse n) := by
  unfold State.indexPulse
  split
  · exact Keeps.guarded fun _ => State.encoderFault_keeps s n
  · refine Keeps.ite (fun _ => Keeps.refl s) fun _ => ?_
    split
    · exact State.creepPulse_keeps s n _ _
    · exact Keeps.refl s

end
end Sys2Proof.Machine
end

section
/-! PROOFS. What the interlock unit, the bench port and the links keep (`Keeps`), and with them every command (`exec_keeps`). It settles O3,
O57 and O59, and O60 from the state after reset. -/

namespace Sys2Proof.Machine

section
variable (s : State) (n : Nest)

/-! ### Samples, the e-stop, the guards, the drive-fault inputs and the permit (Chapters 3, 6 and 10) -/

theorem State.pressureSample_keeps (p : PressureInput) : Keeps s (s.pressureSample p) := by
  unfold State.pressureSample
  extract_lets fault x zeroed reported before sampled
  have hreported : Keeps zeroed reported := Keeps.guarded fun _ => State.reportFault_keeps zeroed _ _
  have hsampled : Keeps s sampled :=
    (State.zeroSample_keeps s _ _ _ _).trans <| hreported.trans (State.circuitSample_keeps reported _ _ _ _)
  exact Keeps.ite (fun _ => hsampled) fun _ => hsampled.trans (State.afterCircuit_keeps sampled _)

theorem State.supplySample_keeps (pressure : Int) : Keeps s (s.supplySample pressure) :=
  (State.modArbiter_keeps s _).trans (State.arbitrate_keeps _)

theorem State.tempSample_keeps (input : Int) : Keeps s (s.tempSample n input) := by
  unfold State.tempSample
  extract_lets reading old taken reported
  have hreported : Keeps s reported :=
    (State.modMonitor_keeps s n _).trans (Keeps.guarded fun _ => State.reportFault_keeps taken n _)
  exact Keeps.ite (fun _ => hreported.trans (State.raise_keeps _ _)) fun _ => hreported

/-- A change of the station number or of the clock. -/
theorem State.modReports_keeps {f : ReportQueue → ReportQueue} (hreports : (f s.reports).reports = s.reports.reports)
    (hnext : (f s.reports).nextNumber = s.reports.nextNumber) (hwait : (f s.reports).filingPending = s.reports.filingPending) :
    Keeps s (s.modReports f) :=
  Keeps.of_filing rfl rfl rfl rfl id (State.filingSound_congr hreports hnext hwait rfl fun _ => rfl)

theorem State.estopActivate_keeps : Keeps s s.estopActivate :=
  (State.modInterlock_keeps s (f := fun i => { i with estop := true }) rfl).trans <| (State.stopNest_keeps _ .n0 _).trans <|
    (State.stopNest_keeps _ .n1 _).trans <| (State.arbitrate_keeps _).trans <| (State.checkStopping_keeps _ .n0).trans <|
    (State.checkStopping_keeps _ .n1).trans (State.raise_keeps _ _)

theorem State.estopClear_keeps : Keeps s s.estopClear :=
  (State.modInterlock_keeps s (f := fun i => { i with estop := false }) rfl).trans <| (State.raise_keeps _ _).trans <|
    (State.autoStart_keeps _ .n0).trans (State.autoStart_keeps _ .n1)

theorem State.setGuard_keeps (b : Bool) : Keeps s (s.setGuard n b) :=
  State.modInterlock_keeps s (f := fun i => { i with guardOpen := i.guardOpen.set n b }) rfl

theorem State.setDriveFault_keeps (b : Bool) : Keeps s (s.setDriveFault n b) :=
  State.modInterlock_keeps s (f := fun i => { i with driveFault := i.driveFault.set n b }) rfl

theorem State.driveFaultActivate_keeps : Keeps s (s.driveFaultActivate n) := by
  unfold State.driveFaultActivate
  extract_lets stopped failed
  have hfailed : Keeps s failed :=
    (State.setDriveFault_keeps s n true).trans <| (State.immediateStop_keeps _ n).trans <|
      Keeps.guarded fun _ => State.failAtRest_keeps stopped n _
  exact hfailed.trans <| (State.reportFault_keeps failed n _).trans (State.checkStopping_keeps _ n)

theorem State.lapseNest_keeps : Keeps s (s.lapseNest n) :=
  Keeps.guarded fun _ => Keeps.trans (Keeps.guarded fun _ => State.failRunIn_keeps s n _) (State.controlledStop_keeps _ n)

theorem State.permitExpiry_keeps : Keeps s s.permitExpiry :=
  Keeps.guarded fun _ => (State.modInterlock_keeps s (f := fun i => { i with permitLive := false, permitLeft := 0 }) rfl).trans <|
    (State.lapseNest_keeps _ .n0).trans (State.lapseNest_keeps _ .n1)

theorem State.jobComplete_keeps : Keeps s s.jobComplete := by
  unfold State.jobComplete
  split
  · exact Keeps.refl s
  · next j _ =>
    extract_lets dropped merged ended
    have hmerged : Keeps s merged := Keeps.ite (fun _ => Keeps.refl s) fun _ => State.mergeJob_keeps s j
    have hended : Keeps s ended :=
      hmerged.trans <| (State.giveBackSlot_keeps merged _).trans (State.modEngine_keeps _ _)
    exact Keeps.trans (Keeps.ite (fun _ => hended) fun _ => hended.trans (State.checkTested_keeps ended _)) (State.takeJob_keeps _)

/-! ### The reset (R2) -/

theorem State.planEntry_afterReset (pins : ResetPins) (k : Nat) (cs : List Instr) (v : Fin 32) :
    (State.afterReset pins k cs).planEntry v = ⟨none, 0⟩ := by
  simp [State.planEntry, State.afterReset]

theorem State.dossier_afterReset (pins : ResetPins) (k : Nat) (cs : List Instr) (n : Nest) :
    (State.afterReset pins k cs).dossier n = Dossier.vacant := by cases n <;> rfl

theorem State.channel_afterReset (pins : ResetPins) (k : Nat) (cs : List Instr) (n : Nest) :
    (State.afterReset pins k cs).channel n = Channel.afterReset := by cases n <;> rfl

theorem State.faultsSound_afterReset (pins : ResetPins) (k : Nat) (cs : List Instr) : (State.afterReset pins k cs).faultsSound := by
  intro n
  cases n <;> exact ⟨List.nodup_nil, Nat.zero_le _, fun h => nomatch h⟩

theorem State.driveSound_afterReset (pins : ResetPins) (k : Nat) (cs : List Instr) : (State.afterReset pins k cs).driveSound := by
  rw [State.driveSound_iff]
  refine ⟨fun n => ?_, fun v p hp => ?_⟩
  · rw [State.channel_afterReset]
    exact ⟨fun _ => rfl, by decide, by decide⟩
  · rw [State.planEntry_afterReset] at hp
    cases hp

theorem State.rampSound_afterReset (pins : ResetPins) (k : Nat) (cs : List Instr) : (State.afterReset pins k cs).rampSound := by
  rw [State.rampSound_iff]
  intro n
  rw [State.channel_afterReset]
  trivial

theorem State.filingSound_afterReset (pins : ResetPins) (k : Nat) (cs : List Instr) : (State.afterReset pins k cs).filingSound := by
  refine ⟨⟨Nat.zero_le _, trivial, Nat.le_refl 1, Nat.le_of_ble_eq_true rfl, fun _ => rfl, List.nodup_nil, fun n => ?_⟩, fun v => ?_,
    fun n hlive => ?_⟩
  · rw [State.dossier_afterReset]
    simp [State.afterReset, Dossier.vacant]
  · rw [State.planEntry_afterReset, State.liveCount, State.names_eq, State.names_eq, State.dossier_afterReset, State.dossier_afterReset]
    rfl
  · rw [State.dossier_afterReset] at hlive
    cases hlive

theorem State.resetWith_keeps (pins : ResetPins) : Keeps s (s.resetWith pins) := by
  unfold State.resetWith
  extract_lets fresh first
  have hfresh : Keeps s fresh :=
    ⟨rfl, fun _ => rfl, fun _ => State.faultsSound_afterReset _ _ _, fun _ => State.driveSound_afterReset _ _ _,
      fun _ => State.rampSound_afterReset _ _ _, fun _ => State.filingSound_afterReset _ _ _⟩
  have hfirst : Keeps s first := hfresh.trans (Keeps.guarded fun _ => State.driveFaultActivate_keeps fresh _)
  exact Keeps.ite (fun _ => hfirst.trans (State.driveFaultActivate_keeps first _)) fun _ => hfirst

/-! ### The bench commands (R179, R196) -/

theorem withBenchNest_keeps {b : Byte} {k : Nest → State → State × ReplyCode × List Word} (h : ∀ n, Keeps s (k n s).1) :
    Keeps s (withBenchNest b k s).1 := by
  unfold withBenchNest
  split
  · exact h _
  · exact Keeps.refl s

theorem readTempCommand_keeps (b : Byte) : Keeps s (readTempCommand b s).1 :=
  withBenchNest_keeps s fun n => State.modMonitor_keeps s n _

/-- The fault list that a CLEAR_FAULTS leaves is sound (R176). -/
theorem State.clearedList_sound (h : s.faultsSound) : (s.clearedList n).causes.Nodup ∧ (s.clearedList n).causes.length ≤ 4 ∧
    ((s.clearedList n).more = true → (s.clearedList n).causes.length = 4) := by
  obtain ⟨hnodup, hlen, -⟩ := h n
  unfold State.clearedList
  extract_lets l kept
  have hkept : kept.Nodup := hnodup.filter _
  have hkeptLen : kept.length ≤ 4 := (List.length_filter_le _ _).trans hlen
  have hplain : kept.Nodup ∧ kept.length ≤ 4 ∧ (false = true → kept.length = 4) := ⟨hkept, hkeptLen, fun h => nomatch h⟩
  split
  · next fifth _ hfifth =>
    have hnew : fifth ∉ kept := by
      have := List.find?_some hfifth
      simp only [Bool.not_eq_true', List.contains_eq_mem, decide_eq_false_iff_not] at this
      exact fun hm => this (List.mem_filter.mp hm).1
    split
    · split
      · exact ⟨List.nodup_append.mpr ⟨hkept, List.nodup_singleton _, fun a ha b hb hab =>
          hnew (List.mem_singleton.mp hb ▸ hab ▸ ha)⟩, by simpa using ‹kept.length < 4›, fun h => nomatch h⟩
      · exact ⟨hkept, hkeptLen, fun _ => Nat.le_antisymm hkeptLen (Nat.not_lt.mp ‹_›)⟩
    · exact hplain
  · exact hplain

theorem clearFaultsCommand_keeps (b : Byte) : Keeps s (clearFaultsCommand b s).1 := by
  refine withBenchNest_keeps s fun n => ?_
  split_ifs
  · exact Keeps.refl s
  · exact State.setFaultList_keeps s n (State.clearedList_sound s n)

theorem readDossierCommand_keeps (b : Byte) : Keeps s (readDossierCommand b s).1 :=
  withBenchNest_keeps s fun _ => State.fillOutput_keeps s _

theorem State.freeCount_keeps (k : Nat) : Keeps s { s with freeCount := k } := Keeps.frame rfl rfl rfl rfl rfl rfl fun _ => rfl

theorem readStationCommand_keeps : Keeps s (readStationCommand s).1 := by
  unfold readStationCommand
  dsimp only
  exact (State.fillOutput_keeps s _).trans (State.freeCount_keeps _ _)

theorem readReportCommand_keeps (position : Byte) : Keeps s (readReportCommand position s).1 := by
  unfold readReportCommand
  split
  · exact Keeps.refl s
  · split
    · exact Keeps.refl s
    · exact State.fillOutput_keeps s _

theorem setReportBaseCommand_keeps (number : Word) : Keeps s (setReportBaseCommand number s).1 := by
  unfold setReportBaseCommand
  split_ifs with hzero hheld
  · exact Keeps.refl s
  · exact Keeps.refl s
  · rw [not_or, Classical.not_not, Classical.not_not] at hheld
    obtain ⟨hreports, hwaiting⟩ := hheld
    refine Keeps.of_filing rfl rfl rfl rfl id fun ⟨hq, huse⟩ => ⟨?_, huse⟩
    obtain ⟨hlen, -, -, -, hempty, hnodup, hwait⟩ := hq
    have hpos : number.toNat ≠ 0 := fun h => hzero (BitVec.eq_of_toNat_eq h)
    have hlt := number.isLt
    refine ⟨hlen, ?_, by simp only [State.modReports_reports]; omega, by simp only [State.modReports_reports]; omega, hempty, hnodup, hwait⟩
    simp only [State.modReports_reports, hreports]
    trivial

theorem setStationCommand_keeps (number : Byte) : Keeps s (setStationCommand number s).1 :=
  State.modReports_keeps s (f := fun q => { q with station := number }) rfl rfl rfl

theorem setClockCommand_keeps (high low : Word) : Keeps s (setClockCommand high low s).1 :=
  State.modReports_keeps s (f := fun q => { q with clock := high ++ low }) rfl rfl rfl

theorem loadPlanCommand_keeps (v : Byte) (length : Word) : Keeps s (loadPlanCommand v length s).1 := by
  unfold loadPlanCommand
  split
  · exact Keeps.refl s
  · split_ifs with huse hlen
    · exact Keeps.refl s
    · exact Keeps.refl s
    · dsimp only
      split
      · exact Keeps.refl s
      · next himg =>
        refine State.modPlan_keeps (Nat.eq_zero_of_not_pos huse) fun q hq => ?_
        cases hq
        exact searchSpeed_of_accepted himg

theorem clearPlanCommand_keeps (v : Byte) : Keeps s (clearPlanCommand v s).1 := by
  unfold clearPlanCommand
  split
  · exact Keeps.refl s
  · split_ifs with huse
    · exact Keeps.refl s
    · exact State.modPlan_keeps (Nat.eq_zero_of_not_pos huse) fun q hq => nomatch hq

theorem readPlanCommand_keeps (v : Byte) : Keeps s (readPlanCommand v s).1 := by
  unfold readPlanCommand
  split
  · exact Keeps.refl s
  · split
    · exact Keeps.refl s
    · exact State.fillOutput_keeps s _

theorem pinCommand_keeps (b : Byte) : Keeps s (pinCommand b s).1 := by
  unfold pinCommand
  split
  · exact Keeps.refl s
  · split
    · exact Keeps.refl s
    · exact Keeps.refl s
    · split_ifs
      · exact Keeps.refl s
      · dsimp only; exact State.modSlot_keeps s _ _
      · exact Keeps.refl s

theorem unpinCommand_keeps (b : Byte) : Keeps s (unpinCommand b s).1 := by
  unfold unpinCommand
  split
  · exact Keeps.refl s
  · split
    · dsimp only; exact (State.modSlot_keeps s _ _).trans (State.modBench_keeps _ rfl)
    · exact Keeps.refl s
    · split_ifs
      · dsimp only; exact State.modSlot_keeps s _ _
      · exact Keeps.refl s

theorem viewSlotCommand_keeps (b : Byte) : Keeps s (viewSlotCommand b s).1 := by
  unfold viewSlotCommand
  split
  · exact Keeps.refl s
  · split_ifs
    · dsimp only; exact State.modBench_keeps s rfl
    · exact Keeps.refl s

theorem readAttentionCommand_keeps : Keeps s (readAttentionCommand s).1 := by
  unfold readAttentionCommand
  split
  · exact Keeps.refl s
  · extract_lets cleared reported
    have hcleared : Keeps s cleared := State.modBench_keeps s rfl
    refine hcleared.trans ?_
    unfold reported
    split
    · exact State.modMonitor_keeps cleared _ _
    · exact Keeps.refl cleared

theorem enableAttentionCommand_keeps (mask : Word) : Keeps s (enableAttentionCommand mask s).1 := by
  unfold enableAttentionCommand
  split_ifs
  · exact Keeps.refl s
  · dsimp only; exact State.modBench_keeps s rfl

/-- A command that is run and answered. -/
theorem State.runCommand_keeps (code : Byte) {eff : State → State × ReplyCode × List Word} (h : Keeps s (eff s).1) :
    Keeps s (s.runCommand code eff) := h.trans (State.answer_keeps _ _ _ _)

theorem State.takeZero_keeps (b : Byte) (target length : Word) : Keeps s (s.takeZero b target length) := by
  unfold State.takeZero
  split
  · exact State.answer_keeps s _ _ _
  · exact (State.modInterlock_keeps s (f := fun i => { i with zero := some _ }) rfl).trans (State.modBench_keeps _ rfl)

theorem State.takeWords_keeps (words : List Word) : Keeps s (s.takeWords words) := by
  unfold State.takeWords
  extract_lets first code a b c run
  split
  · exact State.runCommand_keeps s code (eff := benchRequest _) (startRequest_keeps s a)
  · exact State.runCommand_keeps s code (eff := benchRequest _) (abortRequest_keeps s a)
  · exact State.runCommand_keeps s code (eff := benchRequest _) (retestRequest_keeps s a)
  · exact State.runCommand_keeps s code (eff := benchRequest _) (fileRequest_keeps s a)
  · exact State.runCommand_keeps s code (eff := benchRequest _) (quarantineRequest_keeps s a)
  · exact State.runCommand_keeps s code (clearFaultsCommand_keeps s a)
  · exact State.runCommand_keeps s code (readDossierCommand_keeps s a)
  · exact State.runCommand_keeps s code (readTempCommand_keeps s a)
  · exact State.takeZero_keeps s a b c
  · exact State.runCommand_keeps s code (loadPlanCommand_keeps s a b)
  · exact State.runCommand_keeps s code (clearPlanCommand_keeps s a)
  · exact State.runCommand_keeps s code (readPlanCommand_keeps s a)
  · exact State.runCommand_keeps s code (pinCommand_keeps s a)
  · exact State.runCommand_keeps s code (unpinCommand_keeps s a)
  · exact State.runCommand_keeps s code (viewSlotCommand_keeps s a)
  · exact State.runCommand_keeps s code (readReportCommand_keeps s a)
  · exact State.runCommand_keeps s code (setReportBaseCommand_keeps s b)
  · exact State.runCommand_keeps s code (setStationCommand_keeps s a)
  · exact State.runCommand_keeps s code (setClockCommand_keeps s b c)
  · exact State.runCommand_keeps s code (readAttentionCommand_keeps s)
  · exact State.runCommand_keeps s code (enableAttentionCommand_keeps s b)
  · exact State.runCommand_keeps s code (readStationCommand_keeps s)
  · exact State.answer_keeps s code _ _

/-! ### The windows of the bench port (R177 to R180) -/

theorem State.overrun_keeps : Keeps s s.overrun := State.modBench_keeps s rfl

theorem State.setCollected_keeps (words : List Word) : Keeps s (s.setCollected words) := State.modBench_keeps s rfl

theorem State.dropCommandLatch_keeps : Keeps s s.dropCommandLatch := State.modBench_keeps s rfl

theorem State.commandWord_keeps (w : Word) : Keeps s (s.commandWord w) := by
  unfold State.commandWord
  refine Keeps.ite (fun _ => State.overrun_keeps s) fun _ => ?_
  dsimp only
  split
  · exact (State.setCollected_keeps s []).trans (State.answer_keeps _ _ _ _)
  · exact Keeps.ite (fun _ => (State.setCollected_keeps s []).trans (State.takeWords_keeps _ _)) fun _ => State.setCollected_keeps s _

theorem State.wordRow_keeps (w : Word) : Keeps s (s.wordRow w) := (State.dropCommandLatch_keeps s).trans (State.commandWord_keeps _ w)

theorem State.benchRow_keeps {take : State → State} (h : ∀ u, Keeps u (take u)) : Keeps s (s.benchRow take) := by
  unfold State.benchRow
  exact Keeps.ite (fun _ => (State.dropCommandLatch_keeps s).trans (State.overrun_keeps _)) fun _ =>
    (State.dropCommandLatch_keeps s).trans <| (State.setCollected_keeps _ []).trans (h _)

theorem State.commandRow_keeps (code : Byte) {eff : State → State × ReplyCode × List Word} (h : ∀ u, Keeps u (eff u).1) :
    Keeps s (s.commandRow code eff) := State.benchRow_keeps s fun u => State.runCommand_keeps u code (h u)

theorem State.readEffect_keeps (w : Window) : Keeps s (s.readEffect w) := by
  cases w with
  | reply =>
    refine State.modBench_keeps s ?_
    unfold Bench.replyRead
    split
    · rfl
    · split <;> rfl
  | data => exact State.modBench_keeps s (f := fun b => b.dataRead s.dataContent.length) rfl
  | _ => exact Keeps.refl s

/-- A write of the data window keeps the intake buffer canonical (R180). -/
theorem State.dataWrite_keeps (w : Word) : Keeps s (s.modBench fun b => b.dataWrite w) where
  pending := rfl
  faults := id
  drive := id
  ramp := id
  filing := id
  intake h := by
    simp only [State.modBench_bench, Bench.dataWrite]
    split
    · exact WordMem.wf_write w h ‹_›
    · exact h

theorem State.writeEffect_keeps (window : Window) (w : Word) : Keeps s (s.writeEffect window w) := by
  cases window with
  | command => exact State.commandWord_keeps s w
  | data => exact State.dataWrite_keeps s w
  | pointer => exact State.modBench_keeps s (f := fun b => b.pointerWrite w) rfl
  | _ => exact Keeps.refl s

theorem State.drive_keeps (w : Word) : Keeps s (s.drive w) := State.modBench_keeps s rfl

theorem State.setReadLatch_keeps (w : Window) (x : Option ReadLatch) : Keeps s (s.setReadLatch w x) := State.modBench_keeps s rfl

theorem State.setWriteLatch_keeps (w : Window) (x : Option WriteLatch) : Keeps s (s.setWriteLatch w x) := State.modBench_keeps s rfl

theorem State.readWindow_keeps (w : Window) : Keeps s (s.readWindow w) := by
  unfold State.readWindow
  exact (State.setReadLatch_keeps s w none).trans <| (State.drive_keeps _ _).trans (State.readEffect_keeps _ w)

theorem State.writeWindow_keeps (window : Window) (w : Word) : Keeps s (s.writeWindow window w) :=
  (State.setWriteLatch_keeps s window none).trans (State.writeEffect_keeps _ window w)

theorem State.readHalf_keeps (w : Window) (h : Half) : Keeps s (s.readHalf w h) := by
  unfold State.readHalf
  split
  · exact State.drive_keeps s _
  · exact (State.setReadLatch_keeps s _ _).trans (State.drive_keeps _ _)
  · exact Keeps.ite (fun _ => State.drive_keeps s _) fun _ =>
      (State.setReadLatch_keeps s _ _).trans <| (State.drive_keeps _ _).trans (State.readEffect_keeps _ _)

theorem State.writeHalf_keeps (w : Window) (h : Half) (b : Byte) : Keeps s (s.writeHalf w h b) := by
  unfold State.writeHalf
  split
  · exact Keeps.refl s
  · exact State.setWriteLatch_keeps s _ _
  · exact Keeps.ite (fun _ => State.setWriteLatch_keeps s _ _) fun _ =>
      (State.setWriteLatch_keeps s _ _).trans (State.writeEffect_keeps _ _ _)

theorem State.byteAccess_keeps (a : ByteAccess) : Keeps s (s.byteAccess a) := by
  unfold State.byteAccess
  refine Keeps.ite (fun _ => Keeps.refl s) fun _ => ?_
  split
  · exact State.readHalf_keeps s _ _
  · exact State.writeHalf_keeps s _ _ _

/-! ### The links (R184 to R187) -/

theorem takeRequest_keeps (number : Word) : Keeps s (takeRequest number s).1 := by
  unfold takeRequest
  split
  · exact Keeps.refl s
  · next hr =>
    split_ifs
    · exact State.removeOldest_keeps (by rw [hr]; exact List.cons_ne_nil _ _)
    · exact Keeps.refl s

theorem fetchRequest_keeps : Keeps s (fetchRequest s).1 := by
  unfold fetchRequest
  split <;> exact Keeps.refl s

theorem permitRequest_keeps : Keeps s (permitRequest s).1 :=
  State.modInterlock_keeps s (f := fun i => { i with permitLive := true, permitLeft := 500 }) rfl

theorem askRequest_keeps (b : Byte) : Keeps s (askRequest b s).1 := by
  unfold askRequest
  split <;> exact Keeps.refl s

theorem cellRequest_keeps (kind : Byte) (payload : List Byte) : Keeps s (cellRequest kind payload s).1 := by
  fun_cases cellRequest kind payload
  · exact arriveRequest_keeps s _ _ _
  · exact clampedRequest_keeps s _
  · exact releaseRequest_keeps s _
  · exact abortRequest_keeps s _
  · exact permitRequest_keeps s
  · exact askRequest_keeps s _
  · exact Keeps.refl s

/-- The four things the plant link does with a frame: the three requests, and the refusal of any other (R187, R190). -/
theorem plantRequest_cases (kind : Byte) (payload : List Byte) :
    (kind = 0x20 ∧ payload = [] ∧ plantRequest kind payload = fetchRequest) ∨
      (kind = 0x21 ∧ ∃ high low, payload = [high, low] ∧ plantRequest kind payload = takeRequest (high ++ low)) ∨
      (kind = 0x22 ∧ payload = [] ∧ plantRequest kind payload = countRequest) ∨
      plantRequest kind payload = refuseRequest (if kind ∈ linkKinds .plant then .badLength else .unknownKind) := by
  have hkind {k : Byte} (h : kind.toNat = k.toNat) : kind = k := BitVec.eq_of_toNat_eq h
  unfold plantRequest
  split
  · next h => exact .inl ⟨hkind (k := 0x20) h, rfl, rfl⟩
  · next h => exact .inr (.inl ⟨hkind (k := 0x21) h, _, _, rfl, rfl⟩)
  · next h => exact .inr (.inr (.inl ⟨hkind (k := 0x22) h, rfl, rfl⟩))
  · exact .inr (.inr (.inr rfl))

theorem plantRequest_keeps (kind : Byte) (payload : List Byte) : Keeps s (plantRequest kind payload s).1 := by
  obtain ⟨-, -, h⟩ | ⟨-, high, low, -, h⟩ | ⟨-, -, h⟩ | h := plantRequest_cases kind payload <;> rw [h]
  · exact fetchRequest_keeps s
  · exact takeRequest_keeps s _
  · exact Keeps.refl s
  · exact Keeps.refl s

theorem requestOf_keeps (l : Link) (kind : Byte) (payload : List Byte) : Keeps s (requestOf l kind payload s).1 := by
  cases l
  · exact cellRequest_keeps s kind payload
  · exact plantRequest_keeps s kind payload

theorem State.hunt_keeps (l : Link) : Keeps s (s.hunt l) := State.modLink_keeps s l _

theorem State.takeRequest_keeps (l : Link) (kind : Byte) (payload : List Byte) {eff : State → State × ReplyCode × List Byte}
    (h : Keeps s (eff s).1) : Keeps s (s.takeRequest l kind payload eff) := by
  unfold State.takeRequest
  exact h.trans (State.modLink_keeps _ l _)

theorem State.frameComplete_keeps (l : Link) (kind : Byte) (payload : List Byte) {eff : State → State × ReplyCode × List Byte}
    (h : ∀ u, Keeps u (eff u).1) : Keeps s (s.frameComplete l kind payload eff) := by
  unfold State.frameComplete
  exact Keeps.ite (fun _ => State.hunt_keeps s l) fun _ => (State.hunt_keeps s l).trans (State.takeRequest_keeps _ l _ _ (h _))

theorem State.frameRow_keeps (l : Link) (kind : Byte) (payload : List Byte) {eff : State → State × ReplyCode × List Byte}
    (h : ∀ u, Keeps u (eff u).1) : Keeps s (s.frameRow l kind payload eff) :=
  Keeps.ite (fun _ => State.frameComplete_keeps s l kind payload h) fun _ => State.hunt_keeps s l

theorem State.receive_keeps (l : Link) (b : Byte) : Keeps s (s.receive l b) := by
  unfold State.receive
  extract_lets keep
  have hkeep (bytes : List Byte) : Keeps s (keep bytes) := State.modLink_keeps s l _
  split
  · exact Keeps.guarded fun _ => hkeep []
  · extract_lets taken
    refine Keeps.ite (fun _ => hkeep _) fun _ => Keeps.ite (fun _ => State.hunt_keeps s l) fun _ =>
      Keeps.ite (fun _ => hkeep _) fun _ => ?_
    unfold State.frameEnd
    exact Keeps.ite (fun _ => State.frameComplete_keeps s l _ _ fun u => requestOf_keeps u l _ _) fun _ => State.hunt_keeps s l

/-! ### Every command -/

/-- Every command answers a next state, which keeps what the relation says. -/
theorem exec_keeps (c : Instr) : ∃ t, exec c s = .next t ∧ Keeps s t := by
  cases c with
  | reset pins => exact ⟨_, rfl, State.resetWith_keeps s pins⟩
  | arrive b v serial => exact ⟨_, rfl, State.frameRow_keeps s _ _ _ fun u => arriveRequest_keeps u b v serial⟩
  | clamped b => exact ⟨_, rfl, State.frameRow_keeps s _ _ _ fun u => clampedRequest_keeps u b⟩
  | release b => exact ⟨_, rfl, State.frameRow_keeps s _ _ _ fun u => releaseRequest_keeps u b⟩
  | abort port b =>
    cases port with
    | cellLink => exact ⟨_, rfl, State.frameRow_keeps s _ _ _ fun u => abortRequest_keeps u b⟩
    | benchPort => exact ⟨_, rfl, State.commandRow_keeps s _ fun u => abortRequest_keeps u b⟩
  | permit => exact ⟨_, rfl, State.frameRow_keeps s _ _ _ permitRequest_keeps⟩
  | ask b => exact ⟨_, rfl, State.frameRow_keeps s _ _ _ fun u => askRequest_keeps u b⟩
  | fetch => exact ⟨_, rfl, State.frameRow_keeps s _ _ _ fetchRequest_keeps⟩
  | take number => exact ⟨_, rfl, State.frameRow_keeps s _ _ _ fun u => takeRequest_keeps u number⟩
  | count => exact ⟨_, rfl, State.frameRow_keeps s _ _ _ fun u => Keeps.refl u⟩
  | unknownKind l kind payload => exact ⟨_, rfl, State.frameRow_keeps s _ _ _ fun u => requestOf_keeps u l kind payload⟩
  | frameDiscarded l cause =>
    cases cause with
    | byte b => exact ⟨_, rfl, State.receive_keeps s l b⟩
    | missingStopBit => exact ⟨_, rfl, State.hunt_keeps s l⟩
  | frameGapTimeout l => exact ⟨_, rfl, State.hunt_keeps s l⟩
  | frameWhilePending l kind payload => exact ⟨_, rfl, State.frameRow_keeps s _ _ _ fun u => requestOf_keeps u l kind payload⟩
  | replyTransmitted l => exact ⟨_, rfl, State.modLink_keeps s l _⟩
  | start b => exact ⟨_, rfl, State.commandRow_keeps s _ fun u => startRequest_keeps u b⟩
  | retest b => exact ⟨_, rfl, State.commandRow_keeps s _ fun u => retestRequest_keeps u b⟩
  | file b => exact ⟨_, rfl, State.commandRow_keeps s _ fun u => fileRequest_keeps u b⟩
  | quarantine b => exact ⟨_, rfl, State.commandRow_keeps s _ fun u => quarantineRequest_keeps u b⟩
  | clearFaults b => exact ⟨_, rfl, State.commandRow_keeps s _ fun u => clearFaultsCommand_keeps u b⟩
  | readDossier b => exact ⟨_, rfl, State.commandRow_keeps s _ fun u => readDossierCommand_keeps u b⟩
  | readTemp b => exact ⟨_, rfl, State.commandRow_keeps s _ fun u => readTempCommand_keeps u b⟩
  | zero b target length => exact ⟨_, rfl, State.benchRow_keeps s fun u => State.takeZero_keeps u b target length⟩
  | zeroComplete sample =>
    cases sample with
    | torque u => exact ⟨_, rfl, State.driveUpdate_keeps s u⟩
    | pressure p => exact ⟨_, rfl, State.pressureSample_keeps s p⟩
  | loadPlan v length => exact ⟨_, rfl, State.commandRow_keeps s _ fun u => loadPlanCommand_keeps u v length⟩
  | clearPlan v => exact ⟨_, rfl, State.commandRow_keeps s _ fun u => clearPlanCommand_keeps u v⟩
  | readPlan v => exact ⟨_, rfl, State.commandRow_keeps s _ fun u => readPlanCommand_keeps u v⟩
  | pin i => exact ⟨_, rfl, State.commandRow_keeps s _ fun u => pinCommand_keeps u i⟩
  | unpin i => exact ⟨_, rfl, State.commandRow_keeps s _ fun u => unpinCommand_keeps u i⟩
  | viewSlot i => exact ⟨_, rfl, State.commandRow_keeps s _ fun u => viewSlotCommand_keeps u i⟩
  | readReport position => exact ⟨_, rfl, State.commandRow_keeps s _ fun u => readReportCommand_keeps u position⟩
  | setReportBase number => exact ⟨_, rfl, State.commandRow_keeps s _ fun u => setReportBaseCommand_keeps u number⟩
  | setStation number => exact ⟨_, rfl, State.commandRow_keeps s _ fun u => setStationCommand_keeps u number⟩
  | setClock high low => exact ⟨_, rfl, State.commandRow_keeps s _ fun u => setClockCommand_keeps u high low⟩
  | readAttention => exact ⟨_, rfl, State.commandRow_keeps s _ readAttentionCommand_keeps⟩
  | enableAttention mask => exact ⟨_, rfl, State.commandRow_keeps s _ fun u => enableAttentionCommand_keeps u mask⟩
  | readStation => exact ⟨_, rfl, State.commandRow_keeps s _ readStationCommand_keeps⟩
  | unknownCommand w => exact ⟨_, rfl, State.wordRow_keeps s w⟩
  | commandWordCollect w => exact ⟨_, rfl, State.wordRow_keeps s w⟩
  | commandWordOverrun w => exact ⟨_, rfl, State.wordRow_keeps s w⟩
  | replyWindowRead => exact ⟨_, rfl, State.readWindow_keeps s _⟩
  | dataWindowRead => exact ⟨_, rfl, State.readWindow_keeps s _⟩
  | dataWindowWrite w => exact ⟨_, rfl, State.writeWindow_keeps s _ w⟩
  | pointerWindowWrite w => exact ⟨_, rfl, State.writeWindow_keeps s _ w⟩
  | byteHalfAccess a => exact ⟨_, rfl, State.byteAccess_keeps s a⟩
  | registerWrite window w => exact ⟨_, rfl, State.writeWindow_keeps s _ w⟩
  | encoderChange e => exact ⟨_, rfl, State.encoderChange_keeps s e⟩
  | refSearchLimit e => exact ⟨_, rfl, State.encoderChange_keeps s e⟩
  | refReverseLimit e => exact ⟨_, rfl, State.encoderChange_keeps s e⟩
  | refCreepLimit e => exact ⟨_, rfl, State.encoderChange_keeps s e⟩
  | markEdge n => exact ⟨_, rfl, State.markEdge_keeps s n⟩
  | indexPulse n => exact ⟨_, rfl, State.indexPulse_keeps s n⟩
  | pressureSample p => exact ⟨_, rfl, State.pressureSample_keeps s p⟩
  | airWaitLimit p => exact ⟨_, rfl, State.pressureSample_keeps s p⟩
  | fillTimeout p => exact ⟨_, rfl, State.pressureSample_keeps s p⟩
  | settleEnd p => exact ⟨_, rfl, State.pressureSample_keeps s p⟩
  | measureEnd p => exact ⟨_, rfl, State.pressureSample_keeps s p⟩
  | ventLimit p => exact ⟨_, rfl, State.pressureSample_keeps s p⟩
  | supplySample pressure => exact ⟨_, rfl, State.supplySample_keeps s pressure⟩
  | tempSample n input => exact ⟨_, rfl, State.tempSample_keeps s n input⟩
  | clockTick => exact ⟨_, rfl, State.modReports_keeps s rfl rfl rfl⟩
  | permitExpiry => exact ⟨_, rfl, State.permitExpiry_keeps s⟩
  | estopActivate => exact ⟨_, rfl, State.estopActivate_keeps s⟩
  | estopClear => exact ⟨_, rfl, State.estopClear_keeps s⟩
  | guardOpen n => exact ⟨_, rfl, (State.setGuard_keeps s n true).trans (State.guardStop_keeps _ n)⟩
  | guardClose n => exact ⟨_, rfl, State.setGuard_keeps s n false⟩
  | driveFaultActivate n => exact ⟨_, rfl, State.driveFaultActivate_keeps s n⟩
  | driveFaultClear n => exact ⟨_, rfl, State.setDriveFault_keeps s n false⟩
  | jobComplete => exact ⟨_, rfl, State.jobComplete_keeps s⟩
  | vibrationConversion n input => exact ⟨_, rfl, Keeps.frame rfl rfl rfl rfl rfl rfl fun _ => rfl⟩
  | driveUpdate u => exact ⟨_, rfl, State.driveUpdate_keeps s u⟩
  | controlledStopComplete u => exact ⟨_, rfl, State.driveUpdate_keeps s u⟩
  | permitWaitExpiry u => exact ⟨_, rfl, State.driveUpdate_keeps s u⟩
  | engageSuccess u => exact ⟨_, rfl, State.driveUpdate_keeps s u⟩
  | jamAbandon u => exact ⟨_, rfl, State.driveUpdate_keeps s u⟩
  | engageAttemptTimeout u => exact ⟨_, rfl, State.driveUpdate_keeps s u⟩
  | refTorqueTrip u => exact ⟨_, rfl, State.driveUpdate_keeps s u⟩
  | torqueTrip u => exact ⟨_, rfl, State.driveUpdate_keeps s u⟩
  | rampEnd u => exact ⟨_, rfl, State.driveUpdate_keeps s u⟩
  | holdLimit u => exact ⟨_, rfl, State.driveUpdate_keeps s u⟩
  | dwellEnd u => exact ⟨_, rfl, State.driveUpdate_keeps s u⟩
  | receivedByte l b => exact ⟨_, rfl, State.receive_keeps s l b⟩

theorem State.idleTick_keeps : Keeps s s.idleTick := by
  unfold State.idleTick
  exact Keeps.ite (fun _ => Keeps.ite (fun _ => State.permitExpiry_keeps s) fun _ => State.modInterlock_keeps s rfl) fun _ => Keeps.refl s

/-- What a step keeps: it keeps all but the queue of the commands, which it takes its command from. -/
theorem step_keeps {s t : State} (h : step s = .next t) : ∃ rest, Keeps { s with pending := rest } t := by
  unfold step at h
  split at h
  · cases h
    exact ⟨s.pending, State.idleTick_keeps s⟩
  · next i rest _ =>
    obtain ⟨u, hu, hkeeps⟩ := exec_keeps { s with pending := rest } i
    rw [hu] at h
    cases h
    exact ⟨rest, hkeeps⟩

end

/-- Settles O3: every command answers a next state that keeps the waiting commands. -/
theorem commandsCompleteAndKeepQueue : Obligations.CommandsCompleteAndKeepQueue := by
  intro c s
  obtain ⟨t, ht, hkeeps⟩ := exec_keeps s c
  exact ⟨t, ht, hkeeps.pending⟩

/-- Settles O57: every step keeps the drives bounded and the ramps sound. -/
theorem stepsKeepDriveWithinBounds : Obligations.StepsKeepDriveWithinBounds := by
  intro s t h
  obtain ⟨rest, hkeeps⟩ := step_keeps h
  exact ⟨fun hrest hspeed => hkeeps.drive ⟨hrest, hspeed⟩, hkeeps.ramp⟩

/-- Settles O59: every step keeps the intake buffer canonical. -/
theorem stepsKeepIntakeCanonical : Obligations.StepsKeepIntakeCanonical := by
  intro s t hwf h
  obtain ⟨rest, hkeeps⟩ := step_keeps h
  exact hkeeps.intake hwf

end Sys2Proof.Machine
end

section
/-! PROOFS. The refutation of the statement that every step keeps the queue, the stages and the slots sound: a TAKE files the head of the
filing-pending list whatever the state of its dossier, and the part about the stages does not ask for a sound queue. -/

namespace Sys2Proof.Machine

/-- A dossier under test with a drive stage in progress whose nest, against R154, stands in the filing-pending list. -/
def stageUnderTest : State :=
  (((State.reset.modDossier .n0 fun d => { d with state := .testing, stageIndex := some 0 }).modChannel .n0 fun ch =>
    { ch with activity := .permitWait 0 }).modReports fun q =>
    { q with reports := [reportOf (some 1) 0 .n1 Dossier.vacant], filingPending := [.n0] })

theorem stageUnderTest_circuit (n : Nest) (c : Chamber) : (stageUnderTest.circuit n c).state = .idle := by
  cases n <;> cases c <;> rfl

theorem stageUnderTest_leakStage (n : Nest) : stageUnderTest.leakStage n = none := by cases n <;> rfl

theorem stageUnderTest_airSound : stageUnderTest.airSound := by
  refine ⟨fun n c => ?_, List.nodup_nil, fun n c => ?_⟩
  · rw [stageUnderTest_circuit]
    exact iff_of_false nofun nofun
  · rw [stageUnderTest_circuit]
    exact iff_of_false nofun nofun

theorem stageUnderTest_stagesSound : stageUnderTest.stagesSound := by
  refine fun n => ⟨fun ha => ?_, fun l hl => ?_, fun _ _ c => stageUnderTest_circuit n c⟩
  · cases n with
    | n0 => exact ⟨rfl, nofun⟩
    | n1 => exact absurd rfl ha
  · rw [stageUnderTest_leakStage] at hl
    cases hl

/-- TAKE of the oldest report files the dossier under test: it is FILED with its drive stage in progress. -/
theorem take_files_stageUnderTest : ∃ t, exec (.take 1) stageUnderTest = .next t ∧ (t.dossier .n0).state = .filed ∧
    (t.channel .n0).activity = .permitWait 0 := ⟨_, rfl, rfl, rfl⟩

/-- Refutes O58: the part about the stages holds only with a sound report queue; TAKE files a TESTING dossier that the filing-pending
list names, and leaves it FILED with a drive stage in progress. -/
theorem not_stepsKeepQueueAndCountsSound : ¬ Obligations.StepsKeepQueueAndCountsSound := by
  intro h
  obtain ⟨t, ht, hfiled, hactivity⟩ := take_files_stageUnderTest
  obtain ⟨-, -, hstages, -⟩ := h { stageUnderTest with pending := [.take 1] } t ht
  obtain ⟨-, hsound⟩ := hstages stageUnderTest_airSound stageUnderTest_stagesSound
  obtain ⟨hdrive, -⟩ := hsound .n0
  obtain ⟨htesting, -⟩ := hdrive (hactivity ▸ nofun)
  rw [hfiled] at htesting
  cases htesting

end Sys2Proof.Machine
end

section
/-! PROOFS. The step, the reset and its invariants; the requests and command words that are answered at once. -/

namespace Sys2Proof.Machine

/-! ### The step -/

/-- Settles O1: the step unfolds to the command at the front of the queue. -/
theorem stepRunsFrontCommand : Obligations.StepRunsFrontCommand := by
  intro c rest s hp
  simp only [step, hp]

/-- Settles O2: the three branches of the idle tick. -/
theorem idleStepCountsPermitTime : Obligations.IdleStepCountsPermitTime := by
  intro s hp
  have hstep : step s = .next s.idleTick := by simp only [step, hp]
  refine ⟨fun hlive => ?_, fun hlive htime => ?_, fun hlive htime => ?_⟩ <;> rw [hstep, State.idleTick]
  · rw [if_neg (Bool.eq_false_iff.mp hlive)]
  · rw [if_pos hlive, if_neg (Nat.not_le.mpr htime)]
    rfl
  · rw [if_pos hlive, if_pos htime]
    rfl

/-! ### The reset (R2) -/

/-- The pending causes with a cause raised on a condition. -/
def raisedIf (b : Bool) (k : AttentionCause) (causes : BitVec 9) : BitVec 9 := if b then causes ||| k.bit else causes

theorem raisedIf_eq (b : Bool) (k : AttentionCause) (causes : BitVec 9) : raisedIf b k causes = causes ||| if b then k.bit else 0 := by
  cases b
  · exact BitVec.or_zero.symm
  · rfl

/-- The state after reset: the reset values, and for each active drive-fault input its level, its cause and its attention cause. -/
theorem State.resetWith_eq (s : State) (pins : ResetPins) :
    s.resetWith pins =
      { State.afterReset pins s.freeCount s.pending with
        interlock :=
          { Interlock.afterReset pins with
            driveFault := ⟨pins.driveFault0, pins.driveFault1⟩
            faults := ⟨⟨if pins.driveFault0 then [.driveFault] else [], false⟩, ⟨if pins.driveFault1 then [.driveFault] else [], false⟩⟩ }
        bench :=
          { Bench.afterReset pins.width16 with
            causes := raisedIf pins.driveFault1 (.nestFault .n1) (raisedIf pins.driveFault0 (.nestFault .n0) 0) } } := by
  obtain ⟨_, _, _, _, _, d0, d1⟩ := pins
  cases d0 <;> cases d1 <;> rfl

theorem State.circuit_afterReset (pins : ResetPins) (k : Nat) (cs : List Instr) (n : Nest) (c : Chamber) :
    (State.afterReset pins k cs).circuit n c = Circuit.afterReset := by cases n <;> cases c <;> rfl

theorem State.slot_afterReset (pins : ResetPins) (k : Nat) (cs : List Instr) (i : Fin 4) :
    (State.afterReset pins k cs).slot i = Slot.afterReset := by simp [State.slot, State.afterReset]

theorem State.leakStage_afterReset (pins : ResetPins) (k : Nat) (cs : List Instr) (n : Nest) :
    (State.afterReset pins k cs).leakStage n = none := by cases n <;> rfl

theorem State.captureUnit_afterReset (pins : ResetPins) (k : Nat) (cs : List Instr) (n : Nest) :
    (State.afterReset pins k cs).captureUnit n = .idle := by cases n <;> rfl

/-- The flags after reset: ATTENTION where a drive fault is active, no other (R177). -/
theorem flagsWord_afterReset : ∀ w d0 d1 : Bool,
    ({ Bench.afterReset w with causes := raisedIf d1 (.nestFault .n1) (raisedIf d0 (.nestFault .n0) 0) } : Bench).flagsWord =
      if d0 || d1 then 0x20 else 0 := by decide

/-- Settles O4: the values of `State.resetWith_eq` field by field. -/
theorem resetGivesResetValues : Obligations.ResetGivesResetValues := by
  intro pins s
  refine ⟨_, congrArg Host.Outcome.next (s.resetWith_eq pins), fun n => ⟨State.dossier_afterReset pins s.freeCount s.pending n,
    State.leakStage_afterReset pins s.freeCount s.pending n, State.captureUnit_afterReset pins s.freeCount s.pending n⟩,
    State.planEntry_afterReset pins s.freeCount s.pending,
    fun n => ⟨by cases n <;> rfl, State.channel_afterReset pins s.freeCount s.pending n⟩, fun n c => ?circuit, rfl, fun i => ?slot, rfl, rfl, rfl, rfl, rfl, rfl,
    rfl, rfl, rfl, rfl, rfl, rfl, rfl, rfl, rfl, rfl, rfl, rfl, rfl, rfl, rfl, rfl, rfl, rfl, rfl, rfl, fun l => by cases l <;> rfl,
    fun n => by cases n <;> rfl, ?causes, ?flags⟩
  case circuit =>
    have h := State.circuit_afterReset pins s.freeCount s.pending n c
    exact ⟨congrArg Circuit.state h, congrArg Circuit.leakSet h, congrArg Circuit.count h, congrArg Circuit.window h, congrArg Circuit.pStart h,
      congrArg Circuit.classAtStart h, congrArg Circuit.resultGiven h, congrArg Circuit.ventReported h⟩
  case slot =>
    have h := State.slot_afterReset pins s.freeCount s.pending i
    exact ⟨congrArg Slot.state h, congrArg Slot.pinMark h, congrArg Slot.descriptor h⟩
  case causes =>
    show raisedIf _ _ (raisedIf _ _ 0) = _
    simp only [raisedIf_eq, BitVec.ofNat_eq_ofNat, BitVec.zero_or]
  case flags => exact flagsWord_afterReset _ _ _

theorem State.airSound_afterReset (pins : ResetPins) (k : Nat) (cs : List Instr) : (State.afterReset pins k cs).airSound := by
  refine ⟨fun n c => ?_, List.nodup_nil, fun n c => ?_⟩ <;> rw [State.circuit_afterReset] <;> exact iff_of_false nofun nofun

theorem State.stagesSound_afterReset (pins : ResetPins) (k : Nat) (cs : List Instr) : (State.afterReset pins k cs).stagesSound := by
  intro n
  rw [State.channel_afterReset, State.leakStage_afterReset]
  exact ⟨fun ha => absurd rfl ha, nofun, fun _ _ c => congrArg Circuit.state (State.circuit_afterReset pins k cs n c)⟩

theorem State.capturesSound_afterReset (pins : ResetPins) (k : Nat) (cs : List Instr) : (State.afterReset pins k cs).capturesSound := by
  refine ⟨fun v p hp => ?_, fun n hn => absurd (State.captureUnit_afterReset pins k cs n) hn⟩
  rw [State.planEntry_afterReset] at hp
  cases hp

theorem State.slotsSound_afterReset (pins : ResetPins) (k : Nat) (cs : List Instr) : (State.afterReset pins k cs).slotsSound := by
  refine ⟨fun i => ?_, List.nodup_nil, fun i => ?_, fun _ => rfl, fun i => ?_, nofun, ?_, nofun⟩
  · rw [State.slot_afterReset]
    exact iff_of_false nofun fun ⟨j, hj, _⟩ => absurd hj List.not_mem_nil
  · rw [State.slot_afterReset]
    exact iff_of_false nofun nofun
  · rw [State.slot_afterReset]
    refine iff_of_false nofun fun ⟨n, c, b, hu, _⟩ => ?_
    rw [State.captureUnit_afterReset] at hu
    cases hu
  · simp only [State.pinnedOrMarked, State.slot_afterReset]
    decide

/-- Settles O60: every invariant of the state after reset. -/
theorem resetHasTheInvariants : Obligations.ResetHasTheInvariants := by
  obtain ⟨hrests, hspeeds⟩ := State.driveSound_afterReset Config.defaultPins 0 []
  obtain ⟨hqueue, hinUse⟩ := State.filingSound_afterReset Config.defaultPins 0 []
  exact ⟨hrests, hspeeds, State.rampSound_afterReset _ _ _, hqueue, hinUse, reset_intake_wf, State.faultsSound_afterReset _ _ _,
    State.airSound_afterReset _ _ _, State.stagesSound_afterReset _ _ _, State.capturesSound_afterReset _ _ _,
    State.slotsSound_afterReset _ _ _⟩

/-! ### Requests answered with a code alone (R172, R186, R187) -/

section
variable {s t : State} {b : Byte} {n : Nest}

theorem exec_permit_of_linkFree (h : s.linkFree .cell) :
    exec .permit s = .next { s.permit with links := s.links.set .cell (replying 0x14 [] .accepted []) } :=
  congrArg Host.Outcome.next (frameRow_of_linkFree (eff := permitRequest) h (by decide) rfl rfl)

theorem exec_ask_of_linkFree {reply : ReplyCode} {bytes : List Byte} (h : s.linkFree .cell) (heff : askRequest b s = (s, reply, bytes)) :
    exec (.ask b) s = .next { s with links := s.links.set .cell (replying 0x15 [b] reply bytes) } :=
  congrArg Host.Outcome.next (frameRow_of_linkFree h (by simp) heff rfl)

/-- The bytes that ASK shows, an absent verdict as 255 and the faults as 1 or 0. -/
theorem State.askBytes_eq (s : State) (n : Nest) : s.askBytes n =
    [BitVec.ofNat 8 (s.dossier n).state.code, if (s.dossier n).clamped then 1 else 0,
      (s.dossier n).verdict.elim 255 fun x => BitVec.ofNat 8 x.code] ++
      bytes16 (BitVec.ofNat 16 ((s.dossier n).reportNumber.getD 0)) ++ [if (s.faultList n).causes = [] then 0 else 1] := by
  have hclamped (b : Bool) : natByte b.toNat = if b then 1 else 0 := by cases b <;> rfl
  have hverdict (v : Option Verdict) : optByte (v.map Verdict.code) = v.elim 255 fun x => BitVec.ofNat 8 x.code := by cases v <;> rfl
  have hfaults (l : List FaultCause) : natByte (!l.isEmpty).toNat = if l = [] then 0 else 1 := by cases l <;> rfl
  rw [State.askBytes, hfaults, hclamped, hverdict]
  rfl

/-- Settles O9: PERMIT and ASK as their requests on a free link. -/
theorem permitAndAskAnswer : Obligations.PermitAndAskAnswer := by
  intro s hfree
  refine ⟨exec_permit_of_linkFree hfree, fun b n hn => ?_, fun b hn => ?_⟩
  · refine (exec_ask_of_linkFree hfree (reply := .accepted) (bytes := s.askBytes n) (by simp only [askRequest, hn])).trans ?_
    rw [State.askBytes_eq]
    cases (s.dossier n).verdict <;> rfl
  · exact exec_ask_of_linkFree hfree (by simp only [askRequest, hn])

/-- A frame that its link answers with a code alone. -/
theorem exec_unknownKind_of_refused {l : Link} {kind : Byte} {payload : List Byte} {reply : ReplyCode} (hfree : s.linkFree l)
    (hp : payload.length ≤ 1024) (h : requestOf l kind payload = refuseRequest reply) :
    exec (.unknownKind l kind payload) s = .next { s with links := s.links.set l (replying kind payload reply []) } :=
  congrArg Host.Outcome.next (frameRow_of_linkFree (eff := requestOf l kind payload) hfree hp (by rw [h]; rfl) rfl)

/-- The cell link refuses a frame of another kind and one whose payload has not the length of its kind (R187, R190). -/
theorem cellRequest_refused {kind : Byte} {payload : List Byte} (harrive : kind = 0x10 → payload.length < 2)
    (hnest : kind ∈ ([0x11, 0x12, 0x13, 0x15] : List Byte) → payload.length ≠ 1) (hpermit : kind = 0x14 → payload ≠ []) :
    cellRequest kind payload = refuseRequest (if kind ∈ linkKinds .cell then .badLength else .unknownKind) := by
  have hkind {k : Byte} (h : kind.toNat = k.toNat) : kind = k := BitVec.eq_of_toNat_eq h
  fun_cases cellRequest kind payload
  · next h =>
    have := harrive (hkind (k := 0x10) h)
    simp only [List.length_cons] at this
    omega
  · next h => exact absurd rfl (hnest (by simp [hkind (k := 0x11) h]))
  · next h => exact absurd rfl (hnest (by simp [hkind (k := 0x12) h]))
  · next h => exact absurd rfl (hnest (by simp [hkind (k := 0x13) h]))
  · next h => exact absurd rfl (hpermit (hkind (k := 0x14) h))
  · next h => exact absurd rfl (hnest (by simp [hkind (k := 0x15) h]))
  · rfl

/-- The plant link refuses a frame of another kind and one whose payload has not the length of its kind (R187, R190). -/
theorem plantRequest_refused {kind : Byte} {payload : List Byte} (hempty : kind ∈ ([0x20, 0x22] : List Byte) → payload ≠ [])
    (htake : kind = 0x21 → payload.length ≠ 2) :
    plantRequest kind payload = refuseRequest (if kind ∈ linkKinds .plant then .badLength else .unknownKind) := by
  obtain ⟨rfl, hp, -⟩ | ⟨rfl, high, low, hp, -⟩ | ⟨rfl, hp, -⟩ | h := plantRequest_cases kind payload
  · exact absurd hp (hempty (by decide))
  · exact absurd (congrArg List.length hp) (htake rfl)
  · exact absurd hp (hempty (by decide))
  · exact h

theorem requestOf_unknownKind {l : Link} {kind : Byte} (payload : List Byte) (h : kind ∉ linkKinds l) :
    requestOf l kind payload = refuseRequest .unknownKind := by
  cases l with
  | cell =>
    simp only [linkKinds, List.mem_cons, List.not_mem_nil, or_false, not_or, BitVec.ofNat_eq_ofNat] at h
    obtain ⟨h10, h11, h12, h13, h14, h15⟩ := h
    refine (cellRequest_refused (fun hk => absurd hk h10) (fun hk => ?_) fun hk => absurd hk h14).trans ?_
    · simp [h11, h12, h13, h15] at hk
    · rw [if_neg (by simp [linkKinds, h10, h11, h12, h13, h14, h15])]
  | plant =>
    simp only [linkKinds, List.mem_cons, List.not_mem_nil, or_false, not_or, BitVec.ofNat_eq_ofNat] at h
    obtain ⟨h20, h21, h22⟩ := h
    refine (plantRequest_refused (fun hk => ?_) fun hk => absurd hk h21).trans ?_
    · simp [h20, h22] at hk
    · rw [if_neg (by simp [linkKinds, h20, h21, h22])]

/-- Settles O11: both answers through the refused request of the link. -/
theorem unknownKindAndBadLengthAnswered : Obligations.UnknownKindAndBadLengthAnswered := by
  intro l kind payload s hfree hp
  refine ⟨fun hk => exec_unknownKind_of_refused hfree hp (requestOf_unknownKind payload hk), fun hbad => ?_⟩
  refine exec_unknownKind_of_refused hfree hp ?_
  have hcell (h : kind ∈ linkKinds .cell) (h10 : kind = 0x10 → payload.length < 2)
      (hnest : kind ∈ ([0x11, 0x12, 0x13, 0x15] : List Byte) → payload.length ≠ 1) (h14 : kind = 0x14 → payload ≠ []) :
      requestOf .cell kind payload = refuseRequest .badLength := (cellRequest_refused h10 hnest h14).trans (by rw [if_pos h])
  have hplant (h : kind ∈ linkKinds .plant) (hempty : kind ∈ ([0x20, 0x22] : List Byte) → payload ≠ [])
      (h21 : kind = 0x21 → payload.length ≠ 2) : requestOf .plant kind payload = refuseRequest .badLength :=
    (plantRequest_refused hempty h21).trans (by rw [if_pos h])
  rcases hbad with ⟨rfl, rfl, hlen⟩ | ⟨rfl, hk, hlen⟩ | ⟨rfl, rfl, hne⟩ | ⟨rfl, hk, hne⟩ | ⟨rfl, rfl, hlen⟩
  · exact hcell (by decide) (fun _ => hlen) (fun hk => absurd hk (by decide)) fun hk => absurd hk (by decide)
  · have hsub : kind ∈ linkKinds .cell ∧ kind ≠ 0x10 ∧ kind ≠ 0x14 := by
      simp only [List.mem_cons, List.not_mem_nil, or_false] at hk
      rcases hk with rfl | rfl | rfl | rfl <;> decide
    obtain ⟨hcellKind, h10, h14⟩ := hsub
    exact hcell hcellKind (fun h => absurd h h10) (fun _ => hlen) fun h => absurd h h14
  · exact hcell (by decide) (fun hk => absurd hk (by decide)) (fun hk => absurd hk (by decide)) fun _ => hne
  · have hsub : kind ∈ linkKinds .plant ∧ kind ≠ 0x21 := by
      simp only [List.mem_cons, List.not_mem_nil, or_false] at hk
      rcases hk with rfl | rfl <;> decide
    obtain ⟨hplantKind, h21⟩ := hsub
    exact hplant hplantKind (fun _ => hne) fun h => absurd h h21
  · exact hplant (by decide) (fun hk => absurd hk (by decide)) fun _ => hlen

/-! ### The command window (R179) -/

theorem commandWords_eq_none {code : Byte} (h : code ∉ ([0x01, 0x02, 0x03, 0x04, 0x05, 0x06, 0x07, 0x08, 0x09, 0x10, 0x11, 0x12, 0x18, 0x19,
    0x1A, 0x20, 0x21, 0x22, 0x23, 0x28, 0x29, 0x2A] : List Byte)) : commandWords code = none := by
  simp only [List.mem_cons, List.not_mem_nil, or_false, not_or, BitVec.ofNat_eq_ofNat] at h
  simp [commandWords, h]

/-- The codes of the commands of more than one word. -/
theorem commandWords_long {code : Byte} (h : code ∈ ([0x09, 0x10, 0x21, 0x23, 0x29] : List Byte)) :
    ∃ k, commandWords code = some k ∧ ¬ k ≤ 1 := by
  simp only [List.mem_cons, List.not_mem_nil, or_false] at h
  rcases h with rfl | rfl | rfl | rfl | rfl <;> exact ⟨_, rfl, by decide⟩

/-- With no half of a command word latched there is no latch to drop. -/
theorem State.dropCommandLatch_of_empty (h : s.bench.writeLatches.command = none) : s.dropCommandLatch = s := by
  have hlatches : { s.bench.writeLatches with command := none } = s.bench.writeLatches := by rw [← h]
  simp only [State.dropCommandLatch, State.modBench, hlatches]

/-- Settles O34: the three branches of a completed command word. -/
theorem commandWindowTakesWords : Obligations.CommandWindowTakesWords := by
  intro w s hlatch
  have hrow : s.wordRow w = s.commandWord w := by rw [State.wordRow, State.dropCommandLatch_of_empty hlatch]
  refine ⟨fun hheld => congrArg Host.Outcome.next ?held, fun hfree hcode => congrArg Host.Outcome.next ?unknown,
    fun hfree hcode => congrArg Host.Outcome.next ?collect⟩
  case held =>
    rw [hrow, State.commandWord, Bench.commandHeld, if_pos (Option.isSome_iff_ne_none.mpr hheld)]
    rfl
  all_goals
    obtain ⟨hheld, hcollected, -⟩ := id hfree
    rw [hrow, State.commandWord, Bench.commandHeld, hheld, hcollected]
    have hfirst : ([] ++ [w]).getD 0 0 = w := rfl
    rw [if_neg (by simp)]
    dsimp only
    rw [hfirst]
  case unknown =>
    rw [commandWords_eq_none hcode]
    have hsame : s.setCollected [] = s := by rw [← State.dropCommandLatch_setCollected_of_benchFree hfree, State.dropCommandLatch_of_empty hlatch]; rfl
    dsimp only
    rw [hsame, State.answer_of_benchFree hfree]
  case collect =>
    obtain ⟨k, hk, hlong⟩ := commandWords_long hcode
    rw [hk]
    exact if_neg hlong

end

end Sys2Proof.Machine
end

section
/-! PROOFS. The receiver of a link: what it does with a byte, a gap and a frame that cannot be taken, and the bytes of a frame received
one by one. -/

namespace Sys2Proof.Machine

section
variable {s : State} {l : Link} {bytes : List Byte} {b : Byte}

/-! ### One byte (R184) -/

theorem State.receive_of_hunting (h : (s.link l).receiver = .hunting) :
    s.receive l b = if b = 0x01 then s.modLink l fun k => { k with receiver := .inFrame [] } else s := by
  simp only [State.receive, h]

/-- The second byte and every later one joins the frame in progress, discards it, or ends it. -/
theorem State.receive_of_inFrame (h : (s.link l).receiver = .inFrame bytes) :
    s.receive l b =
      if (bytes ++ [b]).length < 2 then s.modLink l fun k => { k with receiver := .inFrame (bytes ++ [b]) }
      else if frameLength (bytes ++ [b]) < 1 ∨ 1025 < frameLength (bytes ++ [b]) then s.hunt l
      else if (bytes ++ [b]).length < frameLength (bytes ++ [b]) + 5 then
        s.modLink l fun k => { k with receiver := .inFrame (bytes ++ [b]) }
      else s.frameEnd l (bytes ++ [b]) := by
  simp only [State.receive, h]

/-- The length field stands in the first two bytes. -/
theorem frameLength_append (h : 2 ≤ bytes.length) (more : List Byte) : frameLength (bytes ++ more) = frameLength bytes := by
  simp only [frameLength, List.getD_append _ _ _ _ (show 0 < bytes.length by omega), List.getD_append _ _ _ _ (show 1 < bytes.length by omega)]

/-- A byte joins the frame in progress while the frame is not complete and its length, once in, is in range. -/
theorem State.receive_joins (h : (s.link l).receiver = .inFrame bytes)
    (hjoin : bytes = [] ∨ 1 ≤ frameLength (bytes ++ [b]) ∧ frameLength (bytes ++ [b]) ≤ 1025 ∧
      bytes.length < frameLength (bytes ++ [b]) + 4) :
    s.receive l b = s.modLink l fun k => { k with receiver := .inFrame (bytes ++ [b]) } := by
  rw [State.receive_of_inFrame h]
  split_ifs with hshort hrange hlong
  · rfl
  · obtain rfl | ⟨hlo, hhi, -⟩ := hjoin
    · exact absurd (Nat.lt_succ_self 1) hshort
    · omega
  · rfl
  · obtain rfl | ⟨-, -, hlen⟩ := hjoin
    · exact absurd (Nat.lt_succ_self 1) hshort
    · rw [List.length_append, List.length_singleton] at hlong
      omega

/-- The two bytes of a word. -/
@[simp] theorem length_bytes16 (w : BitVec 16) : (bytes16 w).length = 2 := rfl

/-- A length out of range, a wrong end byte and a wrong CRC return the receiver to hunting (R184). -/
theorem State.receive_discards (h : (s.link l).receiver = .inFrame bytes)
    (hbad : bytes.length = 1 ∧ (frameLength (bytes ++ [b]) < 1 ∨ 1025 < frameLength (bytes ++ [b])) ∨
      2 ≤ bytes.length ∧ 1 ≤ frameLength bytes ∧ frameLength bytes ≤ 1025 ∧ bytes.length = frameLength bytes + 4 ∧
        (b ≠ 0x04 ∨ bytes.drop (frameLength bytes + 2) ≠ bytes16 (crc (bytes.take (frameLength bytes + 2))))) :
    s.receive l b = s.hunt l := by
  rw [State.receive_of_inFrame h, List.length_append, List.length_singleton]
  obtain ⟨hlen, hrange⟩ | ⟨htwo, hlo, hhi, hlen, hend⟩ := hbad
  · rw [if_neg (by omega), if_pos hrange]
  · rw [frameLength_append htwo, if_neg (by omega), if_neg (by omega), if_neg (by omega), State.frameEnd, frameLength_append htwo,
      List.take_append_of_le_length (by omega), List.drop_append_of_le_length (by omega)]
    refine if_neg fun heq => ?_
    obtain ⟨hcrc, heot⟩ := List.append_inj heq (by rw [List.length_drop, length_bytes16]; omega)
    exact hend.elim (fun hb => hb (List.singleton_inj.mp heot)) fun hc => hc hcrc

end

/-- Settles O12: each event of a receiver by the rule of its byte. -/
theorem receiverTakesBytesAndDiscards : Obligations.ReceiverTakesBytesAndDiscards := by
  intro l s
  refine ⟨rfl, fun bytes b hin hbad => congrArg Host.Outcome.next (State.receive_discards hin hbad), rfl, fun kind payload hpending _ =>
    congrArg Host.Outcome.next (frameRow_discarded (.inl (Option.isSome_iff_ne_none.mp hpending)) _), rfl, fun hhunt => ⟨?_, fun b hb => ?_⟩,
    fun bytes b hin hjoin => congrArg Host.Outcome.next (State.receive_joins hin hjoin)⟩
  · exact congrArg Host.Outcome.next ((State.receive_of_hunting hhunt).trans (if_pos rfl))
  · exact congrArg Host.Outcome.next ((State.receive_of_hunting hhunt).trans (if_neg hb))

/-! ### The bytes of a frame (R184, R189) -/

section
variable {s : State} {l : Link}

/-- A machine whose receiver on a link stands at a place. -/
def State.atReceiver (s : State) (l : Link) (r : Receiver) : State := s.modLink l fun k => { k with receiver := r }

theorem State.receiver_atReceiver (s : State) (l : Link) (r : Receiver) : ((s.atReceiver l r).link l).receiver = r := by
  simp [State.atReceiver]

theorem State.atReceiver_atReceiver (s : State) (l : Link) (r r' : Receiver) : (s.atReceiver l r).atReceiver l r' = s.atReceiver l r' := by
  cases l <;> rfl

theorem execAll_append (xs ys : List Instr) (s : State) {t : State} (h : execAll xs s = .next t) : execAll (xs ++ ys) s = execAll ys t := by
  induction xs generalizing s with
  | nil =>
    cases h
    rfl
  | cons c cs ih =>
    cases hc : exec c s with
    | next u =>
      rw [execAll_cons hc] at h
      rw [List.cons_append, execAll_cons hc]
      exact ih u h
    | fault f => rw [execAll, hc] at h; cases h
    | refused r => rw [execAll, hc] at h; cases h

/-- Bytes that all join the frame in progress. -/
theorem execAll_receivedByte_joins {bytes : List Byte} (more : List Byte)
    (hjoin : ∀ before b after, more = before ++ b :: after → bytes ++ before = [] ∨
      1 ≤ frameLength (bytes ++ before ++ [b]) ∧ frameLength (bytes ++ before ++ [b]) ≤ 1025 ∧
        (bytes ++ before).length < frameLength (bytes ++ before ++ [b]) + 4) :
    execAll (more.map (.receivedByte l)) (s.atReceiver l (.inFrame bytes)) = .next (s.atReceiver l (.inFrame (bytes ++ more))) := by
  induction more generalizing bytes with
  | nil => rw [List.append_nil]; rfl
  | cons b rest ih =>
    have hbyte : exec (.receivedByte l b) (s.atReceiver l (.inFrame bytes)) = .next (s.atReceiver l (.inFrame (bytes ++ [b]))) := by
      have := hjoin [] b rest rfl
      rw [List.append_nil] at this
      refine congrArg Host.Outcome.next ((State.receive_joins (State.receiver_atReceiver s l _) this).trans ?_)
      exact State.atReceiver_atReceiver s l _ _
    rw [List.map_cons, execAll_cons hbyte, ih, List.append_assoc]
    · rfl
    · intro before b' after hrest
      have := hjoin (b :: before) b' after (by rw [hrest]; rfl)
      simpa only [List.append_assoc, List.singleton_append, List.cons_append, List.nil_append] using this

/-- The length field of a frame body. -/
theorem frameLength_frameBody (kind : Byte) {payload : List Byte} (hp : payload.length ≤ 1024) (more : List Byte) :
    frameLength (frameBody kind payload ++ more) = payload.length + 1 := by
  have hlen : payload.length + 1 < 65536 := by omega
  simp only [frameLength, frameBody, natBytes16, bytes16, List.cons_append, List.getD_cons_zero, List.getD_cons_succ,
    BitVec.extractLsb'_toNat, BitVec.toNat_ofNat]
  simp only [Nat.shiftRight_eq_div_pow]
  omega

theorem length_frameBody (kind : Byte) (payload : List Byte) : (frameBody kind payload).length = payload.length + 3 := by
  simp only [frameBody, natBytes16, List.length_append, length_bytes16, List.length_cons]
  omega

/-- The bytes of a frame, received one by one by a hunting receiver, complete the frame (R184, R189). -/
theorem receiveFrame_eq (kind : Byte) {payload : List Byte} (hhunt : (s.link l).receiver = .hunting) (hp : payload.length ≤ 1024) :
    receiveFrame l kind payload s = .next (s.frameRow l kind payload (requestOf l kind payload)) := by
  let body := frameBody kind payload
  let joined := body ++ bytes16 (crc body)
  have hbody : body.length = payload.length + 3 := length_frameBody kind payload
  have hjoined : joined.length = payload.length + 5 := by rw [List.length_append, hbody, length_bytes16]
  have hfield (more : List Byte) : frameLength (joined ++ more) = payload.length + 1 := by
    rw [List.append_assoc]
    exact frameLength_frameBody kind hp _
  have hbegin : exec (.receivedByte l 0x01) s = .next (s.atReceiver l (.inFrame [])) :=
    congrArg Host.Outcome.next ((State.receive_of_hunting hhunt).trans (if_pos rfl))
  have hjoin : execAll (joined.map (.receivedByte l)) (s.atReceiver l (.inFrame [])) = .next (s.atReceiver l (.inFrame joined)) := by
    refine execAll_receivedByte_joins joined fun before b after hsplit => or_iff_not_imp_left.mpr fun hne => ?_
    rw [List.nil_append] at hne ⊢
    have hlen : before.length + (after.length + 1) = payload.length + 5 := by
      rw [← hjoined, hsplit, List.length_append, List.length_cons]
    have htwo : 2 ≤ (before ++ [b]).length := by
      have := List.length_pos_iff.mpr hne
      rw [List.length_append, List.length_singleton]
      omega
    have hprefix : frameLength (before ++ [b]) = payload.length + 1 := by
      rw [← frameLength_append htwo after, List.append_assoc, List.singleton_append, ← hsplit, ← List.append_nil joined]
      exact hfield []
    omega
  have hend : exec (.receivedByte l 0x04) (s.atReceiver l (.inFrame joined)) =
      .next (s.frameRow l kind payload (requestOf l kind payload)) := by
    refine congrArg Host.Outcome.next ((State.receive_of_inFrame (State.receiver_atReceiver s l _)).trans ?_)
    have htake : (joined ++ [0x04]).take (payload.length + 1 + 2) = body := by
      rw [List.append_assoc, ← hbody, List.take_left]
    have hdrop : (joined ++ [0x04]).drop (payload.length + 1 + 2) = bytes16 (crc body) ++ [0x04] := by
      rw [List.append_assoc, ← hbody, List.drop_left]
    rw [hfield, List.length_append, hjoined, List.length_singleton, if_neg (by omega), if_neg (by omega), if_neg (by omega), State.frameEnd, hfield]
    dsimp only
    rw [htake, hdrop, if_pos rfl, State.frameRow, maxPayload, if_pos hp]
    show (s.atReceiver l _).frameComplete l kind payload (requestOf l kind payload) = _
    unfold State.frameComplete
    rw [show (s.atReceiver l (.inFrame joined)).hunt l = s.hunt l from State.atReceiver_atReceiver s l _ _]
  have hframe : frameBytes kind payload = 0x01 :: (joined ++ [0x04]) := rfl
  rw [receiveFrame, hframe, List.map_cons, execAll_cons hbegin, List.map_append, execAll_append _ _ _ hjoin]
  exact execAll_cons hend

end

/-- Settles O13: the bytes complete the frame, and each request's row is the row of its frame. -/
theorem frameBytesAreTheRequest : Obligations.FrameBytesAreTheRequest := by
  intro s
  refine ⟨fun hcell => ⟨fun nest variant serial hlen => receiveFrame_eq _ hcell ?_, fun nest => receiveFrame_eq _ hcell (by simp),
      fun nest => receiveFrame_eq _ hcell (by simp), fun nest => receiveFrame_eq _ hcell (by simp), receiveFrame_eq _ hcell (by simp),
      fun nest => receiveFrame_eq _ hcell (by simp)⟩,
    fun hplant => ⟨receiveFrame_eq _ hplant (by simp), fun number => ?_, receiveFrame_eq _ hplant (by simp)⟩,
    fun l kind payload hhunt hp => receiveFrame_eq kind hhunt hp⟩
  · simp only [List.length_cons]
    omega
  · refine (receiveFrame_eq _ hplant (by simp)).trans ?_
    have hnumber : requestOf .plant 0x21 (bytes16 number) = takeRequest number := by
      exact congrArg takeRequest (word_of_bytes number)
    rw [hnumber]
    rfl

end Sys2Proof.Machine
end

section
/-! PROOFS. The windows of the bench port: commands written word by word, the reply, data and pointer windows, the byte halves. -/

namespace Sys2Proof.Machine

/-! ### Commands written word by word (R179, R196) -/

theorem codeOf_firstWord (code low : Byte) : codeOf (firstWord code low) = code := BitVec.extractLsb'_append_eq_left

theorem argumentA_firstWord (code low : Byte) : argumentA (firstWord code low) = low := BitVec.extractLsb'_append_eq_right

section
variable {s : State}

/-- A word with none held, by the length of the command that the first word names. -/
theorem State.commandWord_of_known {cs : List Word} {w : Word} {k : Nat} (hheld : s.bench.held = none) (hcs : s.bench.collected = cs)
    (hk : commandWords (codeOf ((cs ++ [w]).getD 0 0)) = some k) :
    s.commandWord w = if k ≤ (cs ++ [w]).length then (s.setCollected []).takeWords (cs ++ [w]) else s.setCollected (cs ++ [w]) := by
  have hnot : s.bench.commandHeld = false := congrArg Option.isSome hheld
  simp only [State.commandWord, hnot, hcs, hk, Bool.false_eq_true, if_false]

/-- A word that leaves the collection short of its command joins it. -/
theorem State.wordRow_joins {cs : List Word} {w : Word} {k : Nat} (hheld : s.bench.held = none)
    (hk : commandWords (codeOf ((cs ++ [w]).getD 0 0)) = some k) (hshort : (cs ++ [w]).length < k) :
    (s.dropCommandLatch.setCollected cs).wordRow w = s.dropCommandLatch.setCollected (cs ++ [w]) :=
  (State.commandWord_of_known (s := (s.dropCommandLatch.setCollected cs).dropCommandLatch) hheld rfl hk).trans
    (if_neg (Nat.not_le.mpr hshort))

/-- The last word of a command has it taken with an empty collection. -/
theorem State.wordRow_completes {cs : List Word} {w : Word} (hheld : s.bench.held = none)
    (hk : commandWords (codeOf ((cs ++ [w]).getD 0 0)) = some (cs ++ [w]).length) :
    (s.dropCommandLatch.setCollected cs).wordRow w = (s.dropCommandLatch.setCollected []).takeWords (cs ++ [w]) :=
  (State.commandWord_of_known (s := (s.dropCommandLatch.setCollected cs).dropCommandLatch) hheld rfl hk).trans (if_pos (Nat.le_refl _))

/-- The words still missing from the collection, written one by one, have the command taken. -/
theorem execAll_commandWords (ws cs : List Word) (w : Word) (hheld : s.bench.held = none)
    (hk : commandWords (codeOf ((cs ++ w :: ws).getD 0 0)) = some (cs ++ w :: ws).length) :
    execAll ((w :: ws).map .commandWordCollect) (s.dropCommandLatch.setCollected cs) =
      .next ((s.dropCommandLatch.setCollected []).takeWords (cs ++ w :: ws)) := by
  induction ws generalizing cs w with
  | nil => exact execAll_cons (congrArg Host.Outcome.next (State.wordRow_completes hheld hk))
  | cons w' ws ih =>
    have hsplit : cs ++ w :: w' :: ws = (cs ++ [w]) ++ w' :: ws := by simp
    have hfirst : (cs ++ w :: w' :: ws).getD 0 0 = (cs ++ [w]).getD 0 0 := by cases cs <;> rfl
    have hjoin : exec (.commandWordCollect w) (s.dropCommandLatch.setCollected cs) = .next (s.dropCommandLatch.setCollected (cs ++ [w])) :=
      congrArg Host.Outcome.next (State.wordRow_joins hheld (hfirst ▸ hk) (by simp))
    rw [List.map_cons, execAll_cons hjoin, hsplit]
    exact ih (cs ++ [w]) w' (hsplit ▸ hk)

/-- The words of a command, written with none held or in collection, are the row that takes it. -/
theorem writeCommand_eq_row {w : Word} {ws : List Word} {c : Instr} {take : State → State} (hheld : s.bench.held = none)
    (hcollected : s.bench.collected = []) (hk : commandWords (codeOf w) = some (w :: ws).length)
    (htake : ∀ t : State, t.takeWords (w :: ws) = take t) (hexec : exec c s = .next (s.benchRow take)) :
    writeCommand (w :: ws) s = exec c s := by
  have hrow : s.benchRow take = take (s.dropCommandLatch.setCollected []) := by
    have hnot : s.dropCommandLatch.bench.commandHeld = false := congrArg Option.isSome hheld
    simp [State.benchRow, hnot]
  have hstart : exec (.commandWordCollect w) s = exec (.commandWordCollect w) (s.dropCommandLatch.setCollected []) := by
    rw [← hcollected]
    rfl
  have hwords : writeCommand (w :: ws) s = execAll ((w :: ws).map .commandWordCollect) (s.dropCommandLatch.setCollected []) := by
    simp only [writeCommand, List.map_cons, execAll, hstart]
  rw [hwords, execAll_commandWords ws [] w hheld hk, hexec, hrow, ← htake]
  rfl

/-- Settles O33: each command's words have it taken by its row of the command table. -/
theorem commandWordsAreTheCommand : Obligations.CommandWordsAreTheCommand := by
  intro s hheld hcollected
  refine ⟨fun a => ?_, fun a b c => ?_⟩
  · refine ⟨?_, ?_, ?_, ?_, ?_, ?_, ?_, ?_, ?_, ?_, ?_, ?_, ?_, ?_, ?_, ?_, ?_⟩ <;>
      refine writeCommand_eq_row hheld hcollected (congrArg commandWords (codeOf_firstWord _ _)) (fun t => ?_) rfl <;>
      simp only [State.takeWords, List.getD_cons_zero, codeOf_firstWord, argumentA_firstWord] <;> rfl
  · refine ⟨?_, ?_, ?_, ?_, ?_⟩ <;>
      refine writeCommand_eq_row hheld hcollected (congrArg commandWords (codeOf_firstWord _ _)) (fun t => ?_) rfl <;>
      simp only [State.takeWords, List.getD_cons_zero, List.getD_cons_succ, codeOf_firstWord, argumentA_firstWord] <;> rfl

end

/-! ### The reply, data and pointer windows (R179, R180) -/

/-- Emptying a latch that is empty changes none. -/
theorem Latches.set_none_of_none {α : Type} {l : Latches α} {w : Window} (h : l.get w = none) : l.set w none = l := by
  obtain ⟨command, reply, data, pointer⟩ := l
  cases w <;> simp only [Latches.get] at h <;> subst_vars <;> rfl

section
variable {s : State} {w : Window}

/-- A whole read with no half latched drives the window's word and takes its effects. -/
theorem State.readWindow_of_none (h : s.bench.readLatches.get w = none) : s.readWindow w = (s.drive (s.windowWord w)).readEffect w := by
  have hset : s.setReadLatch w none = s := by simp only [State.setReadLatch, State.modBench, Latches.set_none_of_none h]
  simp only [State.readWindow, h, hset]

/-- A whole write with no half held is the window's write. -/
theorem State.writeWindow_of_none (h : s.bench.writeLatches.get w = none) (x : Word) : s.writeWindow w x = s.writeEffect w x := by
  have hset : s.setWriteLatch w none = s := by simp only [State.setWriteLatch, State.modBench, Latches.set_none_of_none h]
  rw [State.writeWindow, hset]

end

section
variable {b : Bench} {r : BenchReply}

theorem Bench.replyRead_of_none (h : b.reply = none) : b.replyRead = b := by simp only [Bench.replyRead, h]

theorem Bench.replyRead_beyond (h : b.reply = some r) (hidx : r.words.length ≤ r.index) : b.replyRead = b := by
  simp only [Bench.replyRead, h, if_neg (Nat.not_lt.mpr hidx)]

/-- A flag kept unless two numbers are equal. -/
theorem and_ne_eq_ite (f : Bool) (x y : Nat) : (f && x != y) = if x = y then false else f := by
  by_cases hxy : x = y <;> simp [hxy]

theorem Bench.replyRead_within (h : b.reply = some r) (hidx : r.index < r.words.length) :
    b.replyRead = { b with
      reply := some { r with index := r.index + 1 }
      overrun := if r.index = 0 then false else b.overrun
      replyReady := if r.index + 1 = r.words.length then false else b.replyReady } := by
  simp only [Bench.replyRead, h, if_pos hidx, and_ne_eq_ite]

theorem Bench.dataRead_within {n : Nat} (h : b.pointer.toNat < n) :
    b.dataRead n =
      { b with pointer := b.pointer + 1, dataReady := if b.pointer.toNat + 1 = n then false else b.dataReady } := by
  simp only [Bench.dataRead, and_ne_eq_ite, Nat.not_le.mpr h, decide_false, Bool.or_false]

theorem Bench.dataRead_beyond {n : Nat} (h : n ≤ b.pointer.toNat) :
    b.dataRead n = { b with pointer := b.pointer + 1, pastEnd := true } := by
  have hne : b.pointer.toNat + 1 ≠ n := by omega
  simp only [Bench.dataRead, and_ne_eq_ite, if_neg hne, h, decide_true, Bool.or_true]

theorem Bench.dataWrite_within (w : Word) (h : b.pointer.toNat < 1024) :
    b.dataWrite w = { b with intake := WordMem.write b.intake b.pointer.toNat w, pointer := b.pointer + 1 } := by
  simp only [Bench.dataWrite, if_pos h, Nat.not_le.mpr h, decide_false, Bool.or_false]

theorem Bench.dataWrite_beyond (w : Word) (h : 1024 ≤ b.pointer.toNat) :
    b.dataWrite w = { b with pointer := b.pointer + 1, pastEnd := true } := by
  simp only [Bench.dataWrite, if_neg (Nat.not_lt.mpr h), h, decide_true, Bool.or_true]

end

/-- Settles O35: the reads with no reply, within it and beyond it, the ignored writes and the pointer's write. -/
theorem replyAndPointerWindowsAct : Obligations.ReplyAndPointerWindowsAct := by
  intro s
  refine ⟨fun hlatch => ?_, fun w hlatch => ⟨?_, ?_⟩, fun w => ?_⟩
  · have hread (x : Word) (hx : s.windowWord .reply = x) :
        exec .replyWindowRead s = .next (s.modBench fun b => ({ b with driven := x } : Bench).replyRead) := by
      subst hx
      exact congrArg Host.Outcome.next (State.readWindow_of_none hlatch)
    have hbench {x : Word} {b : Bench} (hb : ({ s.bench with driven := x } : Bench).replyRead = b) :
        Host.Outcome.next (s.modBench fun b => ({ b with driven := x } : Bench).replyRead) =
          (.next { s with bench := b } : Host.Outcome State Fault Refusal) := by
      subst hb
      rfl
    refine ⟨fun hr => ?_, fun r hr => ⟨fun w hw => ?_, fun hidx => ?_⟩⟩
    · have hx : s.windowWord .reply = 0 := by simp only [State.windowWord, hr, Option.bind_none, Option.getD_none, BitVec.ofNat_eq_ofNat]
      exact (hread 0 hx).trans (hbench (Bench.replyRead_of_none hr))
    · have hx : s.windowWord .reply = w := by simp only [State.windowWord, hr, Option.bind_some, hw, Option.getD_some]
      exact (hread w hx).trans (hbench (Bench.replyRead_within hr (List.getElem?_eq_some_iff.mp hw).1))
    · have hx : s.windowWord .reply = 0 := by
        simp only [State.windowWord, hr, Option.bind_some, List.getElem?_eq_none hidx, Option.getD_none, BitVec.ofNat_eq_ofNat]
      exact (hread 0 hx).trans (hbench (Bench.replyRead_beyond hr hidx))
  · exact congrArg Host.Outcome.next (State.writeWindow_of_none (w := .reply) hlatch w)
  · exact congrArg Host.Outcome.next (State.writeWindow_of_none (w := .flags) rfl w)
  · have hlow : w.extractLsb' 0 13 = w.setWidth 13 := BitVec.eq_of_toNat_eq rfl
    show Host.Outcome.next ((s.setWriteLatch .pointer none).modBench fun b => b.pointerWrite w) = _
    simp only [Bench.pointerWrite, hlow]
    rfl

/-- Settles O36: the reads within the content and beyond it, of the output buffer and of a viewed slot, and the writes. -/
theorem dataWindowReadsAndWrites : Obligations.DataWindowReadsAndWrites := by
  intro s
  refine ⟨fun hlatch => ?_, fun w hlatch hwf => ⟨fun hptr => ?_, fun hptr => ?_⟩⟩
  · have hread (content : List Word) (hc : s.dataContent = content) : exec .dataWindowRead s =
        .next (s.modBench fun b => ({ b with driven := content.getD s.bench.pointer.toNat 0 } : Bench).dataRead content.length) := by
      subst hc
      exact congrArg Host.Outcome.next (State.readWindow_of_none hlatch)
    have hbench {x : Word} {n : Nat} {b : Bench} (hb : ({ s.bench with driven := x } : Bench).dataRead n = b) :
        Host.Outcome.next (s.modBench fun b => ({ b with driven := x } : Bench).dataRead n) =
          (.next { s with bench := b } : Host.Outcome State Fault Refusal) := by
      subst hb
      rfl
    have hwithin (content : List Word) (hc : s.dataContent = content) (x : Word) (hx : content[s.bench.pointer.toNat]? = some x) :
        exec .dataWindowRead s = .next { s with
          bench :=
            { s.bench with
              driven := x
              pointer := s.bench.pointer + 1
              dataReady := if s.bench.pointer.toNat + 1 = content.length then false else s.bench.dataReady } } := by
      refine (hread content hc).trans (hbench ?_)
      have hw : content.getD s.bench.pointer.toNat 0 = x := by rw [List.getD_eq_getElem?_getD, hx, Option.getD_some]
      rw [hw]
      exact Bench.dataRead_within (List.getElem?_eq_some_iff.mp hx).1
    have hbeyond (content : List Word) (hc : s.dataContent = content) (hx : content.length ≤ s.bench.pointer.toNat) :
        exec .dataWindowRead s =
          .next { s with bench := { s.bench with driven := 0, pointer := s.bench.pointer + 1, pastEnd := true } } := by
      refine (hread content hc).trans (hbench ?_)
      rw [List.getD_eq_default _ _ hx]
      exact Bench.dataRead_beyond hx
    have hoff (hv : s.bench.view = none) : s.dataContent = s.bench.output := by simp only [State.dataContent, hv]
    have hslot {i d} (hv : s.bench.view = some i) (hd : (s.slot i).descriptor = some d)
        (hlen : (s.slot i).samples.length = 256 * d.revolutions) :
        s.dataContent = (s.slot i).samples.map (BitVec.ofInt 16) ∧ ((s.slot i).samples.map (BitVec.ofInt 16)).length = 256 * d.revolutions := by
      have hl : ((s.slot i).samples.map (BitVec.ofInt 16)).length = 256 * d.revolutions := (List.length_map _).trans hlen
      refine ⟨?_, hl⟩
      simp only [State.dataContent, hv, hd, Option.map_some, Option.getD_some, blockLength]
      exact List.take_of_length_le hl.le
    refine ⟨fun w hv hw => hwithin _ (hoff hv) w hw, fun hv hlen => hbeyond _ (hoff hv) hlen, fun i d x hv hd hlen hx => ?_,
      fun i d hv hd hlen hptr => ?_⟩
    · obtain ⟨hc, hl⟩ := hslot hv hd hlen
      rw [hwithin _ hc (BitVec.ofInt 16 x) (by rw [List.getElem?_map, hx]; rfl), hl]
    · obtain ⟨hc, hl⟩ := hslot hv hd hlen
      exact hbeyond _ hc (hl.trans_le hptr)
  · refine ⟨WordMem.write s.bench.intake s.bench.pointer.toNat w, ?_, WordMem.read_write_same _ w hwf,
      fun a ha => WordMem.read_write_ne w ha⟩
    exact congrArg Host.Outcome.next ((State.writeWindow_of_none (w := .data) hlatch w).trans
      (congrArg (fun b => { s with bench := b }) (Bench.dataWrite_within w hptr)))
  · exact congrArg Host.Outcome.next ((State.writeWindow_of_none (w := .data) hlatch w).trans
      (congrArg (fun b => { s with bench := b }) (Bench.dataWrite_beyond w hptr)))

/-! ### The address lines and the byte halves (R177, R178) -/

theorem windowOfAddress_true_eq_some_iff {a : Nat} {w : Window} : windowOfAddress true a = some w ↔ a = w.number :=
  ⟨windowOfAddress_true_inv, fun h => h ▸ windowOfAddress_wordAddress w⟩

/-- An address of 8-bit mode names the half of the window that has that address. -/
theorem byteAccessAt_eq_some_iff {a : Nat} {w : Window} {h : Half} {op : ByteOp} :
    byteAccessAt a op = some ⟨w, h, op⟩ ↔ a = w.byteAddress h := by
  refine ⟨fun hacc => ?_, fun ha => ha ▸ byteAccessAt_byteAddress w h op⟩
  rw [byteAccessAt, Option.map_eq_some_iff] at hacc
  obtain ⟨w', hw', hacc⟩ := hacc
  obtain ⟨rfl, rfl, -⟩ := ByteAccess.mk.inj hacc
  have hdiv : a / 2 = w'.number := windowOfAddress_true_inv (a := a / 2) hw'
  by_cases heven : a % 2 = 0
  · simp only [halfOfAddress, if_pos heven, Window.byteAddress]
    omega
  · simp only [halfOfAddress, if_neg heven, Window.byteAddress]
    omega

theorem windowOf_of_large {a : Nat} (h : 5 ≤ a) : windowOf a = none := by
  unfold windowOf
  split
  case h_6 => rfl
  all_goals omega

section
variable {s : State} {w : Window} {h h' : Half}

theorem exec_writeHalf (hwidth : s.bench.width16 = false) (b : Byte) :
    exec (.byteHalfAccess ⟨w, h, .write b⟩) s = .next (s.writeHalf w h b) := by
  show Host.Outcome.next (s.byteAccess ⟨w, h, .write b⟩) = _
  simp only [State.byteAccess, hwidth, Bool.false_eq_true, if_false]

theorem exec_readHalf (hwidth : s.bench.width16 = false) : exec (.byteHalfAccess ⟨w, h, .read⟩) s = .next (s.readHalf w h) := by
  show Host.Outcome.next (s.byteAccess ⟨w, h, .read⟩) = _
  simp only [State.byteAccess, hwidth, Bool.false_eq_true, if_false]

theorem Latches.set_set {α : Type} (l : Latches α) (x y : Option α) : (l.set w x).set w y = l.set w y := by cases w <;> rfl

/-- Setting a write latch again, empty, gives back the state in which it was empty. -/
theorem State.setWriteLatch_none (hnone : s.bench.writeLatches.get w = none) (x : Option WriteLatch) :
    (s.setWriteLatch w x).setWriteLatch w none = s := by
  simp only [State.setWriteLatch, State.modBench, Latches.set_set, Latches.set_none_of_none hnone]

theorem State.setReadLatch_none (hnone : s.bench.readLatches.get w = none) (x : Option ReadLatch) :
    (s.setReadLatch w x).setReadLatch w none = s := by
  simp only [State.setReadLatch, State.modBench, Latches.set_set, Latches.set_none_of_none hnone]

/-- A first half written is held. -/
theorem State.writeHalf_first (hw : w ≠ .flags) (hnone : s.bench.writeLatches.get w = none) (b : Byte) :
    s.writeHalf w h b = s.setWriteLatch w (some ⟨h, b⟩) := by
  cases w
  case flags => exact absurd rfl hw
  all_goals simp only [State.writeHalf, hnone]

/-- The same half written again replaces the held byte. -/
theorem State.writeHalf_again (hw : w ≠ .flags) (old b : Byte) :
    (s.setWriteLatch w (some ⟨h, old⟩)).writeHalf w h b = s.setWriteLatch w (some ⟨h, b⟩) := by
  cases w
  case flags => exact absurd rfl hw
  all_goals exact if_pos rfl

/-- The other half written completes the write. -/
theorem State.writeHalf_other (hw : w ≠ .flags) (hne : h ≠ h') (hnone : s.bench.writeLatches.get w = none) (b b' : Byte) :
    (s.setWriteLatch w (some ⟨h, b⟩)).writeHalf w h' b' = s.writeEffect w (joinHalves h' b' b) := by
  have hclear := State.setWriteLatch_none hnone (some ⟨h, b⟩)
  have hother : (s.setWriteLatch w (some ⟨h, b⟩)).writeHalf w h' b' =
      ((s.setWriteLatch w (some ⟨h, b⟩)).setWriteLatch w none).writeEffect w (joinHalves h' b' b) := by
    cases w
    case flags => exact absurd rfl hw
    all_goals exact if_neg hne
  rw [hother, hclear]

/-- Two byte writes, of the one half and of the other, are one write of the word. -/
theorem execAll_writeHalves (hwidth : s.bench.width16 = false) (hw : w ≠ .flags) (hne : h ≠ h')
    (hnone : s.bench.writeLatches.get w = none) (b b' : Byte) :
    execAll [.byteHalfAccess ⟨w, h, .write b⟩, .byteHalfAccess ⟨w, h', .write b'⟩] s =
      .next (s.writeEffect w (joinHalves h' b' b)) := by
  rw [execAll_cons (exec_writeHalf hwidth b), State.writeHalf_first hw hnone, execAll_cons (exec_writeHalf (s := s.setWriteLatch w _) hwidth b'),
    State.writeHalf_other hw hne hnone]
  rfl

/-- Byte writes with the one half written twice are one write of the word, with the half's second byte. -/
theorem execAll_writeHalves_again (hwidth : s.bench.width16 = false) (hw : w ≠ .flags) (hne : h ≠ h')
    (hnone : s.bench.writeLatches.get w = none) (old b b' : Byte) :
    execAll [.byteHalfAccess ⟨w, h, .write old⟩, .byteHalfAccess ⟨w, h, .write b⟩, .byteHalfAccess ⟨w, h', .write b'⟩] s =
      .next (s.writeEffect w (joinHalves h' b' b)) := by
  rw [execAll_cons (exec_writeHalf hwidth old), State.writeHalf_first hw hnone, execAll_cons (exec_writeHalf (s := s.setWriteLatch w _) hwidth b),
    State.writeHalf_again hw, execAll_cons (exec_writeHalf (s := s.setWriteLatch w _) hwidth b'), State.writeHalf_other hw hne hnone]
  rfl

/-- A read's effects do not look at the data lines. -/
theorem State.readEffect_drive (x : Word) : (s.drive x).readEffect w = (s.readEffect w).drive x := by
  cases w
  case reply =>
    have hreply : ({ s.bench with driven := x } : Bench).replyRead = { s.bench.replyRead with driven := x } := by
      rcases hr : s.bench.reply with - | r
      · rw [Bench.replyRead_of_none hr, Bench.replyRead_of_none (b := { s.bench with driven := x }) hr]
      · rcases Nat.lt_or_ge r.index r.words.length with hidx | hidx
        · rw [Bench.replyRead_within hr hidx, Bench.replyRead_within (b := { s.bench with driven := x }) hr hidx]
        · rw [Bench.replyRead_beyond hr hidx, Bench.replyRead_beyond (b := { s.bench with driven := x }) hr hidx]
    exact congrArg (fun b => { s with bench := b }) hreply
  all_goals rfl

/-- A window's word latched by a byte read of its one half, which drives that half. -/
def State.afterFirstHalf (s : State) (w : Window) (h : Half) : State :=
  (s.setReadLatch w (some ⟨h, s.windowWord w⟩)).drive ((halfOf h (s.windowWord w)).setWidth 16)

/-- Two byte reads, of the one half and of the other, return the halves of the word and take the effects of one word read; the
same half again returns the same byte. -/
theorem exec_readHalves (hwidth : s.bench.width16 = false) (hw : w ≠ .flags) (hne : h ≠ h') (hnone : s.bench.readLatches.get w = none) :
    exec (.byteHalfAccess ⟨w, h, .read⟩) s =
        .next (s.afterFirstHalf w h) ∧
      exec (.byteHalfAccess ⟨w, h, .read⟩) (s.afterFirstHalf w h) =
        .next (s.afterFirstHalf w h) ∧
      exec (.byteHalfAccess ⟨w, h', .read⟩) (s.afterFirstHalf w h) =
        .next ((s.readEffect w).drive ((halfOf h' (s.windowWord w)).setWidth 16)) := by
  refine ⟨(exec_readHalf hwidth).trans (congrArg Host.Outcome.next ?first), (exec_readHalf (s := s.afterFirstHalf w h) hwidth).trans (congrArg Host.Outcome.next ?again),
    (exec_readHalf (s := s.afterFirstHalf w h) hwidth).trans (congrArg Host.Outcome.next ?other)⟩
  case first =>
    cases w
    case flags => exact absurd rfl hw
    all_goals simp only [State.readHalf, hnone, State.afterFirstHalf]
  case again =>
    cases w
    case flags => exact absurd rfl hw
    all_goals exact if_pos rfl
  case other =>
    have hread : (s.afterFirstHalf w h).readHalf w h' =
        (((s.setReadLatch w (some ⟨h, s.windowWord w⟩)).setReadLatch w none).drive ((halfOf h' (s.windowWord w)).setWidth 16)).readEffect w := by
      cases w
      case flags => exact absurd rfl hw
      all_goals exact if_neg hne
    rw [hread, State.setReadLatch_none hnone, State.readEffect_drive]

/-- The flags word uses the low byte alone. -/
theorem Bench.toNat_flagsWord_lt (b : Bench) : b.flagsWord.toNat < 2 ^ 8 := by
  have hsum := fun x : Bool => Bool.toNat_le x
  have h1 := hsum b.replyReady
  have h2 := hsum b.dataReady
  have h3 := hsum b.commandHeld
  have h4 := hsum b.overrun
  have h5 := hsum b.pastEnd
  have h6 := hsum b.attention
  rw [Bench.flagsWord, BitVec.toNat_ofNat]
  omega

theorem halfOf_low_of_small {x : Word} (hx : x.toNat < 2 ^ 8) : (halfOf .low x).setWidth 16 = x := by
  apply BitVec.eq_of_toNat_eq
  simp only [halfOf, BitVec.toNat_setWidth, BitVec.extractLsb'_toNat, Nat.shiftRight_zero]
  omega

theorem halfOf_high_of_small {x : Word} (hx : x.toNat < 2 ^ 8) : (halfOf .high x).setWidth 16 = (0 : Word) := by
  apply BitVec.eq_of_toNat_eq
  simp only [halfOf, BitVec.toNat_setWidth, BitVec.extractLsb'_toNat, Nat.shiftRight_eq_div_pow, BitVec.ofNat_eq_ofNat, BitVec.toNat_ofNat]
  omega

/-- Settles O37: the addresses of the windows and halves, and two halves as one access. -/
theorem byteHalvesMakeOneAccess : Obligations.ByteHalvesMakeOneAccess := by
  refine ⟨fun w => ⟨by cases w <;> rfl, fun a => ⟨windowOfAddress_true_eq_some_iff, fun op =>
    ⟨byteAccessAt_eq_some_iff (h := .low), byteAccessAt_eq_some_iff (h := .high)⟩⟩⟩, fun a op => ⟨windowOf_of_large, fun ha => ?_⟩,
    fun s hwidth => ⟨fun hi lo => ⟨fun hnone => ?_, fun hnone => ?_, fun hnone => ?_⟩, fun h h' hne => ⟨fun hnone => ?_, fun hnone => ?_⟩, ?_, ?_⟩⟩
  · have hnone : windowOfAddress false a = none := windowOf_of_large (a := a / 2) (by omega)
    rw [byteAccessAt, hnone, Option.map_none]
  · have hword : exec (.commandWordCollect (hi ++ lo)) s = .next (s.writeEffect .command (hi ++ lo)) :=
      congrArg (fun t : State => Host.Outcome.next (t.commandWord (hi ++ lo))) (State.dropCommandLatch_of_empty hnone)
    exact ⟨(execAll_writeHalves (w := .command) (h := .low) (h' := .high) hwidth nofun nofun hnone lo hi).trans hword.symm,
      (execAll_writeHalves (w := .command) (h := .high) (h' := .low) hwidth nofun nofun hnone hi lo).trans hword.symm⟩
  · have hword : exec (.dataWindowWrite (hi ++ lo)) s = .next (s.writeEffect .data (hi ++ lo)) :=
      congrArg Host.Outcome.next (State.writeWindow_of_none (w := .data) hnone _)
    exact ⟨(execAll_writeHalves (w := .data) (h := .low) (h' := .high) hwidth nofun nofun hnone lo hi).trans hword.symm,
      (execAll_writeHalves (w := .data) (h := .high) (h' := .low) hwidth nofun nofun hnone hi lo).trans hword.symm,
      fun old => (execAll_writeHalves_again (w := .data) (h := .low) (h' := .high) hwidth nofun nofun hnone old lo hi).trans hword.symm⟩
  · have hword : exec (.pointerWindowWrite (hi ++ lo)) s = .next (s.writeEffect .pointer (hi ++ lo)) :=
      congrArg Host.Outcome.next (State.writeWindow_of_none (w := .pointer) hnone _)
    exact (execAll_writeHalves (w := .pointer) (h := .low) (h' := .high) hwidth nofun nofun hnone lo hi).trans hword.symm
  · obtain ⟨hfirst, hagain, hother⟩ := exec_readHalves (w := .data) hwidth nofun hne hnone
    have hword : exec .dataWindowRead s = .next ((s.readEffect .data).drive (s.windowWord .data)) :=
      congrArg Host.Outcome.next ((State.readWindow_of_none (w := .data) hnone).trans (State.readEffect_drive _))
    exact ⟨_, _, _, _, hfirst, hagain, hother, hword, rfl, rfl, rfl, rfl⟩
  · obtain ⟨hfirst, -, hother⟩ := exec_readHalves (w := .reply) hwidth nofun hne hnone
    have hword : exec .replyWindowRead s = .next ((s.readEffect .reply).drive (s.windowWord .reply)) :=
      congrArg Host.Outcome.next ((State.readWindow_of_none (w := .reply) hnone).trans (State.readEffect_drive _))
    exact ⟨_, _, _, hfirst, hother, hword, rfl, rfl, rfl⟩
  · exact (exec_readHalf hwidth).trans (congrArg (fun x => Host.Outcome.next (s.drive x)) (halfOf_low_of_small s.bench.toNat_flagsWord_lt))
  · exact (exec_readHalf hwidth).trans (congrArg (fun x => Host.Outcome.next (s.drive x)) (halfOf_high_of_small s.bench.toNat_flagsWord_lt))

end

end Sys2Proof.Machine
end

section
/-! PROOFS. The records that a start creates, the air supply's grant, the sine table and the amplitudes. -/

namespace Sys2Proof.Machine

/-! ### The records that a start creates (R4) -/

/-- A chamber is among those of a plan's LEAK stages, or among those collected before. -/
theorem foldl_leakChambers_has (c : Chamber) (stages : List Stage) (m : ChamberSet) :
    (stages.foldl (init := m) fun m st => match st with | .leak k _ => ⟨m.c0 || k.c0, m.c1 || k.c1⟩ | _ => m).has c = true ↔
      m.has c = true ∨ ∃ k set, Stage.leak k set ∈ stages ∧ k.has c = true := by
  induction stages generalizing m with
  | nil => simp
  | cons st stages ih =>
    rw [List.foldl_cons, ih]
    cases st with
    | leak k set =>
      have hor : (ChamberSet.mk (m.c0 || k.c0) (m.c1 || k.c1)).has c = true ↔ m.has c = true ∨ k.has c = true := by
        cases c <;> exact Bool.or_eq_true_iff ..
      simp only [hor, List.mem_cons, Stage.leak.injEq]
      constructor
      · rintro ((h | h) | ⟨k', set', h, hk'⟩)
        · exact .inl h
        · exact .inr ⟨k, set, .inl ⟨rfl, rfl⟩, h⟩
        · exact .inr ⟨k', set', .inr h, hk'⟩
      · rintro (h | ⟨k', set', ⟨rfl, rfl⟩ | h, hk'⟩)
        · exact .inl (.inl h)
        · exact .inl (.inr hk')
        · exact .inr ⟨k', set', h, hk'⟩
    | engage => simp
    | reference => simp
    | profile => simp

theorem Plan.leakChambers_has_iff (p : Plan) (c : Chamber) :
    p.leakChambers.has c = true ↔ ∃ m set, Stage.leak m set ∈ p.stages ∧ m.has c = true := by
  have h := foldl_leakChambers_has c p.stages ⟨false, false⟩
  rw [or_iff_right (by cases c <;> nofun)] at h
  exact h

/-- The fresh leak records are those of the plan's chambers. -/
theorem Plan.mem_freshLeaks_iff {p : Plan} {r : LeakRecord} :
    r ∈ p.freshLeaks ↔ p.leakChambers.has r.chamber = true ∧ r = LeakRecord.fresh r.chamber := by
  rcases r with ⟨c, a, b, d, e, g⟩
  cases c <;> simp only [Plan.freshLeaks, List.mem_append, List.mem_ite_nil_right, List.mem_singleton, ChamberSet.has, LeakRecord.fresh,
    LeakRecord.mk.injEq, reduceCtorEq, false_and, and_false, or_false, false_or, true_and]

theorem Plan.freshLeaks_ascending (p : Plan) : p.freshLeaks.Pairwise fun a b => a.chamber.number < b.chamber.number := by
  rw [Plan.freshLeaks]
  cases p.leakChambers.c0 <;> cases p.leakChambers.c1 <;> simp [LeakRecord.fresh, Chamber.number]

theorem Plan.freshRunIn_isSome_iff (p : Plan) : p.freshRunIn.isSome = true ↔ Stage.engage ∈ p.stages := by
  rw [Plan.freshRunIn]
  by_cases h : p.stages.contains .engage = true
  · rw [if_pos h]
    exact iff_of_true rfl (List.contains_iff_mem.mp h)
  · rw [if_neg h]
    exact iff_of_false nofun fun hmem => h (List.contains_iff_mem.mpr hmem)

/-- The fresh capture records are those of the defined numbers that a step names, when there is a PROFILE stage. -/
theorem Plan.mem_freshCaptures_iff {p : Plan} {r : CaptureRecord} :
    r ∈ p.freshCaptures ↔ Stage.profile ∈ p.stages ∧ ∃ k d, p.captures[k]? = some d ∧ (∃ t ∈ p.steps, t.capture = some k) ∧
      r = CaptureRecord.fresh k d := by
  rw [Plan.freshCaptures]
  by_cases h : p.stages.contains .profile = true
  · rw [if_pos h]
    simp only [List.contains_iff_mem.mp h, true_and, List.mem_filterMap, Prod.exists, List.mem_zipIdx_iff_getElem?,
      Option.ite_none_right_eq_some, Option.some.injEq, List.any_eq_true, decide_eq_true_eq]
    exact ⟨fun ⟨d, k, hd, ht, hr⟩ => ⟨k, d, hd, ht, hr.symm⟩, fun ⟨k, d, hd, ht, hr⟩ => ⟨d, k, hd, ht, hr.symm⟩⟩
  · rw [if_neg h]
    exact iff_of_false List.not_mem_nil fun hr => h (List.contains_iff_mem.mpr hr.1)

theorem Plan.freshCaptures_ascending (p : Plan) : p.freshCaptures.Pairwise fun a b => a.number < b.number := by
  rw [Plan.freshCaptures]
  split
  · refine List.Pairwise.filterMap _ (R := fun a b : CaptureDef × Nat => a.2 < b.2) (fun a b hab r hr r' hr' => ?_) ?_
    · rw [Option.ite_none_right_eq_some] at hr hr'
      obtain ⟨-, hr⟩ := hr
      obtain ⟨-, hr'⟩ := hr'
      cases hr
      cases hr'
      exact hab
    · have hnumbers : (p.captures.zipIdx.map Prod.snd).Pairwise (· < ·) := by
        rw [List.zipIdx_map_snd]
        exact List.pairwise_lt_range'
      exact List.pairwise_map.mp hnumbers
  · exact List.Pairwise.nil

/-- Settles O15: the members of the three lists of records, their order, and that each is pending. -/
theorem startCreatesSectionRecords : Obligations.StartCreatesSectionRecords := by
  intro p
  refine ⟨fun c => ?_, p.freshLeaks_ascending, p.freshRunIn_isSome_iff, fun k => ?_, p.freshCaptures_ascending, fun r hr => ?_,
    fun r hr => ?_, fun r hr => ?_⟩
  · rw [← Plan.leakChambers_has_iff]
    constructor
    · rintro ⟨r, hr, rfl⟩
      exact (Plan.mem_freshLeaks_iff.mp hr).1
    · exact fun hc => ⟨LeakRecord.fresh c, Plan.mem_freshLeaks_iff.mpr ⟨hc, rfl⟩, rfl⟩
  · constructor
    · rintro ⟨r, hr, rfl⟩
      obtain ⟨hprofile, k, d, hd, ht, rfl⟩ := Plan.mem_freshCaptures_iff.mp hr
      exact ⟨hprofile, (List.getElem?_eq_some_iff.mp hd).1, ht⟩
    · rintro ⟨hprofile, hk, ht⟩
      exact ⟨_, Plan.mem_freshCaptures_iff.mpr ⟨hprofile, k, p.captures[k], List.getElem?_eq_getElem hk, ht, rfl⟩, rfl⟩
  · rw [(Plan.mem_freshLeaks_iff.mp hr).2]
    rfl
  · rw [Plan.freshRunIn, Option.mem_def, Option.ite_none_right_eq_some] at hr
    obtain ⟨-, hr⟩ := hr
    cases hr
    rfl
  · obtain ⟨-, k, d, -, -, rfl⟩ := Plan.mem_freshCaptures_iff.mp hr
    rfl

/-! ### The supply sample (R103, R104) -/

/-- The free grant goes to the head of the waiting list. -/
theorem State.arbitrate_of_head {s : State} {x : CircuitId} {rest : List CircuitId} (hholder : s.arbiter.holder = none)
    (hlow : s.arbiter.supplyLow = false) (hwaiting : s.arbiter.waiting = x :: rest) :
    s.arbitrate = (s.modArbiter fun a => { a with holder := some x, waiting := rest }).modCircuit x.nest x.chamber fun k => k.enter .filling := by
  simp only [State.arbitrate, hholder, hlow, hwaiting]

/-- Nothing is granted while the grant is held, the supply is low or none waits. -/
theorem State.arbitrate_of_none {s : State} (h : s.arbiter.holder ≠ none ∨ s.arbiter.supplyLow = true ∨ s.arbiter.waiting = []) :
    s.arbitrate = s := by
  rcases arbitrate_cases s with ⟨x, rest, hholder, hlow, hwaiting, -⟩ | ⟨-, hs⟩
  · rcases h with h | h | h
    · exact absurd hholder h
    · exact nomatch hlow.symm.trans h
    · exact nomatch hwaiting.symm.trans h
  · exact hs

/-- Settles O52: low, sufficient with nothing to grant, sufficient with a head to grant. -/
theorem supplySampleGrantsTheHead : Obligations.SupplySampleGrantsTheHead := by
  refine fun x s => ⟨fun hx => ?_, fun hx hidle => ?_, fun y rest hx hholder hwaiting => ?_⟩ <;>
    refine congrArg Host.Outcome.next (?_ : s.supplySample x = _)
  · rw [State.supplySample, decide_eq_true hx]
    exact State.arbitrate_of_none (.inr (.inl rfl))
  · rw [State.supplySample, decide_eq_false (Int.not_lt.mpr hx)]
    exact State.arbitrate_of_none (hidle.imp_right .inr)
  · rw [State.supplySample, decide_eq_false (Int.not_lt.mpr hx)]
    exact State.arbitrate_of_head hholder rfl hwaiting

/-! ### The sine table and the amplitudes (R140 to R144) -/

theorem sineTable_mirror {i : Nat} (hi : i ≤ 512) : sineTable (512 - i) = sineTable i := by
  unfold sineTable
  rcases Nat.lt_trichotomy i 256 with h | rfl | h
  · rw [if_neg (by omega : ¬ 512 - i ≤ 256), if_pos (by omega : 512 - i ≤ 512), if_pos (by omega : i ≤ 256), Nat.sub_sub_self hi]
  · rfl
  · rw [if_pos (by omega : 512 - i ≤ 256), if_neg (by omega : ¬ i ≤ 256), if_pos hi]

theorem sineTable_of_le {i : Nat} (h : 512 < i) (hi : i ≤ 1024) : sineTable i = -sineTable (1024 - i) := by
  unfold sineTable
  rw [if_neg (by omega : ¬ i ≤ 256), if_neg (by omega : ¬ i ≤ 512)]
  rcases Nat.lt_trichotomy i 768 with h' | rfl | h'
  · rw [if_pos h'.le, if_neg (by omega : ¬ 1024 - i ≤ 256), if_pos (by omega : 1024 - i ≤ 512),
      (by omega : 512 - (1024 - i) = i - 512)]
  · rfl
  · rw [if_neg (by omega : ¬ i ≤ 768), if_pos (by omega : 1024 - i ≤ 256)]

theorem sineTable_opposite {i : Nat} (h : 1 ≤ i) (hi : i ≤ 1023) : sineTable (1024 - i) = -sineTable i := by
  rcases Nat.lt_trichotomy i 512 with h' | rfl | h'
  · rw [sineTable_of_le (by omega : 512 < 1024 - i) (by omega), Nat.sub_sub_self (by omega)]
  · rfl
  · rw [sineTable_of_le h' (by omega), neg_neg]

theorem getD_le_of_forall {xs : List Nat} {m : Nat} (h : ∀ x ∈ xs, x ≤ m) (i : Nat) : xs.getD i 0 ≤ m := by
  rw [List.getD_eq_getElem?_getD]
  rcases hx : xs[i]? with - | x
  · exact Nat.zero_le m
  · exact h x (List.mem_of_getElem? hx)

theorem sineQuarter_le (i : Nat) : sineQuarter i ≤ 32767 := by
  unfold sineQuarter
  split
  · exact getD_le_of_forall (by decide) _
  split
  · exact getD_le_of_forall (by decide) _
  split
  · exact getD_le_of_forall (by decide) _
  · exact getD_le_of_forall (by decide) _

theorem sineTable_bounds (i : Nat) : -32767 ≤ sineTable i ∧ sineTable i ≤ 32767 := by
  have h1 := sineQuarter_le i
  have h2 := sineQuarter_le (512 - i)
  have h3 := sineQuarter_le (i - 512)
  have h4 := sineQuarter_le (1024 - i)
  unfold sineTable
  split_ifs <;> omega

theorem phaseIndex_eq (q n : Nat) : phaseIndex q n = q * n % 1024 := by
  rw [phaseIndex, Nat.mul_assoc]
  omega

/-- The sums of a line over a list of samples, each with its place. -/
theorem lineSums_eq (q : Nat) (xs : List Int) (n : Nat) :
    lineSums q n xs =
      (((List.range xs.length).map fun k => xs.getD k 0 * sineTable ((q * (n + k) + 256) % 1024)).sum,
        ((List.range xs.length).map fun k => xs.getD k 0 * sineTable (q * (n + k) % 1024)).sum) := by
  induction xs generalizing n with
  | nil => rfl
  | cons x xs ih =>
    have hplace (k : Nat) : n + 1 + k = n + (k + 1) := by omega
    simp only [lineSums, ih, phaseIndex_eq, hplace, Nat.mod_add_mod, List.length_cons, List.range_succ_eq_map, List.map_cons, List.map_map,
      List.sum_cons, List.getD_cons_zero, Nat.add_zero]
    rfl

/-- A sum of products of samples and table values. -/
theorem abs_sum_le {xs : List Int} {f : Nat → Nat} (hx : ∀ x ∈ xs, -32768 ≤ x ∧ x ≤ 32767) (is : List Nat) :
    |(is.map fun n => xs.getD n 0 * sineTable (f n)).sum| ≤ is.length * (32768 * 32767) := by
  induction is with
  | nil => simp
  | cons n is ih =>
    have hsample : |xs.getD n 0| ≤ 32768 := by
      rw [List.getD_eq_getElem?_getD]
      rcases hn : xs[n]? with - | x
      · simp
      · obtain ⟨hlo, hhi⟩ := hx x (List.mem_of_getElem? hn)
        exact abs_le.mpr ⟨hlo, hhi.trans (by decide)⟩
    have hterm : |xs.getD n 0 * sineTable (f n)| ≤ 32768 * 32767 := by
      rw [abs_mul]
      exact mul_le_mul hsample (abs_le.mpr (sineTable_bounds _)) (abs_nonneg _) (by decide)
    rw [List.map_cons, List.sum_cons, List.length_cons]
    push_cast
    linarith [abs_add_le (xs.getD n 0 * sineTable (f n)) (is.map fun n => xs.getD n 0 * sineTable (f n)).sum]

/-- A scaled sum of a block of 256 × R samples lies within twice the greatest table value. -/
theorem scaleSum_bounds {shift : Nat} {x : Int} (hshift : 24 ≤ shift) (hx : |x| ≤ 65534 * 2 ^ shift) :
    |scaleSum shift x| ≤ 65534 := by
  obtain ⟨hlo, hhi⟩ := abs_le.mp hx
  have hpow : (2 : Int) ^ shift = 2 * 2 ^ (shift - 1) := by
    rw [← pow_succ', Nat.sub_add_cancel (by omega)]
  have hpos : (0 : Int) < 2 ^ (shift - 1) := by positivity
  rw [scaleSum, hpow, abs_le]
  rw [hpow] at hlo hhi
  generalize (2 : Int) ^ (shift - 1) = h at *
  constructor
  · rw [Int.le_ediv_iff_mul_le (by omega)]
    linarith
  · rw [← Int.lt_add_one_iff, Int.ediv_lt_iff_lt_mul (by omega)]
    linarith

/-- The root of a sum of two squares within the scaled sums' bounds. -/
theorem isqrt_squares {i p : Int} (hi : |i| ≤ 65534) (hp : |p| ≤ 65534) :
    (isqrt (i * i + p * p).toNat : Int) * isqrt (i * i + p * p).toNat ≤ i * i + p * p ∧
      i * i + p * p < ((isqrt (i * i + p * p).toNat : Int) + 1) * ((isqrt (i * i + p * p).toNat : Int) + 1) ∧
      isqrt (i * i + p * p).toNat ≤ 92680 := by
  have hsquare {x : Int} (hx : |x| ≤ 65534) : 0 ≤ x * x ∧ x * x ≤ 65534 * 65534 :=
    ⟨mul_self_nonneg x, by rw [← abs_mul_abs_self]; exact mul_le_mul hx hx (abs_nonneg x) (by decide)⟩
  obtain ⟨hi0, hi⟩ := hsquare hi
  obtain ⟨hp0, hp⟩ := hsquare hp
  obtain ⟨m, hm⟩ := Int.eq_ofNat_of_zero_le (by omega : 0 ≤ i * i + p * p)
  have hmax : m ≤ 2 * (65534 * 65534) := by omega
  obtain ⟨hle, hlt⟩ := isqrt_spec (by omega : m < 2 ^ 48)
  rw [hm, Int.toNat_natCast]
  refine ⟨by exact_mod_cast hle, by exact_mod_cast hlt, ?_⟩
  by_contra hbig
  have h := Nat.mul_le_mul (Nat.le_of_lt (Nat.not_le.mp hbig)) (Nat.le_of_lt (Nat.not_le.mp hbig))
  omega

theorem sumSquares_eq (xs : List Int) : sumSquares xs = (xs.map fun x => x.natAbs * x.natAbs).sum := by
  induction xs with
  | nil => rfl
  | cons x xs ih => rw [sumSquares, ih, List.map_cons, List.sum_cons]

theorem sumSquares_le {xs : List Int} (hx : ∀ x ∈ xs, -32768 ≤ x ∧ x ≤ 32767) : sumSquares xs ≤ xs.length * 2 ^ 30 := by
  induction xs with
  | nil => exact Nat.zero_le _
  | cons x xs ih =>
    obtain ⟨hlo, hhi⟩ := hx x List.mem_cons_self
    have habs : x.natAbs ≤ 2 ^ 15 := by omega
    have hsquare : x.natAbs * x.natAbs ≤ 2 ^ 15 * 2 ^ 15 := Nat.mul_le_mul habs habs
    have hrest := ih fun y hy => hx y (List.mem_cons_of_mem x hy)
    rw [sumSquares, List.length_cons]
    omega

/-- Settles O56: the table's symmetries, the line's sums with their bounds, and the mean square's. -/
theorem orderAmplitudeIsIntegerRoot : Obligations.OrderAmplitudeIsIntegerRoot := by
  refine ⟨⟨by decide, by decide, by decide, by decide, by decide, fun i => sineTable_mirror, fun i => sineTable_opposite⟩,
    fun rev q shift xs i p hrev hlen hxs hi hp => ?_, fun n xs hlen hn hxs => ?_⟩
  · have hshift : amplitudeShift rev = shift ∧ 24 ≤ shift ∧ ((256 * rev : Nat) : Int) * (32768 * 32767) ≤ 65534 * 2 ^ shift := by
      rcases hrev with ⟨rfl, rfl⟩ | ⟨rfl, rfl⟩ | ⟨rfl, rfl⟩ | ⟨rfl, rfl⟩ <;> decide
    obtain ⟨hs, hmin, hmax⟩ := hshift
    have hbound (f : Nat → Nat) :
        |scaleSum shift ((List.range xs.length).map fun n => xs.getD n 0 * sineTable (f n)).sum| ≤ 65534 := by
      have h := abs_sum_le (f := f) hxs (List.range xs.length)
      rw [List.length_range] at h
      rw [← hlen] at hmax
      exact scaleSum_bounds hmin (h.trans hmax)
    have hM : lineAmplitude rev q xs = isqrt (i * i + p * p).toNat := by
      simp only [lineAmplitude, lineSums_eq, Nat.zero_add, hs]
      rw [hi, hp]
      rfl
    rw [hM, hi, hp]
    exact isqrt_squares (hbound _) (hbound _)
  · have hmean : sumSquares xs / n < 2 ^ 48 := by
      have h := sumSquares_le hxs
      rw [hlen] at h
      have hdiv := Nat.div_le_of_le_mul h
      omega
    rw [← sumSquares_eq]
    exact isqrt_spec hmean

end Sys2Proof.Machine
end

section
/-! PROOFS. The bench commands: the readouts, CLEAR_FAULTS, FILE and QUARANTINE. -/

namespace Sys2Proof.Machine

/-! ### Records packed into words (R188) -/

theorem packWords_cons_cons (h l : Byte) (rest : List Byte) : packWords (h :: l :: rest) = (h ++ l) :: packWords rest := rfl

theorem bytes16_append (h l : Byte) : bytes16 (h ++ l) = [h, l] := by
  rw [bytes16, BitVec.extractLsb'_append_eq_left, BitVec.extractLsb'_append_eq_right]

theorem length_packWords : ∀ bytes : List Byte, (packWords bytes).length = (bytes.length + 1) / 2
  | [] => rfl
  | [h] => by rw [packWords, List.length_singleton, List.length_singleton]
  | h :: l :: rest => by
    rw [packWords_cons_cons, List.length_cons, length_packWords rest, List.length_cons, List.length_cons]
    omega

/-- The bytes of the packed words are the record's, and after an odd number of them one 0. -/
theorem flatMap_packWords : ∀ bytes : List Byte,
    (packWords bytes).flatMap bytes16 = bytes ++ if bytes.length % 2 = 1 then [0] else []
  | [] => rfl
  | [h] => by
    have hlast : (packWords [h]).flatMap bytes16 = bytes16 (h ++ (0 : Byte)) := List.flatMap_singleton ..
    rw [hlast, bytes16_append]
    rfl
  | h :: l :: rest => by
    have hlen : (h :: l :: rest).length % 2 = rest.length % 2 := by
      rw [List.length_cons, List.length_cons]
      omega
    rw [packWords_cons_cons, List.flatMap_cons, flatMap_packWords rest, bytes16_append, hlen]
    rfl

/-- An even number of bytes fills its words. -/
theorem packWords_append : ∀ (xs ys : List Byte), xs.length % 2 = 0 → packWords (xs ++ ys) = packWords xs ++ packWords ys
  | [], _, _ => rfl
  | [_], _, h => nomatch h
  | a :: b :: xs, ys, h => by
    have hxs : xs.length % 2 = 0 := by
      rw [List.length_cons, List.length_cons] at h
      omega
    exact congrArg (List.cons _) (packWords_append xs ys hxs)

/-! ### The station readout (R194) -/

section
variable (s : State)

theorem length_padBytes (k : Nat) (bytes : List Byte) : (padBytes k bytes).length = k := by simp [padBytes]

theorem length_reports_readout (q : ReportQueue) : q.readout.length = 15 := by
  simp only [ReportQueue.readout, List.length_append, length_padBytes]
  rfl

theorem length_activity_readout (a : Activity) : a.readout.length = 3 := by cases a <;> rfl

theorem length_nestReadout (n : Nest) : (s.nestReadout n).length = 16 := by
  rw [State.nestReadout]
  cases (s.monitor n).temperature <;> simp only [List.length_append, List.length_cons, length_activity_readout] <;> rfl

theorem length_circuitReadout (n : Nest) (c : Chamber) : (s.circuitReadout n c).length = 12 := by
  have hmean (k : Circuit) (free : Nat) : (k.meanBytes free).length = 4 := by
    rw [Circuit.meanBytes]
    split <;> rfl
  simp only [State.circuitReadout, List.length_append, hmean]
  rfl

theorem length_arbiter_readout (a : Arbiter) : a.readout.length = 5 := by
  simp only [Arbiter.readout, List.length_append, length_padBytes]
  rfl

theorem length_slots_readout (ts : List Slot) : (ts.flatMap Slot.readout).length = 6 * ts.length := by
  induction ts with
  | nil => rfl
  | cons t ts ih =>
    have hslot : t.readout.length = 6 := rfl
    rw [List.flatMap_cons, List.length_append, ih, List.length_cons, hslot]
    omega

theorem length_unit_readout (u : CaptureUnit) : u.readout.length = 5 := by cases u <;> rfl

theorem length_engine_readout (e : Engine) : e.readout.length = 8 := by
  simp only [Engine.readout, List.length_append, length_padBytes]
  rfl

theorem length_zeroReadout (z : Option ZeroInProgress) : (zeroReadout z).length = 5 := by cases z <;> rfl

/-- The station readout without its last byte. -/
def State.stationFront (s : State) : List Byte :=
  s.stationHead ++ s.reports.readout ++ s.plans.toList.map PlanEntry.readout ++
    s.nestReadout .n0 ++ s.nestReadout .n1 ++
    s.circuitReadout .n0 .c0 ++ s.circuitReadout .n0 .c1 ++ s.circuitReadout .n1 .c0 ++ s.circuitReadout .n1 .c1 ++
    s.arbiter.readout ++ s.slots.toList.flatMap Slot.readout ++
    s.units.n0.readout ++ s.units.n1.readout ++ s.engine.readout ++ zeroReadout s.interlock.zero ++
    natBytes16 s.bench.causes.toNat ++ [(BitVec.ofNat 16 s.bench.enableMask.toNat).extractLsb' 8 8]

theorem length_stationFront : s.stationFront.length = 186 := by
  simp only [State.stationFront, List.length_append, length_reports_readout, length_nestReadout, length_circuitReadout, length_arbiter_readout,
    length_slots_readout, length_unit_readout, length_engine_readout, length_zeroReadout, List.length_map, Vector.length_toList]
  rfl

theorem stationReadout_eq :
    s.stationReadout = s.stationFront ++ [(BitVec.ofNat 16 s.bench.enableMask.toNat).extractLsb' 0 8] := by
  rw [State.stationFront, List.append_assoc]
  rfl

/-- The clock stands in the readout's bytes 4 to 7. -/
theorem stationReadout_clock : ∃ a b c d rest, s.stationReadout =
    a :: b :: c :: d :: s.reports.clock.extractLsb' 24 8 :: s.reports.clock.extractLsb' 16 8 :: s.reports.clock.extractLsb' 8 8 ::
      s.reports.clock.extractLsb' 0 8 :: rest := by
  simp only [State.stationReadout, State.stationHead, ReportQueue.readout, natBytes16, bytes16, bytes32, List.cons_append, List.nil_append,
    List.append_assoc]
  exact ⟨_, _, _, _, _, rfl⟩

theorem length_packWords_stationReadout : (packWords s.stationReadout).length = 94 := by
  rw [length_packWords, stationReadout_eq, List.length_append, length_stationFront, List.length_singleton]

theorem packWords_stationReadout_clock :
    (packWords s.stationReadout)[2]? = some (s.reports.clock.extractLsb' 16 16) ∧
      (packWords s.stationReadout)[3]? = some (s.reports.clock.extractLsb' 0 16) := by
  obtain ⟨a, b, c, d, rest, h⟩ := stationReadout_clock s
  rw [h, packWords_cons_cons, packWords_cons_cons, packWords_cons_cons, packWords_cons_cons,
    BitVec.extractLsb'_append_extractLsb'_eq_extractLsb' (by rfl), BitVec.extractLsb'_append_extractLsb'_eq_extractLsb' (by rfl)]
  exact ⟨rfl, rfl⟩

/-- The last byte fills the high half of the last word. -/
theorem packWords_stationReadout_last :
    (packWords s.stationReadout)[93]? = some ((s.bench.enableMask.setWidth 16).extractLsb' 0 8 ++ (0 : Byte)) := by
  have hfront : (packWords s.stationFront).length = 93 := by rw [length_packWords, length_stationFront]
  have hmask : BitVec.ofNat 16 s.bench.enableMask.toNat = s.bench.enableMask.setWidth 16 := BitVec.ofNat_toNat ..
  rw [stationReadout_eq, packWords_append _ _ (by rw [length_stationFront]), List.getElem?_append_right hfront.le, hfront, hmask]
  rfl

end

/-! ### Commands on a free bench port -/

section
variable {b : Byte} {s t : State} {n : Nest} {c : Instr} {code : Byte} {reply : ReplyCode}

theorem withNest_of_none {k : Nest → State → State × ReplyCode} (h : nestOf b = none) : withNest b k s = (s, .badNest) := by
  simp only [withNest, h]

theorem withNest_of_some {k : Nest → State → State × ReplyCode} (h : nestOf b = some n) : withNest b k s = k n s := by
  simp only [withNest, h]

/-- A dossier request as a bench command on a free port: the request's effect, then its answer. -/
theorem commandRow_request_of_benchFree {eff : State → State × ReplyCode} (hs : s.benchFree) (heff : eff s = (t, reply))
    (ht : t.benchFree) : s.commandRow code (benchRequest eff) = { t with bench := t.bench.answered code reply [] } :=
  commandRow_of_benchFree hs (by rw [benchRequest, heff]) ht

/-- A command that fills the output buffer, on a free port. -/
theorem commandRow_filled {eff : State → State × ReplyCode × List Word} {words : List Word} (hs : s.benchFree)
    (heff : eff s = (s.fillOutput words, .accepted, [])) : s.commandRow code eff = { s with bench := s.bench.filled code words } :=
  commandRow_of_benchFree hs heff hs

/-- A request that names no nest, as a bench command. -/
theorem commandRow_badNest {k : Nest → State → State × ReplyCode} (hs : s.benchFree) (hb : nestOf b = none) :
    s.commandRow code (benchRequest (withNest b k)) = { s with bench := s.bench.answered code .badNest [] } :=
  commandRow_request_of_benchFree hs (withNest_of_none hb) hs

/-- A request that names a nest, as a bench command. -/
theorem commandRow_nest {k : Nest → State → State × ReplyCode} (hs : s.benchFree) (hb : nestOf b = some n) (heff : k n s = (t, reply))
    (ht : t.benchFree) : s.commandRow code (benchRequest (withNest b k)) = { t with bench := t.bench.answered code reply [] } :=
  commandRow_request_of_benchFree hs ((withNest_of_some hb).trans heff) ht

/-- Settles O25: the packing of bytes, and each readout's row on a free port. -/
theorem readoutsFillOutputBuffer : Obligations.ReadoutsFillOutputBuffer := by
  refine ⟨fun bytes => ⟨length_packWords bytes, ?_, fun hodd => ?_⟩, fun s hs => ⟨fun b n hb => ?dossier, fun b hb => ?badNest, ?station,
    fun p r hr hp => ?report, fun p hp hlen => ?empty, fun p hp => ?ignored⟩⟩
  · rw [flatMap_packWords, List.take_left']
    rfl
  · rw [flatMap_packWords, List.drop_left' rfl, if_pos hodd]
  case dossier => exact congrArg Host.Outcome.next (commandRow_filled hs (withBenchNest_of_some hb))
  case badNest => exact congrArg Host.Outcome.next (commandRow_of_benchFree hs (withBenchNest_of_none hb) hs)
  case station =>
    obtain ⟨hhigh, hlow⟩ := packWords_stationReadout_clock s
    refine ⟨packWords s.stationReadout, ?_, length_packWords_stationReadout s, hhigh, hlow, packWords_stationReadout_last s⟩
    have heff : readStationCommand s = ({ s.fillOutput (packWords s.stationReadout) with freeCount := s.freeCount + 4 }, .accepted, []) := by
      rw [readStationCommand]
    generalize packWords s.stationReadout = words at heff ⊢
    exact congrArg Host.Outcome.next (commandRow_of_benchFree hs heff hs)
  case report =>
    have heff : readReportCommand p s = (s.fillOutput (packWords r.bytes), .accepted, []) := by
      simp only [readReportCommand, if_neg (Nat.not_lt.mpr hp), hr]
    exact congrArg Host.Outcome.next (commandRow_filled hs heff)
  case empty =>
    have heff : readReportCommand p s = (s, .empty, []) := by
      simp only [readReportCommand, if_neg (Nat.not_lt.mpr hp), List.getElem?_eq_none hlen]
    exact congrArg Host.Outcome.next (commandRow_of_benchFree hs heff hs)
  case ignored => exact congrArg Host.Outcome.next (commandRow_of_benchFree hs (if_pos hp) hs)

/-! ### CLEAR_FAULTS (R176) -/

theorem State.faultHolds_iff (s : State) (n : Nest) (f : FaultCause) : s.faultHolds n f = true ↔ s.conditionStands n f := by
  cases f
  case sensorPressure =>
    simp only [State.faultHolds, State.conditionStands, Bool.or_eq_true]
    exact ⟨fun h => h.elim (fun h => ⟨.c0, h⟩) fun h => ⟨.c1, h⟩, fun ⟨k, hk⟩ => by cases k <;> simp [hk]⟩
  case encoderFault => exact iff_of_false nofun id
  case ventFail => exact iff_of_false nofun id
  all_goals exact Iff.rfl

/-- The causes that a CLEAR_FAULTS keeps. -/
def State.keptFaults (s : State) (n : Nest) : List FaultCause := (s.faultList n).causes.filter (s.faultHolds n)

theorem State.mem_keptFaults_iff (s : State) (n : Nest) (f : FaultCause) :
    f ∈ s.keptFaults n ↔ f ∈ (s.faultList n).causes ∧ s.conditionStands n f := by
  rw [State.keptFaults, List.mem_filter, State.faultHolds_iff]

theorem State.clearedList_of_not_more (h : (s.faultList n).more = false) : s.clearedList n = ⟨s.keptFaults n, false⟩ := by
  simp only [State.clearedList, h, State.keptFaults]

/-- The cause that is missing from a list of the four others. -/
theorem find_missing_fault {causes : List FaultCause} {fifth : FaultCause} (hfifth : fifth ∉ causes) (hothers : ∀ f, f ≠ fifth → f ∈ causes) :
    (FaultCause.all.find? fun f => !causes.contains f) = some fifth := by
  have hcontains (f : FaultCause) : causes.contains f = !decide (f = fifth) := by
    by_cases hf : f = fifth
    · simp [hf, hfifth]
    · simp [hf, hothers f hf]
  simp only [hcontains, Bool.not_not]
  cases fifth <;> rfl

theorem State.clearedList_of_more {fifth : FaultCause} (h : (s.faultList n).more = true) (hfifth : fifth ∉ (s.faultList n).causes)
    (hothers : ∀ f, f ≠ fifth → f ∈ (s.faultList n).causes) :
    s.clearedList n =
      if s.faultHolds n fifth then
        if (s.keptFaults n).length < 4 then ⟨s.keptFaults n ++ [fifth], false⟩ else ⟨s.keptFaults n, true⟩
      else ⟨s.keptFaults n, false⟩ := by
  simp only [State.clearedList, h, find_missing_fault hfifth hothers, State.keptFaults]
  rfl

/-- Settles O18: the kept causes are those whose condition stands; the fifth cause joins them, waits or is dropped. -/
theorem clearFaultsKeepsStandingCauses : Obligations.ClearFaultsKeepsStandingCauses := by
  refine fun b s hs => ⟨fun hb => congrArg Host.Outcome.next (commandRow_of_benchFree hs (withBenchNest_of_none hb) hs),
    fun n hb => ⟨fun hst => ?_, fun hvacant hjudged => ?_⟩⟩
  · have hcleared (l : FaultList) (hl : s.clearedList n = l) : exec (.clearFaults b) s = .next { s with
        interlock := { s.interlock with faults := s.interlock.faults.set n l }, bench := s.bench.answered 0x06 .accepted [] } := by
      have hst' : ¬((s.dossier n).state ≠ .vacant ∧ (s.dossier n).state ≠ .judged) := fun h => hst.elim h.1 h.2
      have heff : clearFaultsCommand b s = (s.setFaultList n l, .accepted, []) := by
        rw [clearFaultsCommand, withBenchNest_of_some hb, if_neg hst', hl]
      exact congrArg Host.Outcome.next (commandRow_of_benchFree hs heff hs)
    refine ⟨s.keptFaults n, List.filter_sublist, s.mem_keptFaults_iff n, fun hmore => hcleared _ (State.clearedList_of_not_more hmore),
      fun fifth hmore hfifth hothers => ?_⟩
    have hlist := State.clearedList_of_more hmore hfifth hothers
    refine ⟨fun hstands hlen => hcleared _ ?_, fun hstands hlen => hcleared _ ?_, fun hstands => hcleared _ ?_⟩
    · rw [hlist, if_pos ((s.faultHolds_iff n fifth).mpr hstands), if_pos hlen]
    · rw [hlist, if_pos ((s.faultHolds_iff n fifth).mpr hstands), if_neg (Nat.not_lt.mpr hlen)]
    · rw [hlist, if_neg fun h => hstands ((s.faultHolds_iff n fifth).mp h)]
  · have heff : clearFaultsCommand b s = (s, .wrongState, []) := by
      rw [clearFaultsCommand, withBenchNest_of_some hb, if_pos ⟨hvacant, hjudged⟩]
    exact congrArg Host.Outcome.next (commandRow_of_benchFree hs heff hs)

/-! ### FILE and QUARANTINE (R17, R18, R31, R150, R154) -/

theorem State.fileDossier_of_room (h : s.reports.reports.length < 16) : s.fileDossier n = s.fileReport n := if_pos h

theorem State.fileDossier_of_full (h : 16 ≤ s.reports.reports.length) : s.fileDossier n =
    { s with
      dossiers := s.dossiers.set n { s.dossier n with filingPending := true }
      reports := { s.reports with filingPending := s.reports.filingPending ++ [n] }
      bench := { s.bench with causes := s.bench.causes ||| AttentionCause.bit .filingBlocked } } := if_neg (Nat.not_lt.mpr h)

theorem State.dossiers_fileReport : (s.fileReport n).dossiers =
    s.dossiers.set n { s.dossier n with state := .filed, reportNumber := some s.reports.nextNumber, filingPending := false } := by
  obtain ⟨plans, h⟩ := State.fileReport_eq s n
  rw [h]

theorem State.bench_fileReport : (s.fileReport n).bench = s.bench := by
  obtain ⟨plans, h⟩ := State.fileReport_eq s n
  rw [h]

theorem State.channels_fileReport : (s.fileReport n).channels = s.channels := by
  obtain ⟨plans, h⟩ := State.fileReport_eq s n
  rw [h]

theorem fileRequest_judged (hb : nestOf b = some n) (hst : (s.dossier n).state = .judged) (hpending : (s.dossier n).filingPending = false) :
    fileRequest b s = (s.fileDossier n, .accepted) := by
  rw [fileRequest, withNest_of_some hb, if_neg (not_not_intro hst), if_neg (Bool.eq_false_iff.mp hpending)]

/-- Settles O17: the refusals and the three effects of FILE, and the flag of QUARANTINE. -/
theorem fileAndQuarantineAct : Obligations.FileAndQuarantineAct := by
  refine fun b s hs => ⟨fun hb => ⟨congrArg Host.Outcome.next (commandRow_badNest hs hb), congrArg Host.Outcome.next (commandRow_badNest hs hb)⟩,
    fun n hb => ⟨fun hst hpending hroom => ?room, fun hst hpending hfull => ?full, fun hst hpending => ?pending, fun hst => ?wrongState,
      fun hvacant hfiled => ?quarantine, fun hst => ?refused⟩⟩
  case room =>
    have heff : fileRequest b s = (s.fileReport n, .accepted) := by
      rw [fileRequest_judged hb hst hpending, State.fileDossier_of_room hroom]
    have hfree : (s.fileReport n).benchFree := by
      rw [State.benchFree, State.bench_fileReport]
      exact hs
    refine ⟨_, _, congrArg Host.Outcome.next (commandRow_request_of_benchFree hs heff hfree),
      congrArg ReportQueue.reports State.reports_fileReport, rfl, rfl, rfl, rfl, rfl, rfl,
      congrArg ReportQueue.nextNumber State.reports_fileReport, State.dossiers_fileReport, fun v => State.planEntry_fileReport v,
      State.channels_fileReport, ?_⟩
    exact congrArg (fun x : Bench => x.answered 0x04 .accepted []) State.bench_fileReport
  case full =>
    have heff := (fileRequest_judged hb hst hpending).trans (congrArg (·, ReplyCode.accepted) (State.fileDossier_of_full hfull))
    exact congrArg Host.Outcome.next (commandRow_request_of_benchFree hs heff hs)
  case pending =>
    have heff : fileRequest b s = (s, .accepted) := by
      rw [fileRequest, withNest_of_some hb, if_neg (not_not_intro hst), if_pos hpending]
    exact congrArg Host.Outcome.next (commandRow_request_of_benchFree hs heff hs)
  case wrongState => exact congrArg Host.Outcome.next (commandRow_nest hs hb (if_pos hst) hs)
  case quarantine =>
    have hst : ¬((s.dossier n).state = .vacant ∨ (s.dossier n).state = .filed) := fun h => h.elim hvacant hfiled
    exact congrArg Host.Outcome.next (commandRow_nest (t := s.modDossier n fun d => { d with quarantine := true }) hs hb (if_neg hst) hs)
  case refused => exact congrArg Host.Outcome.next (commandRow_nest hs hb (if_pos hst) hs)

end

end Sys2Proof.Machine
end

section
/-! PROOFS. The requests of the dossier table that begin a test or free a nest: CLAMPED, START, RETEST, RELEASE. -/

namespace Sys2Proof.Machine

section
variable {s t : State} {n : Nest} {p : Plan}

/-! ### The beginning of a stage (R22) -/

/-- The walk stops at the first position that is not skipped, when its stage goes on. -/
theorem State.walkStages_begins {st : Stage} {i : Nat} {later : List (Stage × Nat)} (hskip : i ∉ (s.dossier n).skipped)
    (hbegin : (s.modDossier n fun d => { d with stageIndex := some i, lastBegun := some i }).beginStage n p st = (t, false)) :
    s.walkStages n p ((st, i) :: later) = t := by
  have hnot : ¬((s.dossier n).skipped.contains i = true) := fun h => hskip (List.contains_iff_mem.mp h)
  simp only [State.walkStages, if_neg hnot, hbegin, Bool.false_eq_true, if_false]

/-- The ENGAGE stage begins with the first attempt of the mask, or waits for the permit (R69). -/
theorem State.beginStage_engage {a : Attempt} {as : List Attempt} (ha : attemptsOf p.attemptsMask = a :: as) :
    s.beginStage n p .engage =
      ({ s with
          dossiers := s.dossiers.set n { s.dossier n with runIn := (s.dossier n).runIn.map fun r => { r with attemptUsed := 0 } }
          channels := s.channels.set n ((s.channel n).engageBegun s.interlock.permitLive a) }, false) := by
  simp only [State.beginStage, ha, State.setActivity, State.modChannel, State.modDossier, PerNest.mod, PerNest.get_set_same, PerNest.set_set]
  rfl

/-- The first chamber of a set that holds one. -/
def ChamberSet.first (m : ChamberSet) : Chamber := if m.c0 then .c0 else .c1

theorem ChamberSet.isEmpty_eq_false {m : ChamberSet} {c : Chamber} (h : m.has c = true) : m.isEmpty = false := by
  cases c <;> simp only [ChamberSet.has] at h <;> simp [ChamberSet.isEmpty, h]

theorem ChamberSet.has_inter (a b : ChamberSet) (c : Chamber) : (a.inter b).has c = (a.has c && b.has c) := by cases c <;> rfl

/-- The circuit of a chamber after a change of one circuit. -/
theorem State.circuit_modCircuit (m : Nest) (c d : Chamber) (f : Circuit → Circuit) :
    (s.modCircuit n c f).circuit m d = if m = n ∧ d = c then f (s.circuit m d) else s.circuit m d := by
  by_cases h : m = n ∧ d = c
  · obtain ⟨rfl, rfl⟩ := h
    rw [if_pos ⟨rfl, rfl⟩, State.circuit_modCircuit_same]
  · rw [if_neg h]
    refine State.circuit_modCircuit_ne s f ?_
    by_cases hm : m = n
    · exact .inr fun hd => h ⟨hm, hd⟩
    · exact .inl hm

/-- A grant changes the arbiter and the circuits alone. -/
theorem State.arbitrate_frame (s : State) : ∃ a cs, s.arbitrate = { s with arbiter := a, circuits := cs } := by
  rcases arbitrate_cases s with ⟨x, rest, -, -, -, h⟩ | ⟨-, h⟩ <;> exact ⟨_, _, h⟩

/-- A grant leaves a circuit as it is or has it enter FILLING from the list. -/
theorem State.circuit_arbitrate (s : State) (n : Nest) (c : Chamber) :
    s.arbitrate.circuit n c = s.circuit n c ∨ ⟨n, c⟩ ∈ s.arbiter.waiting ∧ s.arbitrate.circuit n c = (s.circuit n c).enter .filling := by
  rcases arbitrate_cases s with ⟨x, rest, -, -, hwaiting, h⟩ | ⟨-, h⟩
  · rw [h, State.circuit_modCircuit]
    by_cases hx : n = x.nest ∧ c = x.chamber
    · obtain ⟨rfl, rfl⟩ := hx
      exact .inr ⟨hwaiting ▸ List.mem_cons_self, if_pos ⟨rfl, rfl⟩⟩
    · rw [if_neg hx]
      exact .inl rfl
  · exact .inl (congrArg (fun t : State => t.circuit n c) h)

/-- With no ZERO in progress a request for air is the circuit's and the arbiter's change. -/
theorem State.requestAir_of_noZero {c : Chamber} (hzero : s.interlock.zero = none) (set : LeakSetIx) :
    s.requestAir n c set =
      (s.modCircuit n c fun k => { k.enter .waitingAir with leakSet := some set }).modArbiter fun a =>
        { a with waiting := a.waiting ++ [⟨n, c⟩] } := by
  have htargets : ((s.modCircuit n c fun k => { k.enter .waitingAir with leakSet := some set }).modArbiter fun a =>
      { a with waiting := a.waiting ++ [⟨n, c⟩] }).zeroTargets n (.chamber c) = false := by
    simp only [State.zeroTargets, State.modArbiter_interlock, State.modCircuit_interlock, hzero]
  rw [State.requestAir, State.endZeroOnLeavingIdle, htargets]
  rfl

section
variable {c : Chamber}

theorem State.circuit_requestAir (hzero : s.interlock.zero = none) (set : LeakSetIx) :
    (s.requestAir n c set).circuit n c = { s.circuit n c with state := .waitingAir, count := 0, leakSet := some set } := by
  rw [State.requestAir_of_noZero hzero]
  exact State.circuit_modCircuit_same s n c fun k => { k.enter .waitingAir with leakSet := some set }

theorem State.arbiter_requestAir (hzero : s.interlock.zero = none) (set : LeakSetIx) :
    (s.requestAir n c set).arbiter = { s.arbiter with waiting := s.arbiter.waiting ++ [⟨n, c⟩] } := by
  rw [State.requestAir_of_noZero hzero]
  rfl

theorem State.requestAir_frame (hzero : s.interlock.zero = none) (set : LeakSetIx) :
    ∃ a cs, s.requestAir n c set = { s with arbiter := a, circuits := cs } :=
  ⟨_, _, State.requestAir_of_noZero hzero set⟩

end

/-- Set the result given of a measured chamber's circuit to no (R106). -/
def State.clearGiven (s : State) (n : Nest) (c : Chamber) (measured : Bool) : State :=
  if measured then s.modCircuit n c fun k => { k with resultGiven := false } else s

theorem State.clearGiven_frame (s : State) (n : Nest) (c : Chamber) (b : Bool) :
    ∃ cs, s.clearGiven n c b = { s with circuits := cs } := by
  cases b <;> exact ⟨_, rfl⟩

theorem State.circuit_clearGiven (c d : Chamber) (b : Bool) :
    (s.clearGiven n c b).circuit n d = if d = c ∧ b = true then { s.circuit n d with resultGiven := false } else s.circuit n d := by
  cases b
  · simp [State.clearGiven]
  · simp [State.clearGiven, State.circuit_modCircuit]

/-- The LEAK stage with its results cleared and its chambers recorded, before the first one requests air (R106). -/
def State.leakPrepared (s : State) (n : Nest) (m : ChamberSet) (set : LeakSetIx) : State :=
  ((s.clearGiven n .c0 m.c0).clearGiven n .c1 m.c1).setLeakStage n (some ⟨m, set, if m.c0 && m.c1 then some .c1 else none⟩)

theorem State.leakPrepared_frame (m : ChamberSet) (set : LeakSetIx) : ∃ cs, s.leakPrepared n m set =
    { s with
      circuits := cs, leakStages := s.leakStages.set n (some ⟨m, set, if m.c0 && m.c1 then some .c1 else none⟩) } := by
  obtain ⟨cs, h⟩ := State.clearGiven_frame s n .c0 m.c0
  obtain ⟨cs', h'⟩ := State.clearGiven_frame (s.clearGiven n .c0 m.c0) n .c1 m.c1
  refine ⟨cs', ?_⟩
  rw [State.leakPrepared, h', h]
  rfl

theorem State.resultGiven_leakPrepared {m : ChamberSet} {c : Chamber} (hc : m.has c = true) (set : LeakSetIx) :
    ((s.leakPrepared n m set).circuit n c).resultGiven = false := by
  show (((s.clearGiven n .c0 m.c0).clearGiven n .c1 m.c1).circuit n c).resultGiven = false
  rw [State.circuit_clearGiven, State.circuit_clearGiven]
  cases c <;> simp only [ChamberSet.has] at hc <;> simp [hc]

theorem State.beginLeak_eq {mask m : ChamberSet} {c : Chamber} (hm : mask.inter (s.dossier n).leakScope = m)
    (hc : m.has c = true) (hfirst : c = .c1 → m.c0 = false) (set : LeakSetIx) :
    s.beginLeak n mask set = ((s.leakPrepared n m set).requestAir n c set).arbitrate := by
  subst hm
  cases c
  · exact congrArg State.arbitrate (if_pos hc)
  · exact congrArg State.arbitrate (if_neg (Bool.eq_false_iff.mp (hfirst rfl)))

/-- What the beginning of a LEAK stage does (R106): the stage recorded, its first chamber waiting for air or granted it. -/
structure LeakBegun (s t : State) (n : Nest) (m : ChamberSet) (set : LeakSetIx) (c : Chamber) : Prop where
  frame : ∃ a cs, t =
    { s with
      arbiter := a, circuits := cs, leakStages := s.leakStages.set n (some ⟨m, set, if m.c0 && m.c1 then some .c1 else none⟩) }
  leakSet : (t.circuit n c).leakSet = some set
  count : (t.circuit n c).count = 0
  resultGiven : (t.circuit n c).resultGiven = false
  state : (t.circuit n c).state = .waitingAir ∨ (t.circuit n c).state = .filling
  granted : s.arbiter = ⟨none, [], false⟩ → (t.circuit n c).state = .filling ∧ t.arbiter = ⟨some ⟨n, c⟩, [], false⟩
  waits : (s.arbiter.holder ≠ none ∨ s.arbiter.supplyLow = true) →
    (t.circuit n c).state = .waitingAir ∧ t.arbiter = { s.arbiter with waiting := s.arbiter.waiting ++ [⟨n, c⟩] }

theorem State.beginLeak_begun {mask m : ChamberSet} {c : Chamber} (hm : mask.inter (s.dossier n).leakScope = m)
    (hc : m.has c = true) (hfirst : c = .c1 → m.c0 = false) (hzero : s.interlock.zero = none) (set : LeakSetIx) :
    LeakBegun s (s.beginLeak n mask set) n m set c := by
  rw [State.beginLeak_eq hm hc hfirst]
  obtain ⟨cs, hprep⟩ := State.leakPrepared_frame (s := s) (n := n) m set
  have hzero' : (s.leakPrepared n m set).interlock.zero = none := by rw [hprep]; exact hzero
  have hgiven := State.resultGiven_leakPrepared (s := s) (n := n) hc set
  have harbiter := State.arbiter_requestAir (n := n) (c := c) hzero' set
  have hcircuit := State.circuit_requestAir (n := n) (c := c) hzero' set
  obtain ⟨a₁, cs₁, hrequest⟩ := State.requestAir_frame (n := n) (c := c) hzero' set
  have hsame : (s.leakPrepared n m set).arbiter = s.arbiter := by rw [hprep]
  rw [hsame] at harbiter
  generalize (s.leakPrepared n m set).requestAir n c set = r at *
  obtain ⟨a₂, cs₂, hgrant⟩ := State.arbitrate_frame r
  refine { frame := ⟨a₂, cs₂, by rw [hgrant, hrequest, hprep]⟩, leakSet := ?leakSet, count := ?count,
           resultGiven := ?resultGiven, state := ?state, granted := fun hfree => ?granted, waits := fun hbusy => ?waits }
  case granted =>
    rw [hfree] at harbiter
    have h := State.arbitrate_of_head (s := r) (x := ⟨n, c⟩) (rest := []) (by rw [harbiter]) (by rw [harbiter]) (by rw [harbiter]; rfl)
    rw [h]
    refine ⟨congrArg Circuit.state (State.circuit_modCircuit_same ..), ?_⟩
    show (⟨some ⟨n, c⟩, [], r.arbiter.supplyLow⟩ : Arbiter) = _
    rw [harbiter]
  case waits =>
    have h : r.arbitrate = r := State.arbitrate_of_none (by rw [harbiter]; exact hbusy.imp_right .inl)
    rw [h, hcircuit]
    exact ⟨rfl, harbiter⟩
  all_goals
    rcases State.circuit_arbitrate r n c with h | ⟨-, h⟩ <;> rw [h, hcircuit]
  case leakSet.inr | count.inr => rfl
  case resultGiven.inl | resultGiven.inr => exact hgiven
  case state.inl => exact .inl rfl
  case state.inr => exact .inr rfl

/-- A LEAK stage begins when a chamber of its mask is in scope, its first such chamber first (R22, R106). -/
theorem State.beginStage_leak {mask m : ChamberSet} {c : Chamber} (hm : mask.inter (s.dossier n).leakScope = m)
    (hc : m.has c = true) (hfirst : c = .c1 → m.c0 = false) (hzero : s.interlock.zero = none) (set : LeakSetIx) :
    ∃ t, s.beginStage n p (.leak mask set) = (t, false) ∧ LeakBegun s t n m set c := by
  refine ⟨s.beginLeak n mask set, ?_, State.beginLeak_begun hm hc hfirst hzero set⟩
  rw [State.beginStage, hm, if_neg (Bool.eq_false_iff.mp (ChamberSet.isEmpty_eq_false hc))]

/-! ### The start (R4, R13) -/

/-- The fresh run-in record names no attempt. -/
theorem Plan.freshRunIn_attemptUsed (p : Plan) : (p.freshRunIn.map fun r => { r with attemptUsed := 0 }) = p.freshRunIn := by
  rw [Plan.freshRunIn]
  split <;> rfl

/-- A start whose first stage is ENGAGE. -/
theorem State.startDossier_engage {a : Attempt} {as : List Attempt} {rest : List Stage} (hp : s.planOf n = some p)
    (hstages : p.stages = .engage :: rest) (ha : attemptsOf p.attemptsMask = a :: as) :
    s.startDossier n = { s with
      dossiers := s.dossiers.set n ((s.dossier n).startedFields p (s.classOf n))
      channels := s.channels.set n ((s.channel n).engageBegun s.interlock.permitLive a) } := by
  simp only [State.startDossier, hp, hstages, List.zipIdx_cons]
  refine State.walkStages_begins ?_ ((State.beginStage_engage ha).trans (congrArg (·, false) ?_))
  · rw [State.dossier_modDossier_same]
    exact List.not_mem_nil
  · simp only [State.modDossier, State.dossier, PerNest.mod, PerNest.get_set_same, PerNest.set_set, Dossier.started, Dossier.startedFields,
      Plan.freshRunIn_attemptUsed]
    rfl

/-- The chambers that a LEAK stage of the list names are in the scope of a start. -/
theorem Plan.inter_leakChambers {m : ChamberSet} {set : LeakSetIx} (h : Stage.leak m set ∈ p.stages) : m.inter p.leakChambers = m := by
  have hscope (c : Chamber) (hc : m.has c = true) : p.leakChambers.has c = true := (p.leakChambers_has_iff c).mpr ⟨m, set, h, hc⟩
  have h0 := hscope .c0
  have h1 := hscope .c1
  obtain ⟨c0, c1⟩ := m
  cases c0 <;> cases c1 <;> simp_all [ChamberSet.inter, ChamberSet.has]

/-- The machine of a start before its first stage begins. -/
def State.startRecorded (s : State) (n : Nest) (p : Plan) : State :=
  { s with dossiers := s.dossiers.set n ((s.dossier n).startedFields p (s.classOf n)) }

/-- A stage that the list names is in the scope of a start. -/
theorem State.inter_leakScope_startRecorded {m : ChamberSet} {set : LeakSetIx} (h : Stage.leak m set ∈ p.stages) :
    m.inter ((s.startRecorded n p).dossier n).leakScope = m := by
  rw [State.startRecorded, State.dossier, PerNest.get_set_same]
  exact Plan.inter_leakChambers h

theorem State.startDossier_eq_beginLeak {m : ChamberSet} {set : LeakSetIx} {c : Chamber} {rest : List Stage} (hp : s.planOf n = some p)
    (hstages : p.stages = .leak m set :: rest) (hc : m.has c = true) :
    s.startDossier n = (s.startRecorded n p).beginLeak n m set := by
  have hfields : (s.modDossier n fun d => d.started p (s.classOf n)).modDossier n
      (fun d => { d with stageIndex := some 0, lastBegun := some 0 }) = s.startRecorded n p := by
    simp only [State.modDossier, PerNest.mod, PerNest.get_set_same, PerNest.set_set]
    rfl
  have hscope := State.inter_leakScope_startRecorded (s := s) (n := n) (p := p) (m := m) (set := set) (by rw [hstages]; exact List.mem_cons_self)
  simp only [State.startDossier, hp, hstages, List.zipIdx_cons]
  refine State.walkStages_begins ?_ ?_
  · rw [State.dossier_modDossier_same]
    exact List.not_mem_nil
  · rw [hfields, State.beginStage, hscope, if_neg (Bool.eq_false_iff.mp (ChamberSet.isEmpty_eq_false hc))]

/-- A start whose first stage is LEAK. -/
theorem State.startDossier_leak {m : ChamberSet} {set : LeakSetIx} {c : Chamber} {rest : List Stage} (hp : s.planOf n = some p)
    (hstages : p.stages = .leak m set :: rest) (hc : m.has c = true) (hfirst : c = .c1 → m.c0 = false) (hzero : s.interlock.zero = none) :
    LeakBegun { s with dossiers := s.dossiers.set n ((s.dossier n).startedFields p (s.classOf n)) } (s.startDossier n) n m set c := by
  rw [State.startDossier_eq_beginLeak hp hstages hc]
  exact State.beginLeak_begun (State.inter_leakScope_startRecorded (by rw [hstages]; exact List.mem_cons_self)) hc hfirst hzero set

section
variable {b : Byte} {reply : ReplyCode}

/-- Settles O14: the refusals in order, and the two first stages of a start. -/
theorem startBeginsTest : Obligations.StartBeginsTest := by
  refine fun b s hs => ⟨fun hb => congrArg Host.Outcome.next (commandRow_badNest hs hb), fun n hb => ?_⟩
  have hrow {t : State} {reply : ReplyCode} (heff : startRequest b s = (t, reply)) (ht : t.bench = s.bench) :
      exec (.start b) s = .next { t with bench := s.bench.answered 0x01 reply [] } := by
    have hfree : t.benchFree := by rw [State.benchFree, ht]; exact hs
    rw [← ht]
    exact congrArg Host.Outcome.next (commandRow_request_of_benchFree hs heff hfree)
  refine ⟨fun hst => ?wrongState, fun hst hclamped => ?notClamped, fun hst hclamped hfaults => ?nestFault,
    fun hst hclamped hfaults hestop => ?estop, fun p hst hclamped hfaults hestop hp => ?begun⟩
  case wrongState => exact hrow ((withNest_of_some hb).trans (if_pos hst)) rfl
  case notClamped =>
    refine hrow (t := s) (reply := .notClamped) ?_ rfl
    rw [startRequest, withNest_of_some hb, if_neg (not_not_intro hst), hclamped]
    rfl
  case nestFault =>
    refine hrow (t := s) (reply := .nestFault) ?_ rfl
    have hempty : (s.faultList n).causes.isEmpty = false := List.isEmpty_eq_false_iff.mpr hfaults
    rw [startRequest, withNest_of_some hb, if_neg (not_not_intro hst), hclamped, hempty]
    rfl
  case estop =>
    refine hrow (t := s) (reply := .estopActive) ?_ rfl
    rw [startRequest, withNest_of_some hb, if_neg (not_not_intro hst), hclamped, hfaults, hestop]
    rfl
  case begun =>
    have heff : startRequest b s = (s.startDossier n, .accepted) := by
      rw [startRequest, withNest_of_some hb, if_neg (not_not_intro hst), hclamped, hfaults, hestop]
      rfl
    refine ⟨fun a as rest hstages ha => ?_, fun m set rest c hstages hcdef hc hzero => ?_⟩
    · rw [State.startDossier_engage hp hstages ha] at heff
      exact hrow heff rfl
    · have hfirst (h1 : c = .c1) : m.c0 = false := by
        cases h0 : m.c0
        · rfl
        · rw [h0, h1] at hcdef
          exact nomatch hcdef
      have hbegun := State.startDossier_leak hp hstages hc hfirst hzero
      obtain ⟨a, cs, hframe⟩ := hbegun.frame
      refine ⟨_, hrow heff (by rw [hframe]), ?_, ?_, rfl, ?_, hbegun.leakSet, hbegun.count, hbegun.resultGiven, hbegun.granted, hbegun.waits⟩ <;>
        rw [hframe]

/-! ### CLAMPED (R10, R11) -/

/-- A dossier request as a cell link row on a free link: the request's effect, then its reply. -/
theorem frameRow_request_of_linkFree {t : State} {kind : Byte} {payload : List Byte} {eff : State → State × ReplyCode}
    (hs : s.linkFree .cell) (hp : payload.length ≤ 1024) (heff : eff s = (t, reply)) (hlinks : t.links = s.links) :
    s.frameRow .cell kind payload (linkRequest eff) = { t with links := s.links.set .cell (replying kind payload reply []) } :=
  frameRow_of_linkFree hs hp (by rw [linkRequest, heff]) hlinks

theorem exec_clamped_of_linkFree {t : State} (hs : s.linkFree .cell) (heff : clampedRequest b s = (t, reply)) (hlinks : t.links = s.links) :
    exec (.clamped b) s = .next { t with links := s.links.set .cell (replying 0x11 [b] reply []) } :=
  congrArg Host.Outcome.next (frameRow_request_of_linkFree hs (by simp) heff hlinks)

theorem exec_release_of_linkFree {t : State} (hs : s.linkFree .cell) (heff : releaseRequest b s = (t, reply)) (hlinks : t.links = s.links) :
    exec (.release b) s = .next { t with links := s.links.set .cell (replying 0x12 [b] reply []) } :=
  congrArg Host.Outcome.next (frameRow_request_of_linkFree hs (by simp) heff hlinks)

/-- The condition of R11 by its parts. -/
theorem State.autoStartHolds_iff (hp : s.planOf n = some p) : s.autoStartHolds n = true ↔
    (s.dossier n).state = .opened ∧ (s.dossier n).clamped = true ∧ p.autoStart = true ∧ s.interlock.estop = false ∧
      (s.faultList n).causes = [] := by
  simp only [State.autoStartHolds, hp, Option.any_some, Bool.and_eq_true, beq_iff_eq, Bool.not_eq_true', List.isEmpty_iff, and_assoc]

/-- Settles O6: the refusals, the flag already set, the flag alone, and the auto-start with ENGAGE first. -/
theorem clampedSetsFlagAndAutoStarts : Obligations.ClampedSetsFlagAndAutoStarts := by
  refine fun b s hs => ⟨fun hb => exec_clamped_of_linkFree hs (withNest_of_none hb) rfl, fun n hb => ⟨fun hst => ?_, fun hst hclamped => ?_,
    fun p hst hclamped hp => ?_⟩⟩
  · exact exec_clamped_of_linkFree hs ((withNest_of_some hb).trans (if_pos hst)) rfl
  · refine exec_clamped_of_linkFree hs (t := s) (reply := .accepted) ?_ rfl
    rw [clampedRequest, withNest_of_some hb, if_neg (not_not_intro hst), if_pos hclamped]
  · generalize hu : ({ s with dossiers := s.dossiers.set n { s.dossier n with clamped := true } } : State) = u
    have heff : clampedRequest b s = (u.autoStart n, .accepted) := by
      rw [clampedRequest, withNest_of_some hb, if_neg (not_not_intro hst), if_neg (Bool.eq_false_iff.mp hclamped), ← hu]
      rfl
    have hd : u.dossier n = { s.dossier n with clamped := true } := by
      rw [← hu]
      exact PerNest.get_set_same ..
    have hplan : u.planOf n = some p := by
      rw [← hp, State.planOf, hd, ← hu]
      rfl
    have hholds : u.autoStartHolds n = true ↔ p.autoStart = true ∧ s.interlock.estop = false ∧ (s.faultList n).causes = [] := by
      rw [State.autoStartHolds_iff hplan, hd, ← hu]
      exact ⟨fun h => h.2.2, fun h => ⟨hst, rfl, h⟩⟩
    refine ⟨fun hnot => ?_, fun a as rest hauto hestop hfaults hstages ha => ?_⟩
    · have hoff : ¬(u.autoStartHolds n = true) := by
        rw [hholds]
        rintro ⟨hauto, hestop, hfaults⟩
        rcases hnot with h | h | h
        · exact nomatch h.symm.trans hauto
        · exact nomatch h.symm.trans hestop
        · exact h hfaults
      rw [State.autoStart, if_neg hoff, ← hu] at heff
      exact exec_clamped_of_linkFree hs heff rfl
    · rw [State.autoStart, if_pos (hholds.mpr ⟨hauto, hestop, hfaults⟩), State.startDossier_engage hplan hstages ha, hd, ← hu] at heff
      refine (exec_clamped_of_linkFree hs heff rfl).trans ?_
      simp only [PerNest.set_set]
      rfl

/-! ### RELEASE (R15, R16) -/

theorem State.nestAtRest_iff : (s.circuitsIdle n && s.driveAtRest n) = true ↔ s.nestAtRest n := by
  simp only [State.circuitsIdle, State.driveAtRest, State.nestAtRest, Bool.and_eq_true, beq_iff_eq, Bool.not_eq_true']
  constructor
  · rintro ⟨⟨h0, h1⟩, henable, hset⟩
    exact ⟨henable, hset, fun c => by cases c <;> assumption⟩
  · rintro ⟨henable, hset, hidle⟩
    exact ⟨⟨hidle .c0, hidle .c1⟩, henable, hset⟩

/-- Settles O7: the checks in order, and the two entries to VACANT. -/
theorem releaseFreesNest : Obligations.ReleaseFreesNest := by
  refine fun b s hs => ⟨fun hb => exec_release_of_linkFree hs (withNest_of_none hb) rfl, fun n hb => ?_⟩
  refine ⟨fun hst => ?vacant, fun hst => ?notFiled, fun hst hrest => ?active, fun hst hrest => ?filed, fun hst hrest hroom => ?untested,
    fun hst hrest hfull => ?full⟩
  case vacant => exact exec_release_of_linkFree hs ((withNest_of_some hb).trans (if_pos hst)) rfl
  case notFiled =>
    refine exec_release_of_linkFree hs (t := s) (reply := .notFiled) ?_ rfl
    rw [releaseRequest, withNest_of_some hb]
    rcases hst with hst | hst | hst <;> simp only [hst, reduceCtorEq, if_false, ne_eq, not_false_eq_true, and_self, if_true]
  case active =>
    refine exec_release_of_linkFree hs (t := s) (reply := .chambersActive) ?_ rfl
    have hbusy : (s.circuitsIdle n && s.driveAtRest n) = false := Bool.eq_false_iff.mpr fun h => hrest (State.nestAtRest_iff.mp h)
    rw [releaseRequest, withNest_of_some hb]
    rcases hst with hst | hst <;> simp only [hst, hbusy, reduceCtorEq, if_false, ne_eq, not_false_eq_true, not_true_eq_false, and_false,
      false_and, Bool.not_false, if_true]
  case filed =>
    refine exec_release_of_linkFree hs (t := s.vacate n) (reply := .accepted) ?_ rfl
    simp only [releaseRequest, withNest_of_some hb, hst, State.nestAtRest_iff.mpr hrest, reduceCtorEq, if_false, ne_eq, not_true_eq_false, and_false,
      Bool.not_true, Bool.false_eq_true, if_true]
  case untested =>
    generalize hu : (s.modDossier n fun d => d.releasedUntested s.reports.clock (s.classOf n)) = u
    have heff : releaseRequest b s = ((u.fileReport n).vacate n, .accepted) := by
      simp only [releaseRequest, withNest_of_some hb, hst, State.nestAtRest_iff.mpr hrest, reduceCtorEq, if_false, ne_eq, not_true_eq_false,
        not_false_eq_true, false_and, Bool.not_true, Bool.false_eq_true, queueCapacity, Nat.not_le.mpr hroom, hu]
    have hd : u.dossier n = (s.dossier n).releasedUntested s.reports.clock (s.classOf n) := by
      rw [← hu]
      exact State.dossier_modDossier_same ..
    have hplan (v : Fin 32) : ((u.fileReport n).vacate n).planEntry v =
        if (s.dossier n).variant = some v then { s.planEntry v with inUse := (s.planEntry v).inUse - 1 } else s.planEntry v := by
      refine (State.planEntry_fileReport v).trans ?_
      rw [hd, ← hu]
      rfl
    obtain ⟨plans, hfile⟩ := State.fileReport_eq u n
    have hdossiers : ((u.fileReport n).vacate n).dossiers = s.dossiers.set n Dossier.vacant := by
      rw [hfile, ← hu]
      simp only [State.vacate, State.modDossier, PerNest.mod, PerNest.set_set]
    have hlinks : ((u.fileReport n).vacate n).links = s.links := by
      rw [hfile, ← hu]
      rfl
    have hreports : ((u.fileReport n).vacate n).reports = (u.fileReport n).reports := rfl
    have hqueue : u.reports = s.reports := by rw [← hu]; rfl
    rw [State.reports_fileReport, hqueue, hd] at hreports
    refine ⟨_, _, exec_release_of_linkFree hs heff hlinks, hdossiers, congrArg ReportQueue.reports hreports,
      congrArg ReportQueue.nextNumber hreports, rfl, rfl, rfl, rfl, rfl, rfl, rfl, rfl, rfl, rfl, fun v hv => ?_, rfl⟩
    exact congrArg PlanEntry.inUse ((hplan v).trans (if_pos hv))
  case full =>
    refine exec_release_of_linkFree hs (t := s) (reply := .queueFull) ?_ rfl
    simp only [releaseRequest, withNest_of_some hb, hst, State.nestAtRest_iff.mpr hrest, reduceCtorEq, if_false, ne_eq, not_true_eq_false,
      not_false_eq_true, false_and, Bool.not_true, Bool.false_eq_true, queueCapacity, hfull, if_true]

end

end

end Sys2Proof.Machine
end

section
/-! PROOFS. RETEST: what it makes pending, what it keeps, and the stage it begins with. -/

namespace Sys2Proof.Machine

section
variable {s : State} {n : Nest} {p : Plan} {d : Dossier}

/-! ### The scope of a retest (R20, R148) -/

/-- With one record for each chamber, a chamber is in the leak scope exactly when its record is not PASS. -/
theorem Dossier.retestLeaks_of_mem {l : LeakRecord} (hnodup : (d.leaks.map LeakRecord.chamber).Nodup) (hl : l ∈ d.leaks) :
    d.retestLeaks.has l.chamber = !isPass l.given := by
  have hhas (c : Chamber) : d.retestLeaks.has c = d.leaks.any fun r => r.chamber = c && !isPass r.given := by cases c <;> rfl
  rw [hhas, Bool.eq_iff_iff, List.any_eq_true]
  constructor
  · rintro ⟨r, hr, h⟩
    obtain ⟨hchamber, hpass⟩ := Bool.and_eq_true_iff.mp h
    rwa [← List.inj_on_of_nodup_map hnodup hr hl (of_decide_eq_true hchamber)]
  · exact fun h => ⟨l, hl, by simpa using h⟩

/-- The leak records of a retest: those in its scope fresh, the PASS ones kept. -/
theorem Dossier.leaks_retested (hnodup : (d.leaks.map LeakRecord.chamber).Nodup) :
    (d.retested p).leaks = d.leaks.map fun l => if isPass l.given then l else LeakRecord.fresh l.chamber := by
  refine List.map_congr_left fun l hl => ?_
  rw [Dossier.retestLeaks_of_mem hnodup hl]
  cases isPass l.given <;> rfl

theorem Dossier.retestDrives_of_runIn {r : RunInRecord} (hr : d.runIn = some r) (hpass : ∀ g, r.given = some g → g.result ≠ .pass) :
    d.retestDrives = true := by
  have hnot : isPass r.given = false := by
    rw [isPass, Option.any_eq_false]
    exact fun g hg => by simpa using hpass g hg
  rw [Dossier.retestDrives, hr, Option.any_some, hnot]
  rfl

/-- The noise section is PASS or absent when each capture record is PASS. -/
theorem Dossier.noise_of_pass (h : ∀ r ∈ d.captures, isPass r.given = true) : d.noise = none ∨ d.noise = some .pass := by
  have hfail : (d.captures.any fun r => r.given.any fun g => g.result = .fail) = false := by
    rw [List.any_eq_false]
    intro r hr hg
    have hpass := h r hr
    rcases hgiven : r.given with - | g
    · rw [isPass, hgiven] at hpass
      exact nomatch hpass
    · rw [isPass, hgiven, Option.any_some, decide_eq_true_eq] at hpass
      rw [hgiven, Option.any_some, decide_eq_true_eq, hpass] at hg
      exact nomatch hg
  have hrest : (d.captures.any fun r => !(r.given.any fun g => g.result = .pass)) = false := by
    rw [List.any_eq_false]
    intro r hr
    have hpass : (r.given.any fun g => g.result = .pass) = true := h r hr
    rw [hpass]
    exact Bool.false_ne_true
  rw [Dossier.noise, hfail, hrest]
  split
  · exact .inl rfl
  · exact .inr rfl

theorem Dossier.retestDrives_of_pass (hrun : ∀ r ∈ d.runIn, isPass r.given = true) (hcap : ∀ r ∈ d.captures, isPass r.given = true) :
    d.retestDrives = false := by
  have hrunIn : (d.runIn.any fun r => !isPass r.given) = false := by
    rw [Option.any_eq_false]
    intro r hr
    rw [hrun r hr]
    rfl
  rw [Dossier.retestDrives, hrunIn]
  rcases Dossier.noise_of_pass hcap with h | h <;> rw [h] <;> rfl

/-- The first position of the list is skipped only by the rule of its own stage. -/
theorem Dossier.zero_not_mem_retestSkips_engage {rest : List Stage} (hstages : p.stages = .engage :: rest) (hdrives : d.retestDrives = true) :
    0 ∉ d.retestSkips p := by
  intro h
  obtain ⟨⟨st, i⟩, hx, hi⟩ := List.mem_map.mp h
  obtain ⟨hmem, hskip⟩ := List.mem_filter.mp hx
  have hst : p.stages[0]? = some st := by
    rw [List.mem_zipIdx_iff_getElem?] at hmem
    exact hi ▸ hmem
  rw [hstages] at hst
  cases hst
  rw [hdrives] at hskip
  exact nomatch hskip

theorem Dossier.zero_not_mem_retestSkips_leak {m : ChamberSet} {set : LeakSetIx} {rest : List Stage}
    (hstages : p.stages = .leak m set :: rest) (hscope : (m.inter d.retestLeaks).isEmpty = false) : 0 ∉ d.retestSkips p := by
  intro h
  obtain ⟨⟨st, i⟩, hx, hi⟩ := List.mem_map.mp h
  obtain ⟨hmem, hskip⟩ := List.mem_filter.mp hx
  have hst : p.stages[0]? = some st := by
    rw [List.mem_zipIdx_iff_getElem?] at hmem
    exact hi ▸ hmem
  rw [hstages] at hst
  cases hst
  exact nomatch hscope.symm.trans hskip

/-! ### The retest (R19, R21) -/

/-- The dossier of an accepted RETEST whose first stage is in progress. -/
def Dossier.retestBegun (d : Dossier) (p : Plan) : Dossier :=
  { d.retested p with stageIndex := some 0, lastBegun := some 0 }

/-- The state of an accepted RETEST before its first stage begins. -/
def State.retestPrepared (s : State) (n : Nest) (p : Plan) : State :=
  { s with
    dossiers := s.dossiers.set n ((s.dossier n).retestBegun p)
    reports := { s.reports with filingPending := s.reports.filingPending.filter fun m => m ≠ n } }

theorem State.retestDossier_begins {st : Stage} {rest : List Stage} {t : State} (hp : s.planOf n = some p) (hstages : p.stages = st :: rest)
    (hskip : 0 ∉ (s.dossier n).retestSkips p) (hbegin : (s.retestPrepared n p).beginStage n p st = (t, false)) : s.retestDossier n = t := by
  simp only [State.retestDossier, hp, hstages, List.zipIdx_cons]
  refine State.walkStages_begins ?_ ?_
  · rw [State.dossier_modDossier_same]
    exact hskip
  · rw [← hbegin]
    simp only [State.modDossier, State.modReports, PerNest.mod, PerNest.get_set_same, PerNest.set_set]
    rfl

theorem State.retestDossier_engage {a : Attempt} {as : List Attempt} {rest : List Stage} {r : RunInRecord} (hp : s.planOf n = some p)
    (hstages : p.stages = .engage :: rest) (ha : attemptsOf p.attemptsMask = a :: as) (hr : (s.dossier n).runIn = some r)
    (hdrives : (s.dossier n).retestDrives = true) : s.retestDossier n =
      { s with
        dossiers := s.dossiers.set n ((s.dossier n).retestBegun p)
        channels := s.channels.set n ((s.channel n).engageBegun s.interlock.permitLive a)
        reports := { s.reports with filingPending := s.reports.filingPending.filter fun m => m ≠ n } } := by
  have hrunIn : ((s.dossier n).retestBegun p).runIn.map (fun r => { r with attemptUsed := 0 }) = ((s.dossier n).retestBegun p).runIn := by
    simp only [Dossier.retestBegun, Dossier.retested, hdrives, hr, if_true, Option.map_some]
    rfl
  refine State.retestDossier_begins hp hstages (Dossier.zero_not_mem_retestSkips_engage hstages hdrives)
    ((State.beginStage_engage ha).trans (congrArg (·, false) ?_))
  simp only [State.retestPrepared, State.dossier, PerNest.get_set_same, PerNest.set_set]
  rw [State.dossier] at hrunIn
  rw [hrunIn]
  rfl

theorem State.retestDossier_leak {m : ChamberSet} {set : LeakSetIx} {c : Chamber} {rest : List Stage} (hp : s.planOf n = some p)
    (hstages : p.stages = .leak m set :: rest) (hc : (m.inter (s.dossier n).retestLeaks).has c = true)
    (hfirst : c = .c1 → (m.inter (s.dossier n).retestLeaks).c0 = false) (hzero : s.interlock.zero = none) :
    LeakBegun (s.retestPrepared n p) (s.retestDossier n) n (m.inter (s.dossier n).retestLeaks) set c := by
  have hscope : m.inter ((s.retestPrepared n p).dossier n).leakScope = m.inter (s.dossier n).retestLeaks := by
    simp only [State.retestPrepared, State.dossier, PerNest.get_set_same]
    rfl
  obtain ⟨t, hbegin, hbegun⟩ := State.beginStage_leak (s := s.retestPrepared n p) (p := p) hscope hc hfirst hzero set
  rw [State.retestDossier_begins hp hstages (Dossier.zero_not_mem_retestSkips_leak hstages (ChamberSet.isEmpty_eq_false hc)) hbegin]
  exact hbegun

/-- Settles O16: the refusals in order, and the two first stages in scope. -/
theorem retestRunsItsScope : Obligations.RetestRunsItsScope := by
  refine fun b s hs => ⟨fun hb => congrArg Host.Outcome.next (commandRow_badNest hs hb), fun n hb => ?_⟩
  have hrow {t : State} {reply : ReplyCode} (heff : retestRequest b s = (t, reply)) (ht : t.bench = s.bench) :
      exec (.retest b) s = .next { t with bench := s.bench.answered 0x03 reply [] } := by
    have hfree : t.benchFree := by rw [State.benchFree, ht]; exact hs
    rw [← ht]
    exact congrArg Host.Outcome.next (commandRow_request_of_benchFree hs heff hfree)
  refine ⟨fun hst => hrow ((withNest_of_some hb).trans (if_pos hst)) rfl, fun k hst hverdict hcount => ?_⟩
  have hjudged : ¬((s.dossier n).state ≠ .judged ∨ ((s.dossier n).verdict ≠ some .fail ∧ (s.dossier n).verdict ≠ some .incomplete)) := by
    rintro (h | ⟨hfail, hinc⟩)
    · exact h hst
    · exact hverdict.elim hfail hinc
  have hreq : retestRequest b s =
      if 2 ≤ k then (s, .retestLimit) else if !(s.faultList n).causes.isEmpty then (s, .nestFault)
      else if s.interlock.estop then (s, .estopActive) else (s.retestDossier n, .accepted) := by
    rw [retestRequest, withNest_of_some hb]
    simp only [if_neg hjudged, hcount, Option.getD_some]
  refine ⟨fun hk => hrow (hreq.trans (if_pos hk)) rfl, fun hk hfaults => ?_, fun hk hfaults hestop => ?_,
    fun p hk hfaults hestop hp hnodup => ?_⟩
  · refine hrow (t := s) (reply := .nestFault) ?_ rfl
    rw [hreq, if_neg (Nat.not_le.mpr hk), List.isEmpty_eq_false_iff.mpr hfaults]
    rfl
  · refine hrow (t := s) (reply := .estopActive) ?_ rfl
    rw [hreq, if_neg (Nat.not_le.mpr hk), hfaults, hestop]
    rfl
  have heff : retestRequest b s = (s.retestDossier n, .accepted) := by
    rw [hreq, if_neg (Nat.not_le.mpr hk), hfaults, hestop]
    rfl
  have hbegun : (s.dossiers.set n ((s.dossier n).retestBegun p)).get n = (s.dossier n).retestBegun p := PerNest.get_set_same ..
  have hother : (s.dossiers.set n ((s.dossier n).retestBegun p)).get n.other = s.dossier n.other := PerNest.get_set_other ..
  have hcount' : ((s.dossier n).retestBegun p).retestCount = some (k + 1) := by
    rw [Dossier.retestBegun, Dossier.retested, hcount]
    rfl
  have hleaks : ((s.dossier n).retestBegun p).leaks = _ := Dossier.leaks_retested (p := p) hnodup
  refine ⟨fun a as rest r hstages ha hr hpass => ?engage, fun m set rest c hstages hzero hrun hcap hc hfirst hleak => ?leak⟩
  case engage =>
    have hdrives := Dossier.retestDrives_of_runIn hr hpass
    rw [State.retestDossier_engage hp hstages ha hr hdrives] at heff
    have hcaptures : ((s.dossier n).retestBegun p).captures = (s.dossier n).captures.map CaptureRecord.renewed := if_pos hdrives
    have hrunIn : ((s.dossier n).retestBegun p).runIn = some ⟨none, 0, 0, 0⟩ := by
      simp only [Dossier.retestBegun, Dossier.retested, hdrives, hr, if_true, Option.map_some]
      rfl
    refine ⟨_, hrow heff rfl, (congrArg Dossier.state hbegun).trans rfl, (congrArg Dossier.retestCount hbegun).trans hcount',
      (congrArg Dossier.stageIndex hbegun).trans rfl, (congrArg Dossier.verdict hbegun).trans rfl, (congrArg Dossier.verdictCause hbegun).trans rfl,
      (congrArg Dossier.judgedTime hbegun).trans rfl, (congrArg Dossier.classAtJudgment hbegun).trans rfl, (congrArg Dossier.stopped hbegun).trans rfl,
      (congrArg Dossier.filingPending hbegun).trans rfl, (congrArg Dossier.firstVerdict hbegun).trans rfl, (congrArg Dossier.classAtStart hbegun).trans rfl,
      (congrArg Dossier.serial hbegun).trans rfl, (congrArg Dossier.quarantine hbegun).trans rfl, (congrArg Dossier.runIn hbegun).trans hrunIn, fun c hc => ?_,
      (congrArg Dossier.leaks hbegun).trans hleaks, hother, rfl, rfl, rfl, rfl, rfl⟩
    have hmem : c ∈ (s.dossier n).captures.map CaptureRecord.renewed := by
      rw [← hcaptures, ← hbegun]
      exact hc
    obtain ⟨r, -, rfl⟩ := List.mem_map.mp hmem
    rfl
  case leak =>
    obtain ⟨l, hl, rfl, hlpass⟩ := hleak
    have hscope : (m.inter (s.dossier n).retestLeaks).has l.chamber = true := by
      rw [ChamberSet.has_inter, hc, Dossier.retestLeaks_of_mem hnodup hl, hlpass]
      rfl
    have hbegan := State.retestDossier_leak (set := set) hp hstages hscope (fun h1 => by rw [ChamberSet.inter, hfirst h1]; rfl) hzero
    obtain ⟨a, cs, hframe⟩ := hbegan.frame
    have hdossiers : (s.retestDossier n).dossiers = s.dossiers.set n ((s.dossier n).retestBegun p) := by rw [hframe]; rfl
    have hnew : (s.retestDossier n).dossier n = (s.dossier n).retestBegun p := (congrArg (fun x => PerNest.get x n) hdossiers).trans hbegun
    have hkeep := Dossier.retestDrives_of_pass hrun hcap
    have hrunIn : ((s.dossier n).retestBegun p).runIn = (s.dossier n).runIn := if_neg (Bool.eq_false_iff.mp hkeep)
    have hcaptures : ((s.dossier n).retestBegun p).captures = (s.dossier n).captures := if_neg (Bool.eq_false_iff.mp hkeep)
    exact ⟨_, hrow heff (by rw [hframe]; rfl), (congrArg Dossier.state hnew).trans rfl, (congrArg Dossier.retestCount hnew).trans hcount',
      (congrArg Dossier.stageIndex hnew).trans rfl, (congrArg Dossier.verdict hnew).trans rfl, (congrArg Dossier.runIn hnew).trans hrunIn,
      (congrArg Dossier.captures hnew).trans hcaptures, (congrArg Dossier.leaks hnew).trans hleaks, hbegan.leakSet, hbegan.resultGiven,
      hbegan.state, (congrArg State.channels hframe).trans rfl, (congrArg (fun x => PerNest.get x n.other) hdossiers).trans hother, rfl⟩

end

end Sys2Proof.Machine
end

section
/-! PROOFS. What a stop of a nest does: the rules of its parts, then ABORT, the e-stop and the guards. -/

namespace Sys2Proof.Machine

section
variable (s : State) (n : Nest)

/-! ### The parts of a stop: jobs, captures, circuits (R115, R130, R139) -/

theorem State.giveBackSlot_eq (i : Fin 4) :
    ∃ slots causes, s.giveBackSlot i = { s with slots := slots, bench := { s.bench with causes := causes } } := by
  unfold State.giveBackSlot
  split
  · exact ⟨_, _, rfl⟩
  · exact ⟨_, s.bench.causes, rfl⟩

theorem State.giveBackJobs_eq (js : List Job) :
    ∃ slots causes, s.giveBackJobs js = { s with slots := slots, bench := { s.bench with causes := causes } } := by
  induction js generalizing s with
  | nil => exact ⟨s.slots, s.bench.causes, rfl⟩
  | cons j rest ih =>
    obtain ⟨slots, causes, h⟩ := State.giveBackSlot_eq s j.slot
    obtain ⟨slots', causes', h'⟩ := ih (s.giveBackSlot j.slot)
    refine ⟨slots', causes', ?_⟩
    rw [State.giveBackJobs, h', h]

/-- The nest's jobs leave the queue; slots, the discard mark and attention causes may change (R139). -/
theorem State.dropJobs_eq : ∃ slots causes discard, s.dropJobs n =
    { s with
      slots := slots
      engine := ⟨s.engine.queue.filter fun j => j.owner ≠ n, s.engine.current, discard⟩
      bench := { s.bench with causes := causes } } := by
  unfold State.dropJobs
  extract_lets dropped t
  obtain ⟨slots, causes, h⟩ := State.giveBackJobs_eq t dropped
  refine ⟨slots, causes, s.engine.discard || (s.engine.current.any fun j => j.owner = n), ?_⟩
  rw [h]
  rfl

/-- A stop ends the capture and leaves its record and the sequencer as they are (R130, R132). -/
theorem State.endCapture_stopped_eq : ∃ slots, s.endCapture n .stopped = { s with slots := slots, units := s.units.set n .idle } := by
  unfold State.endCapture
  split
  · next hu =>
    refine ⟨s.slots, ?_⟩
    rw [← hu, State.captureUnit, PerNest.set_get]
  · exact ⟨s.slots, rfl⟩
  · exact ⟨_, rfl⟩

theorem State.dossiers_set_leaks : s.dossiers.set n { s.dossier n with leaks := (s.dossier n).leaks } = s.dossiers := PerNest.set_get ..

theorem State.circuits_set_circuit (c : Chamber) : s.circuits.set n ((s.circuits.get n).set c (s.circuit n c)) = s.circuits := by
  have hk : (s.circuits.get n).set c ((s.circuits.get n).get c) = s.circuits.get n := by cases c <;> rfl
  exact (congrArg _ hk).trans (PerNest.set_get ..)

theorem PerChamber.set_set {α : Type} (p : PerChamber α) (c : Chamber) (x y : α) : (p.set c x).set c y = p.set c y := by cases c <;> rfl

/-- A leak result changes the leak records of the dossier and the circuit's result given alone. -/
theorem State.giveLeak_eq (c : Chamber) (g : Given) : ∃ leaks, s.giveLeak n c g =
    { s with
      dossiers := s.dossiers.set n { s.dossier n with leaks := leaks }
      circuits := s.circuits.set n ((s.circuits.get n).set c { s.circuit n c with resultGiven := true }) } := ⟨_, rfl⟩

/-- A result given to a pending leak record alone. -/
theorem State.giveIfPending_eq (c : Chamber) (g : Given) : ∃ leaks given, (if s.leakPending n c then s.giveLeak n c g else s) =
    { s with
      dossiers := s.dossiers.set n { s.dossier n with leaks := leaks }
      circuits := s.circuits.set n ((s.circuits.get n).set c { s.circuit n c with resultGiven := given }) } := by
  split
  · obtain ⟨leaks, h⟩ := State.giveLeak_eq s n c g
    exact ⟨leaks, true, h⟩
  · refine ⟨(s.dossier n).leaks, (s.circuit n c).resultGiven, ?_⟩
    have hc : s.circuits.set n ((s.circuits.get n).set c { s.circuit n c with resultGiven := (s.circuit n c).resultGiven }) = s.circuits :=
      State.circuits_set_circuit s n c
    rw [State.dossiers_set_leaks, hc]

/-- The arbiter without a circuit: off the list, and without the grant (R102, R105). -/
def Arbiter.without (a : Arbiter) (k : CircuitId) : Arbiter :=
  { a with
    holder := if a.holder = some k then none else a.holder
    waiting := a.waiting.filter fun x => x ≠ k }

theorem State.leaveAir_eq (c : Chamber) : s.leaveAir n c = { s with arbiter := s.arbiter.without ⟨n, c⟩ } := rfl

/-- The circuit states that hold or await no air. -/
def CircuitState.airless : CircuitState → Bool
  | .waitingAir => false
  | .filling => false
  | _ => true

/-- The abort rule on one circuit (R115): it is IDLE or VENTING, it has left the air supply, and of the rest the leak records of its
dossier may have changed. -/
theorem State.abortCircuit_eq (c : Chamber) : ∃ leaks k, (k.state = .idle ∨ k.state = .venting) ∧ s.abortCircuit n c =
    { s with
      dossiers := s.dossiers.set n { s.dossier n with leaks := leaks }
      circuits := s.circuits.set n ((s.circuits.get n).set c k)
      arbiter := if (s.circuit n c).state.airless then s.arbiter else s.arbiter.without ⟨n, c⟩ } := by
  have hsame : s = { s with
      dossiers := s.dossiers.set n { s.dossier n with leaks := (s.dossier n).leaks }
      circuits := s.circuits.set n ((s.circuits.get n).set c (s.circuit n c)) } := by
    rw [State.dossiers_set_leaks, State.circuits_set_circuit]
  -- a result given if pending, then a change of the circuit, from a state that differs in the arbiter alone
  have hgiven (a : Arbiter) (f : Circuit → Circuit) (hf : ∀ k, (f k).state = .idle ∨ (f k).state = .venting) :
      ∃ leaks k, (k.state = .idle ∨ k.state = .venting) ∧
        (if ({ s with arbiter := a } : State).leakPending n c then ({ s with arbiter := a } : State).giveLeak n c (notMeasured .aborted)
          else { s with arbiter := a }).modCircuit n c f =
        { s with
          dossiers := s.dossiers.set n { s.dossier n with leaks := leaks }
          circuits := s.circuits.set n ((s.circuits.get n).set c k)
          arbiter := a } := by
    obtain ⟨leaks, given, h⟩ := State.giveIfPending_eq { s with arbiter := a } n c (notMeasured .aborted)
    refine ⟨leaks, f { s.circuit n c with resultGiven := given }, hf _, ?_⟩
    rw [h]
    simp only [State.modCircuit, PerNest.mod, PerNest.get_set_same, PerNest.set_set, PerChamber.set_set,
      PerChamber.get_set_same]
    rfl
  rw [State.abortCircuit]
  have hidle (k : Circuit) : k.enterIdle.state = .idle ∨ k.enterIdle.state = .venting := .inl rfl
  have hvent (k : Circuit) : (k.enter .venting).state = .idle ∨ (k.enter .venting).state = .venting := .inr rfl
  cases hst : (s.circuit n c).state
  case idle => exact ⟨_, _, .inl hst, hsame⟩
  case waitingAir => exact hgiven (s.arbiter.without ⟨n, c⟩) Circuit.enterIdle hidle
  case filling => exact hgiven (s.arbiter.without ⟨n, c⟩) (fun k => k.enter .venting) hvent
  case settling => exact hgiven s.arbiter (fun k => k.enter .venting) hvent
  case measuring => exact hgiven s.arbiter (fun k => k.enter .venting) hvent
  case holding =>
    refine ⟨(s.dossier n).leaks, (s.circuit n c).enter .venting, .inr rfl, ?_⟩
    rw [State.dossiers_set_leaks]
    rfl
  case venting => exact ⟨_, _, .inr hst, hsame⟩

/-- Whom the abort rule leaves on the waiting list: none of a sound list's circuits of the nest, and else no new one (R102, R115). -/
theorem Arbiter.not_mem_after_abort {a : Arbiter} {k : CircuitId} {st : CircuitState} (h : k ∈ a.waiting → st = .waitingAir) :
    k ∉ (if st.airless then a else a.without k).waiting := by
  cases hst : st.airless
  · rw [if_neg Bool.false_ne_true]
    simp [Arbiter.without]
  · rw [if_pos rfl]
    intro hk
    rw [h hk] at hst
    exact nomatch hst

theorem Arbiter.waiting_after_abort (a : Arbiter) (k : CircuitId) (st : CircuitState) :
    (if st.airless then a else a.without k).waiting.Sublist a.waiting := by
  split
  · exact List.Sublist.refl _
  · exact List.filter_sublist

/-- The abort rule on a nest (R115): no LEAK stage, both circuits IDLE or VENTING and off the waiting list. -/
theorem State.abortLeak_eq : ∃ leaks k0 k1 a, (k0.state = .idle ∨ k0.state = .venting) ∧ (k1.state = .idle ∨ k1.state = .venting) ∧
    a.waiting.Sublist s.arbiter.waiting ∧ (s.listSound n → ∀ c, ⟨n, c⟩ ∉ a.waiting) ∧ s.abortLeak n =
    { s with
      dossiers := s.dossiers.set n { s.dossier n with leaks := leaks }
      circuits := s.circuits.set n ⟨k0, k1⟩
      arbiter := a
      leakStages := s.leakStages.set n none } := by
  obtain ⟨leaks0, k0, hk0, h0⟩ := State.abortCircuit_eq s n .c0
  obtain ⟨leaks1, k1, hk1, h1⟩ := State.abortCircuit_eq (s.abortCircuit n .c0) n .c1
  have hother : (s.abortCircuit n .c0).circuit n .c1 = s.circuit n .c1 := by
    rw [h0, State.circuit, PerNest.get_set_same]
    rfl
  have harb : (s.abortCircuit n .c0).arbiter = if (s.circuit n .c0).state.airless then s.arbiter else s.arbiter.without ⟨n, .c0⟩ := by rw [h0]
  have hsub0 := Arbiter.waiting_after_abort s.arbiter ⟨n, .c0⟩ (s.circuit n .c0).state
  have hsub1 := Arbiter.waiting_after_abort (s.abortCircuit n .c0).arbiter ⟨n, .c1⟩ (s.circuit n .c1).state
  rw [← harb] at hsub0
  refine ⟨leaks1, k0, k1, _, hk0, hk1, hsub1.trans hsub0, fun hlist c hc => ?_, ?_⟩
  · cases c
    · refine Arbiter.not_mem_after_abort (hlist .c0) ?_
      rw [← harb]
      exact hsub1.subset hc
    · exact Arbiter.not_mem_after_abort (fun hmem => hlist .c1 (hsub0.subset hmem)) hc
  · rw [State.abortLeak, h1, hother]
    simp only [State.setLeakStage]
    rw [h0]
    simp only [State.dossier, PerNest.get_set_same, PerNest.set_set]
    rfl

/-! ### Entry to STOPPING (R26) -/

/-- An entry to STOPPING (R26): the stop's record in the dossier, no stage, no capture, no job, circuits IDLE or VENTING. -/
theorem State.enterStopping_eq (cause : Cause) : ∃ leaks k0 k1 a slots discard causes,
    (k0.state = .idle ∨ k0.state = .venting) ∧ (k1.state = .idle ∨ k1.state = .venting) ∧
    a.waiting.Sublist s.arbiter.waiting ∧ (s.listSound n → ∀ c, ⟨n, c⟩ ∉ a.waiting) ∧ s.enterStopping n cause =
    { s with
      dossiers := s.dossiers.set n
        { s.dossier n with state := .stopping, stoppingCause := some cause, stopped := true, stageIndex := none, leaks := leaks }
      channels := s.channels.set n { s.channel n with activity := .idle }
      units := s.units.set n .idle
      leakStages := s.leakStages.set n none
      circuits := s.circuits.set n ⟨k0, k1⟩
      arbiter := a
      slots := slots
      engine := ⟨s.engine.queue.filter fun j => j.owner ≠ n, s.engine.current, discard⟩
      bench := { s.bench with causes := causes } } := by
  unfold State.enterStopping
  extract_lets stopping ended
  obtain ⟨slots, hended⟩ := State.endCapture_stopped_eq (stopping.modChannel n fun ch => { ch with activity := .idle }) n
  obtain ⟨leaks, k0, k1, a, hk0, hk1, hsub, hlist, habort⟩ := State.abortLeak_eq ended n
  obtain ⟨slots', causes, discard, hdrop⟩ := State.dropJobs_eq (ended.abortLeak n) n
  have hended' : ended = { s with
      dossiers := s.dossiers.set n { s.dossier n with state := .stopping, stoppingCause := some cause, stopped := true, stageIndex := none }
      channels := s.channels.set n { s.channel n with activity := .idle }
      slots := slots
      units := s.units.set n .idle } := hended
  rw [hended'] at hsub hlist habort
  refine ⟨leaks, k0, k1, a, slots', discard, causes, hk0, hk1, hsub, hlist, ?_⟩
  rw [hdrop, hended', habort]
  simp only [State.dossier, PerNest.get_set_same, PerNest.set_set]
  rfl

/-! ### Entry to JUDGED (R30, R31) -/

/-- A filing changes the dossier's state, number and flag, the plans' counts, the report queue and attention causes. -/
theorem State.fileDossier_eq (hst : (s.dossier n).state = .judged) : ∃ st number pending plans reports causes, (st = .judged ∨ st = .filed) ∧ s.fileDossier n =
    { s with
      dossiers := s.dossiers.set n { s.dossier n with state := st, reportNumber := number, filingPending := pending }
      plans := plans
      reports := reports
      bench := { s.bench with causes := causes } } := by
  rcases Nat.lt_or_ge s.reports.reports.length 16 with hroom | hfull
  · obtain ⟨plans, h⟩ := State.fileReport_eq s n
    exact ⟨.filed, _, false, plans, _, s.bench.causes, .inr rfl, (State.fileDossier_of_room hroom).trans h⟩
  · have h := State.fileDossier_of_full (n := n) hfull
    have hd : { s.dossier n with filingPending := true } =
        { s.dossier n with state := .judged, reportNumber := (s.dossier n).reportNumber, filingPending := true } := by rw [← hst]
    rw [hd] at h
    exact ⟨.judged, _, true, s.plans, _, _, .inl rfl, h⟩

/-- An entry to JUDGED: the verdict in the dossier, which may then be filed, and the cleared reference. -/
theorem State.enterJudged_eq : ∃ st number pending plans reports causes, (st = .judged ∨ st = .filed) ∧ s.enterJudged n =
    { s with
      dossiers := s.dossiers.set n
        { (s.dossier n).enterJudged s.reports.clock (s.classOf n) with state := st, reportNumber := number, filingPending := pending }
      channels := s.channels.set n (s.channel n).clearReference
      plans := plans
      reports := reports
      bench := { s.bench with causes := causes } } := by
  unfold State.enterJudged
  extract_lets judged cleared
  have hkept : ∃ st number pending plans reports causes, (st = DossierState.judged ∨ st = .filed) ∧ cleared =
      { s with
        dossiers := s.dossiers.set n
          { (s.dossier n).enterJudged s.reports.clock (s.classOf n) with state := st, reportNumber := number, filingPending := pending }
        channels := s.channels.set n (s.channel n).clearReference
        plans := plans
        reports := reports
        bench := { s.bench with causes := causes } } :=
    ⟨.judged, (s.dossier n).reportNumber, (s.dossier n).filingPending, s.plans, s.reports, _, .inl rfl, rfl⟩
  split
  · split
    · have hd : cleared.dossier n = (s.dossier n).enterJudged s.reports.clock (s.classOf n) := PerNest.get_set_same ..
      obtain ⟨st, number, pending, plans, reports, causes, hst, h⟩ := State.fileDossier_eq cleared n (by rw [hd]; rfl)
      refine ⟨st, number, pending, plans, reports, causes, hst, ?_⟩
      have hset : cleared.dossiers = s.dossiers.set n ((s.dossier n).enterJudged s.reports.clock (s.classOf n)) := rfl
      rw [h, hd, hset, PerNest.set_set]
      rfl
    · exact hkept
  · exact hkept

/-- What a STOPPING dossier's entry to JUDGED is (R27, R29, R30). -/
structure StopJudged (s t : State) (n : Nest) : Prop where
  dossier : ∃ st number pending, (st = DossierState.judged ∨ st = .filed) ∧ t.dossiers = s.dossiers.set n
    { ((s.dossier n).givePending .aborted).enterJudged s.reports.clock (s.classOf n) with
      state := st, reportNumber := number, filingPending := pending }
  rest : ∃ ds plans reports causes, t =
    { s with
      dossiers := ds
      channels := s.channels.set n (s.channel n).clearReference
      plans := plans
      reports := reports
      bench := { s.bench with causes := causes } }

theorem State.checkStopping_of_rest (hst : (s.dossier n).state = .stopping) (hdrive : s.driveAtRest n = true) (hcircuits : s.circuitsIdle n = true) :
    StopJudged s (s.checkStopping n) n := by
  rw [State.checkStopping, if_pos ⟨hst, hdrive, hcircuits⟩]
  obtain ⟨st, number, pending, plans, reports, causes, hjudged, h⟩ := State.enterJudged_eq (s.modDossier n fun d => d.givePending .aborted) n
  rw [h]
  refine ⟨⟨st, number, pending, hjudged, ?_⟩, ⟨_, plans, reports, causes, rfl⟩⟩
  simp only [State.modDossier, State.dossier, PerNest.mod, PerNest.get_set_same, PerNest.set_set]
  rfl

theorem State.checkStopping_of_busy (h : ¬((s.dossier n).state = .stopping ∧ s.driveAtRest n = true ∧ s.circuitsIdle n = true)) :
    s.checkStopping n = s := if_neg h

/-- The check of R27 leaves the machine as it is or judges the STOPPING dossier. -/
theorem State.checkStopping_cases : s.checkStopping n = s ∨ (s.dossier n).state = .stopping ∧ StopJudged s (s.checkStopping n) n := by
  by_cases h : (s.dossier n).state = .stopping ∧ s.driveAtRest n = true ∧ s.circuitsIdle n = true
  · exact .inr ⟨h.1, State.checkStopping_of_rest s n h.1 h.2.1 h.2.2⟩
  · exact .inl (State.checkStopping_of_busy s n h)

end

/-! ### What a stop leaves (R26, R27) -/

section
variable {s t : State} {n : Nest} {cause : Cause}

/-- What an event that stops one nest leaves alone: the other nest's dossier, drive and capture, the interlock unit, the monitors, the
links, and the bench port but its attention causes. -/
structure StopLocal (s t : State) (n : Nest) : Prop where
  dossier : t.dossier n.other = s.dossier n.other
  channel : t.channel n.other = s.channel n.other
  unit : t.captureUnit n.other = s.captureUnit n.other
  leakStage : t.leakStage n.other = s.leakStage n.other
  interlock : t.interlock = s.interlock
  links : t.links = s.links
  bench : ∃ causes, t.bench = { s.bench with causes := causes }

theorem StopLocal.refl (s : State) (n : Nest) : StopLocal s s n := ⟨rfl, rfl, rfl, rfl, rfl, rfl, _, rfl⟩

theorem StopLocal.trans {u : State} (h : StopLocal s t n) (k : StopLocal t u n) : StopLocal s u n := by
  obtain ⟨causes, hb⟩ := h.bench
  obtain ⟨causes', hb'⟩ := k.bench
  exact ⟨k.dossier.trans h.dossier, k.channel.trans h.channel, k.unit.trans h.unit, k.leakStage.trans h.leakStage,
    k.interlock.trans h.interlock, k.links.trans h.links, causes', by rw [hb', hb]⟩

theorem StopJudged.stopLocal (h : StopJudged s t n) : StopLocal s t n := by
  obtain ⟨⟨st, number, pending, -, hd⟩, ds, plans, reports, causes, rfl⟩ := h
  refine ⟨?_, PerNest.get_set_other .., rfl, rfl, rfl, rfl, causes, rfl⟩
  show PerNest.get _ n.other = _
  rw [hd]
  exact PerNest.get_set_other ..

theorem State.checkStopping_stopLocal (s : State) (n : Nest) : StopLocal s (s.checkStopping n) n := by
  rcases State.checkStopping_cases s n with h | ⟨-, h⟩
  · rw [h]
    exact StopLocal.refl s n
  · exact h.stopLocal

theorem State.arbitrate_stopLocal (s : State) (n : Nest) : StopLocal s s.arbitrate n := by
  obtain ⟨a, cs, h⟩ := State.arbitrate_frame s
  rw [h]
  exact ⟨rfl, rfl, rfl, rfl, rfl, rfl, _, rfl⟩

theorem State.modChannel_stopLocal (s : State) (n : Nest) (f : Channel → Channel) : StopLocal s (s.modChannel n f) n :=
  ⟨rfl, PerNest.get_set_other .., rfl, rfl, rfl, rfl, _, rfl⟩

theorem State.enterStopping_stopLocal (s : State) (n : Nest) (cause : Cause) : StopLocal s (s.enterStopping n cause) n := by
  obtain ⟨leaks, k0, k1, a, slots, discard, causes, -, -, -, -, h⟩ := State.enterStopping_eq s n cause
  rw [h]
  exact ⟨PerNest.get_set_other .., PerNest.get_set_other .., PerNest.get_set_other .., PerNest.get_set_other .., rfl, rfl, causes, rfl⟩

/-- The nest's circuits are on no waiting list. -/
def State.offList (s : State) (n : Nest) : Prop := ∀ c, ⟨n, c⟩ ∉ s.arbiter.waiting

/-- An entry to STOPPING leaves a sound list without the nest's circuits. -/
theorem State.enterStopping_stoppedBy (s : State) (n : Nest) (cause : Cause) :
    (s.enterStopping n cause).stoppedBy n cause ∧ (s.listSound n → (s.enterStopping n cause).offList n) := by
  obtain ⟨leaks, k0, k1, a, slots, discard, causes, hk0, hk1, -, hlist, h⟩ := State.enterStopping_eq s n cause
  rw [h]
  simp only [State.stoppedBy, State.offList, State.dossier, State.channel, State.captureUnit, State.leakStage, State.circuit, PerNest.get_set_same,
    true_and]
  refine ⟨⟨fun c => ?_, fun j hj => ?_⟩, hlist⟩
  · cases c
    · exact hk0
    · exact hk1
  · exact of_decide_eq_true (List.mem_filter.mp hj).2

/-- A change of the drive leaves a stop's record. -/
theorem State.stoppedBy.modChannel (h : s.stoppedBy n cause) {f : Channel → Channel}
    (hf : (f (s.channel n)).activity = (s.channel n).activity) : (s.modChannel n f).stoppedBy n cause := by
  obtain ⟨hcause, hstopped, hindex, hactivity, hrest⟩ := h
  refine ⟨hcause, hstopped, hindex, ?_, hrest⟩
  rw [State.channel_modChannel_same, hf, hactivity]

/-- A grant leaves a stop's record when the nest's circuits are off the list. -/
theorem State.stoppedBy.arbitrate (h : s.stoppedBy n cause) (hlist : s.offList n) : s.arbitrate.stoppedBy n cause := by
  obtain ⟨hcause, hstopped, hindex, hactivity, hunit, hstage, hcircuits, hjobs⟩ := h
  have hsame (c : Chamber) : s.arbitrate.circuit n c = s.circuit n c :=
    (State.circuit_arbitrate s n c).resolve_right fun hgrant => hlist c hgrant.1
  obtain ⟨a, cs, harb⟩ := State.arbitrate_frame s
  have hstates (c : Chamber) : (s.arbitrate.circuit n c).state = .idle ∨ (s.arbitrate.circuit n c).state = .venting := by
    rw [hsame]
    exact hcircuits c
  rw [harb] at hstates ⊢
  exact ⟨hcause, hstopped, hindex, hactivity, hunit, hstage, hstates, hjobs⟩

theorem State.offList.arbitrate (h : s.offList n) : s.arbitrate.offList n := by
  intro c hc
  rcases arbitrate_cases s with ⟨x, rest, -, -, hwaiting, harb⟩ | ⟨-, harb⟩
  · rw [harb] at hc
    exact h c (hwaiting ▸ List.mem_cons_of_mem x hc)
  · exact h c (harb ▸ hc)

/-- An entry to JUDGED leaves a stop's record. -/
theorem State.stoppedBy.judged (h : s.stoppedBy n cause) (hj : StopJudged s t n) : t.stoppedBy n cause := by
  obtain ⟨hcause, hstopped, hindex, hactivity, hrest⟩ := h
  obtain ⟨⟨st, number, pending, -, hd⟩, ds, plans, reports, causes, rfl⟩ := hj
  have hdossier := (congrArg (fun x => PerNest.get x n) hd).trans (PerNest.get_set_same ..)
  refine ⟨(congrArg Dossier.stoppingCause hdossier).trans hcause, (congrArg Dossier.stopped hdossier).trans hstopped,
    (congrArg Dossier.stageIndex hdossier).trans hindex, ?_, hrest⟩
  exact (congrArg Channel.activity (PerNest.get_set_same ..)).trans hactivity

theorem State.stoppedBy.checkStopping (h : s.stoppedBy n cause) : (s.checkStopping n).stoppedBy n cause := by
  rcases State.checkStopping_cases s n with hs | ⟨-, hj⟩
  · rw [hs]
    exact h
  · exact h.judged hj

end

end Sys2Proof.Machine
end

section
/-! PROOFS. ABORT, the guards and the e-stop. -/

namespace Sys2Proof.Machine

section
variable {s t : State} {n : Nest} {cause : Cause}

/-! ### The drive at a check of the STOPPING condition (R27, R63, R64) -/

/-- An entry to JUDGED leaves the set-point, the enable and the stop as they are. -/
theorem State.drive_checkStopping (s : State) (n : Nest) : ((s.checkStopping n).channel n).enable = (s.channel n).enable ∧
    ((s.checkStopping n).channel n).setPoint = (s.channel n).setPoint ∧ ((s.checkStopping n).channel n).stopping = (s.channel n).stopping := by
  rcases State.checkStopping_cases s n with h | ⟨-, -, ds, plans, reports, causes, h⟩
  · rw [h]
    exact ⟨rfl, rfl, rfl⟩
  · rw [h]
    simp only [State.channel, PerNest.get_set_same, Channel.clearReference, and_self]

theorem State.stoppingCause_checkStopping (s : State) (n : Nest) : ((s.checkStopping n).dossier n).stoppingCause = (s.dossier n).stoppingCause := by
  rcases State.checkStopping_cases s n with h | ⟨-, ⟨st, number, pending, -, h⟩, -⟩
  · rw [h]
  · rw [State.dossier, h, PerNest.get_set_same]
    rfl

/-- Outside STOPPING the check does nothing. -/
theorem State.checkStopping_of_not_stopping (h : (s.dossier n).state ≠ .stopping) : s.checkStopping n = s :=
  State.checkStopping_of_busy s n fun hc => h hc.1

/-- With the enable on the dossier stays STOPPING. -/
theorem State.checkStopping_of_enabled (h : (s.channel n).enable = true) : s.checkStopping n = s :=
  State.checkStopping_of_busy s n fun hc => by
    obtain ⟨-, hrest, -⟩ := hc
    rw [State.driveAtRest, h] at hrest
    exact nomatch hrest

theorem State.dossier_arbitrate (s : State) (n : Nest) : s.arbitrate.dossier n = s.dossier n := by
  obtain ⟨a, cs, h⟩ := State.arbitrate_frame s
  rw [h]
  rfl

theorem State.channel_arbitrate (s : State) (n : Nest) : s.arbitrate.channel n = s.channel n := by
  obtain ⟨a, cs, h⟩ := State.arbitrate_frame s
  rw [h]
  rfl

theorem State.dossier_enterStopping (s : State) (n : Nest) (cause : Cause) : ((s.enterStopping n cause).dossier n).state = .stopping := by
  obtain ⟨leaks, k0, k1, a, slots, discard, causes, -, -, -, -, h⟩ := State.enterStopping_eq s n cause
  rw [h, State.dossier, PerNest.get_set_same]

theorem State.channel_enterStopping (s : State) (n : Nest) (cause : Cause) :
    (s.enterStopping n cause).channel n = { s.channel n with activity := .idle } := by
  obtain ⟨leaks, k0, k1, a, slots, discard, causes, -, -, -, -, h⟩ := State.enterStopping_eq s n cause
  rw [h, State.channel, PerNest.get_set_same]

/-! ### ABORT (R14) -/

theorem State.abortNest_stopLocal (s : State) (n : Nest) : StopLocal s (s.abortNest n) n :=
  (State.enterStopping_stopLocal s n .aborted).trans <| (State.modChannel_stopLocal _ n _).trans <|
    (State.arbitrate_stopLocal _ n).trans (State.checkStopping_stopLocal _ n)

theorem State.abortNest_stoppedBy (hlist : s.listSound n) : (s.abortNest n).stoppedBy n .aborted := by
  obtain ⟨hstopped, hoff⟩ := State.enterStopping_stoppedBy s n .aborted
  exact ((hstopped.modChannel (f := Channel.controlledStop) rfl).arbitrate (hoff hlist)).checkStopping

/-- An enabled drive makes a controlled stop from its set-point, and the dossier stays STOPPING. -/
theorem State.abortNest_of_enabled (h : (s.channel n).enable = true) : ((s.abortNest n).dossier n).state = .stopping ∧
    ((s.abortNest n).channel n).stopping = true ∧ ((s.abortNest n).channel n).enable = true ∧
    ((s.abortNest n).channel n).setPoint = (s.channel n).setPoint := by
  have hchannel : (((s.enterStopping n .aborted).modChannel n Channel.controlledStop).arbitrate).channel n =
      { s.channel n with activity := .idle, stopping := (s.channel n).enable } := by
    rw [State.channel_arbitrate, State.channel_modChannel_same, State.channel_enterStopping]
    rfl
  have hstays : s.abortNest n = ((s.enterStopping n .aborted).modChannel n Channel.controlledStop).arbitrate :=
    State.checkStopping_of_enabled (by rw [hchannel]; exact h)
  rw [hstays, hchannel, State.dossier_arbitrate]
  exact ⟨State.dossier_enterStopping s n .aborted, h, h, rfl⟩

theorem abortRequest_testing {b : Byte} (hb : nestOf b = some n) (hst : (s.dossier n).state = .testing) :
    abortRequest b s = (s.abortNest n, .accepted) := (withNest_of_some hb).trans (if_pos hst)

/-- Settles O8: the refusals on both ports, and the stop with an enabled and with a disabled drive. -/
theorem abortStopsTest : Obligations.AbortStopsTest := by
  intro b s
  have hcell {t : State} {reply : ReplyCode} (hfree : s.linkFree .cell) (heff : abortRequest b s = (t, reply)) (hlinks : t.links = s.links) :
      exec (.abort .cellLink b) s = .next { t with links := s.links.set .cell (replying 0x13 [b] reply []) } :=
    congrArg Host.Outcome.next (frameRow_request_of_linkFree hfree (by simp) heff hlinks)
  have hbench {t : State} {reply : ReplyCode} (hfree : s.benchFree) (heff : abortRequest b s = (t, reply)) (ht : t.benchFree) :
      exec (.abort .benchPort b) s = .next { t with bench := t.bench.answered 0x02 reply [] } :=
    congrArg Host.Outcome.next (commandRow_request_of_benchFree hfree heff ht)
  refine ⟨fun hb => ⟨fun hfree => hcell hfree (withNest_of_none hb) rfl, fun hfree => hbench hfree (withNest_of_none hb) hfree⟩, fun n hb => ⟨fun hst hlist => ?_, fun hst => ?_⟩⟩
  · have heff := abortRequest_testing hb hst
    have hlocal := State.abortNest_stopLocal s n
    have hstopped := State.abortNest_stoppedBy hlist
    refine ⟨fun hfree => ⟨_, hcell hfree heff hlocal.links, hstopped, rfl, hlocal.dossier, hlocal.channel, State.abortNest_of_enabled⟩,
      fun hfree => ?_⟩
    obtain ⟨causes, hcauses⟩ := hlocal.bench
    have hfree' : (s.abortNest n).benchFree := by
      rw [State.benchFree, hcauses]
      exact hfree
    exact ⟨_, hbench hfree heff hfree', hstopped, rfl, rfl, hlocal.dossier, hlocal.channel, State.abortNest_of_enabled⟩
  · have heff : abortRequest b s = (s, .wrongState) := (withNest_of_some hb).trans (if_neg hst)
    exact ⟨fun hfree => hcell hfree heff rfl, fun hfree => hbench hfree heff hfree⟩

/-! ### The stop of a nest by e-stop or guard (R168, R170) -/

theorem State.stopNest_stopLocal (s : State) (n : Nest) (cause : Cause) : StopLocal s (s.stopNest n cause) n := by
  unfold State.stopNest
  split
  · exact (State.enterStopping_stopLocal s n cause).trans (State.modChannel_stopLocal _ n _)
  · exact State.modChannel_stopLocal s n _

theorem State.stopNest_of_testing (h : (s.dossier n).state = .testing) :
    s.stopNest n cause = (s.enterStopping n cause).modChannel n Channel.immediateStop := by rw [State.stopNest, if_pos h]

theorem State.stopNest_of_not_testing (h : (s.dossier n).state ≠ .testing) : s.stopNest n cause = s.modChannel n Channel.immediateStop := by
  rw [State.stopNest, if_neg h]

/-- After an immediate stop the drive is at rest with no stop in progress. -/
theorem State.drive_stopNest (s : State) (n : Nest) (cause : Cause) : ((s.stopNest n cause).channel n).enable = false ∧
    ((s.stopNest n cause).channel n).setPoint = 0 ∧ ((s.stopNest n cause).channel n).stopping = false := by
  rw [State.stopNest, State.channel_modChannel_same]
  exact ⟨rfl, rfl, rfl⟩

theorem State.stopNest_stoppedBy (h : (s.dossier n).state = .testing) :
    (s.stopNest n cause).stoppedBy n cause ∧ (s.listSound n → (s.stopNest n cause).offList n) := by
  obtain ⟨hstopped, hoff⟩ := State.enterStopping_stoppedBy s n cause
  rw [State.stopNest_of_testing h]
  exact ⟨hstopped.modChannel (f := Channel.immediateStop) rfl, hoff⟩

/-! ### The guards (R170) -/

theorem State.guardStop_of_other (ht : (s.dossier n).state ≠ .testing) (hs : (s.dossier n).state ≠ .stopping) : s.guardStop n = s :=
  if_neg fun h => h.elim ht hs

/-- A guard's stop of a TESTING or STOPPING dossier: the drive at rest, the record of a TESTING one, the cause of a STOPPING one kept. -/
theorem State.guardStop_stops (h : (s.dossier n).state = .testing ∨ (s.dossier n).state = .stopping) :
    StopLocal s (s.guardStop n) n ∧
      (((s.guardStop n).channel n).enable = false ∧ ((s.guardStop n).channel n).setPoint = 0 ∧ ((s.guardStop n).channel n).stopping = false) ∧
      ((s.dossier n).state = .stopping → ((s.guardStop n).dossier n).stoppingCause = (s.dossier n).stoppingCause) ∧
      ((s.dossier n).state = .testing → s.listSound n → (s.guardStop n).stoppedBy n .guard) := by
  have hguard : s.guardStop n = ((s.stopNest n .guard).arbitrate).checkStopping n := if_pos h
  obtain ⟨henable, hset, hstopping⟩ := State.drive_checkStopping (s.stopNest n .guard).arbitrate n
  rw [State.channel_arbitrate] at henable hset hstopping
  obtain ⟨henable', hset', hstopping'⟩ := State.drive_stopNest s n .guard
  rw [hguard]
  refine ⟨?_, ⟨henable.trans henable', hset.trans hset', hstopping.trans hstopping'⟩, fun hst => ?_, fun hst hlist => ?_⟩
  · exact (State.stopNest_stopLocal s n .guard).trans <| (State.arbitrate_stopLocal _ n).trans (State.checkStopping_stopLocal _ n)
  · rw [State.stoppingCause_checkStopping, State.dossier_arbitrate, State.stopNest_of_not_testing (by rw [hst]; decide)]
    rfl
  · obtain ⟨hstopped, hoff⟩ := State.stopNest_stoppedBy (cause := .guard) hst
    exact (hstopped.arbitrate (hoff hlist)).checkStopping

/-- Settles O23: the level alone in most states, and the stop of the nest in TESTING and STOPPING. -/
theorem guardActsOnItsNest : Obligations.GuardActsOnItsNest := by
  refine fun n s => ⟨rfl, fun ht hs => congrArg Host.Outcome.next (State.guardStop_of_other (s := s.setGuard n true) ht hs), fun hst => ?_⟩
  obtain ⟨hlocal, ⟨henable, hset, hstopping⟩, hcause, hstopped⟩ := State.guardStop_stops (s := s.setGuard n true) hst
  exact ⟨_, rfl, hlocal.interlock, henable, hset, hstopping, hlocal.dossier, hlocal.channel, hcause, hstopped⟩

/-! ### The e-stop (R168, R169) -/

/-- What a nest keeps while another nest is stopped: its dossier, drive, capture, LEAK stage and circuits; no job of it and none of
its circuits joins a list. -/
structure SameNest (s t : State) (n : Nest) : Prop where
  dossier : t.dossier n = s.dossier n
  channel : t.channel n = s.channel n
  unit : t.captureUnit n = s.captureUnit n
  leakStage : t.leakStage n = s.leakStage n
  circuit : ∀ c, t.circuit n c = s.circuit n c
  jobs : ∀ j ∈ t.engine.queue, j ∈ s.engine.queue
  waiting : ∀ k ∈ t.arbiter.waiting, k ∈ s.arbiter.waiting

theorem SameNest.refl (s : State) (n : Nest) : SameNest s s n := ⟨rfl, rfl, rfl, rfl, fun _ => rfl, fun _ => id, fun _ => id⟩

theorem SameNest.trans {u : State} (h : SameNest s t n) (k : SameNest t u n) : SameNest s u n :=
  ⟨k.dossier.trans h.dossier, k.channel.trans h.channel, k.unit.trans h.unit, k.leakStage.trans h.leakStage,
    fun c => (k.circuit c).trans (h.circuit c), fun j hj => h.jobs j (k.jobs j hj), fun x hx => h.waiting x (k.waiting x hx)⟩

theorem SameNest.stoppedBy (h : SameNest s t n) (hs : s.stoppedBy n cause) : t.stoppedBy n cause := by
  obtain ⟨hcause, hstopped, hindex, hactivity, hunit, hstage, hcircuits, hjobs⟩ := hs
  simp only [State.stoppedBy, h.dossier, h.channel, h.unit, h.leakStage, h.circuit]
  exact ⟨hcause, hstopped, hindex, hactivity, hunit, hstage, hcircuits, fun j hj => hjobs j (h.jobs j hj)⟩

theorem SameNest.listSound (h : SameNest s t n) (hs : s.listSound n) : t.listSound n := fun c hc => by
  rw [h.circuit]
  exact hs c (h.waiting _ hc)

theorem SameNest.offList (h : SameNest s t n) (hs : s.offList n) : t.offList n := fun c hc => hs c (h.waiting _ hc)

theorem State.stopNest_sameNest (s : State) (n : Nest) (cause : Cause) : SameNest s (s.stopNest n cause) n.other := by
  have hlocal := State.stopNest_stopLocal s n cause
  by_cases h : (s.dossier n).state = .testing
  · obtain ⟨leaks, k0, k1, a, slots, discard, causes, -, -, hsub, -, heq⟩ := State.enterStopping_eq s n cause
    refine ⟨hlocal.dossier, hlocal.channel, hlocal.unit, hlocal.leakStage, fun c => ?_, ?_, ?_⟩ <;> rw [State.stopNest_of_testing h, heq]
    · exact congrArg (fun p : PerChamber Circuit => p.get c) (PerNest.get_set_other ..)
    · exact fun j hj => (List.mem_filter.mp hj).1
    · exact fun k hk => hsub.subset hk
  · rw [State.stopNest_of_not_testing h] at hlocal ⊢
    exact ⟨hlocal.dossier, hlocal.channel, rfl, rfl, fun _ => rfl, fun _ => id, fun _ => id⟩

theorem State.checkStopping_sameNest (s : State) (n : Nest) : SameNest s (s.checkStopping n) n.other := by
  have hlocal := State.checkStopping_stopLocal s n
  rcases State.checkStopping_cases s n with h | ⟨-, -, ds, plans, reports, causes, h⟩
  · rw [h]
    exact SameNest.refl s n.other
  · refine ⟨hlocal.dossier, hlocal.channel, hlocal.unit, hlocal.leakStage, fun c => ?_, ?_, ?_⟩ <;> rw [h]
    · rfl
    · exact fun _ => id
    · exact fun _ => id

/-- What an e-stop activation does to one nest (R168). -/
structure EstopStopped (s t : State) (n : Nest) : Prop where
  enable : (t.channel n).enable = false
  setPoint : (t.channel n).setPoint = 0
  stopping : (t.channel n).stopping = false
  testing : (s.dossier n).state = .testing → t.stoppedBy n .estop ∧
    ((∀ c, (t.circuit n c).state = .idle) →
      ((t.dossier n).state = .judged ∨ (t.dossier n).state = .filed) ∧ (t.dossier n).verdict = some .aborted ∧
        (t.dossier n).verdictCause = some .estop) ∧
    ((∃ c, (t.circuit n c).state ≠ .idle) → (t.dossier n).state = .stopping)
  keepsCause : (s.dossier n).state = .stopping → (t.dossier n).stoppingCause = (s.dossier n).stoppingCause
  untouched : (s.dossier n).state ≠ .testing → (s.dossier n).state ≠ .stopping → t.dossier n = s.dossier n

/-- A STOPPING dossier of a stopped nest with its drive at rest is judged ABORTED with its cause exactly when its circuits are IDLE. -/
theorem State.checkStopping_of_stopped (hstopped : s.stoppedBy n cause) (hst : (s.dossier n).state = .stopping)
    (henable : (s.channel n).enable = false) (hset : (s.channel n).setPoint = 0) :
    ((∀ c, ((s.checkStopping n).circuit n c).state = .idle) →
      (((s.checkStopping n).dossier n).state = .judged ∨ ((s.checkStopping n).dossier n).state = .filed) ∧
        ((s.checkStopping n).dossier n).verdict = some .aborted ∧ ((s.checkStopping n).dossier n).verdictCause = some cause) ∧
    ((∃ c, ((s.checkStopping n).circuit n c).state ≠ .idle) → ((s.checkStopping n).dossier n).state = .stopping) := by
  obtain ⟨hcause, hflag, -⟩ := hstopped
  have hdrive : s.driveAtRest n = true := by rw [State.driveAtRest, henable, hset]; rfl
  have hcircuits (c : Chamber) : (s.checkStopping n).circuit n c = s.circuit n c := by
    rcases State.checkStopping_cases s n with h | ⟨-, -, ds, plans, reports, causes, h⟩ <;> rw [h]
    rfl
  simp only [hcircuits]
  refine ⟨fun hidle => ?_, fun ⟨c, hc⟩ => ?_⟩
  · have hall : s.circuitsIdle n = true := by rw [State.circuitsIdle, hidle .c0, hidle .c1]; rfl
    obtain ⟨⟨st, number, pending, hjudged, hd⟩, -⟩ := State.checkStopping_of_rest s n hst hdrive hall
    have hjudgment : ((s.dossier n).givePending .aborted).judgment = (.aborted, some cause) := by
      rw [Dossier.judgment, ← hcause]
      exact if_pos hflag
    rw [State.dossier, hd, PerNest.get_set_same]
    exact ⟨hjudged, congrArg (fun x : Verdict × Option Cause => some x.1) hjudgment,
      congrArg (fun x : Verdict × Option Cause => x.2) hjudgment⟩
  · have hbusy : s.circuitsIdle n = false := by
      rw [Bool.eq_false_iff, State.circuitsIdle]
      intro hall
      obtain ⟨h0, h1⟩ := Bool.and_eq_true_iff.mp hall
      exact hc (by cases c <;> [exact beq_iff_eq.mp h0; exact beq_iff_eq.mp h1])
    rw [State.checkStopping_of_busy s n fun h => nomatch hbusy.symm.trans h.2.2]
    exact hst

/-- The e-stop on one nest: its own stop, the grant after both stops, its own check, with the other nest's parts between them. -/
theorem estopStopped_of_parts {x c d : State} (hlist : s.listSound n) (hx : SameNest s x n) (hc : SameNest (x.stopNest n .estop) c n)
    (hd : SameNest c.arbitrate d n) (ht : SameNest (d.checkStopping n) t n) : EstopStopped s t n := by
  have hdriveX := State.drive_stopNest x n .estop
  have hdossier : d.dossier n = (x.stopNest n .estop).dossier n := hd.dossier.trans ((State.dossier_arbitrate c n).trans hc.dossier)
  have hchannel : d.channel n = (x.stopNest n .estop).channel n := hd.channel.trans ((State.channel_arbitrate c n).trans hc.channel)
  rw [← hchannel] at hdriveX
  obtain ⟨henable, hset, hstopping⟩ := hdriveX
  obtain ⟨henable', hset', hstopping'⟩ := State.drive_checkStopping d n
  refine ⟨?_, ?_, ?_, fun hst => ?_, fun hst => ?_, fun htesting hstop => ?_⟩
  · rw [ht.channel, henable', henable]
  · rw [ht.channel, hset', hset]
  · rw [ht.channel, hstopping', hstopping]
  · have hst' : (x.dossier n).state = .testing := by rw [hx.dossier]; exact hst
    obtain ⟨hstopped, hoff⟩ := State.stopNest_stoppedBy (cause := .estop) hst'
    have hd' : d.stoppedBy n .estop := hd.stoppedBy ((hc.stoppedBy hstopped).arbitrate (hc.offList (hoff (hx.listSound hlist))))
    have hstate : (d.dossier n).state = .stopping := by
      rw [hdossier, State.stopNest_of_testing hst']
      exact State.dossier_enterStopping x n .estop
    obtain ⟨hidle, hbusy⟩ := State.checkStopping_of_stopped hd' hstate henable hset
    simp only [ht.dossier, ht.circuit]
    exact ⟨ht.stoppedBy hd'.checkStopping, hidle, hbusy⟩
  · have hnot : (x.dossier n).state ≠ .testing := by rw [hx.dossier, hst]; decide
    rw [ht.dossier, State.stoppingCause_checkStopping, hdossier, State.stopNest_of_not_testing hnot, State.dossier_modChannel, hx.dossier]
  · have hnot : (x.dossier n).state ≠ .testing := by rw [hx.dossier]; exact htesting
    have hkept : d.dossier n = s.dossier n := by
      rw [hdossier, State.stopNest_of_not_testing hnot, State.dossier_modChannel, hx.dossier]
    rw [ht.dossier, State.checkStopping_of_not_stopping (by rw [hkept]; exact hstop), hkept]

theorem State.estopActivate_stopped (hlist : ∀ n, s.listSound n) (n : Nest) : EstopStopped s s.estopActivate n := by
  have hset : SameNest s (s.setEstop true) n := ⟨rfl, rfl, rfl, rfl, fun _ => rfl, fun _ => id, fun _ => id⟩
  have hraise (u : State) : SameNest u (u.raise .estopChange) n := ⟨rfl, rfl, rfl, rfl, fun _ => rfl, fun _ => id, fun _ => id⟩
  unfold State.estopActivate
  extract_lets stopped
  cases n
  · exact estopStopped_of_parts (hlist .n0) hset (State.stopNest_sameNest ((s.setEstop true).stopNest .n0 .estop) .n1 .estop) (SameNest.refl stopped .n0)
      ((State.checkStopping_sameNest (stopped.checkStopping .n0) .n1).trans (hraise _))
  · exact estopStopped_of_parts (hlist .n1) (hset.trans (State.stopNest_sameNest (s.setEstop true) .n0 .estop)) (SameNest.refl _ .n1)
      (State.checkStopping_sameNest stopped .n0) (hraise _)

/-- The stops keep the e-stop level. -/
theorem State.estop_estopActivate (s : State) : s.estopActivate.interlock.estop = true := by
  unfold State.estopActivate
  extract_lets stopped
  have hstopped : stopped.interlock = (s.setEstop true).interlock := by
    rw [(State.arbitrate_stopLocal _ .n0).interlock, (State.stopNest_stopLocal _ .n1 .estop).interlock,
      (State.stopNest_stopLocal _ .n0 .estop).interlock]
  rw [State.raise, State.modBench_interlock, (State.checkStopping_stopLocal _ .n1).interlock, (State.checkStopping_stopLocal _ .n0).interlock, hstopped]
  rfl

theorem State.isPending_estopActivate (s : State) : s.estopActivate.bench.isPending .estopChange = true := by
  unfold State.estopActivate
  exact isPending_raise _ _

theorem State.autoStart_of_not (h : (s.dossier n).state ≠ .opened ∨ (s.dossier n).clamped = false ∨ (s.faultList n).causes ≠ [] ∨
    ∀ p, s.planOf n = some p → p.autoStart = false) : s.autoStart n = s := by
  refine if_neg fun hholds => ?_
  rcases hp : s.planOf n with - | p
  · simp [State.autoStartHolds, hp] at hholds
  · obtain ⟨hst, hclamped, hauto, -, hfaults⟩ := (State.autoStartHolds_iff hp).mp hholds
    rcases h with h | h | h | h
    · exact h hst
    · exact nomatch h.symm.trans hclamped
    · exact h hfaults
    · exact nomatch (h p hp).symm.trans hauto

/-- Settles O22: the activation nest by nest, and the two clearings. -/
theorem estopStopsAndStarts : Obligations.EstopStopsAndStarts := by
  refine ⟨fun s hlist => ⟨s.estopActivate, rfl, State.estop_estopActivate s, State.isPending_estopActivate s, fun n => ?_⟩,
    fun s => ⟨fun hnot => ?_, fun n p a as rest hst hclamped hfaults hp hauto hstages ha hother => ?_⟩⟩
  · have h := State.estopActivate_stopped hlist n
    exact ⟨h.enable, h.setPoint, h.stopping, h.testing, h.keepsCause, h.untouched⟩
  · refine congrArg Host.Outcome.next (?_ : s.estopClear = _)
    have h0 : ((s.setEstop false).raise .estopChange).autoStart .n0 = (s.setEstop false).raise .estopChange := State.autoStart_of_not (hnot .n0)
    have h1 : ((s.setEstop false).raise .estopChange).autoStart .n1 = (s.setEstop false).raise .estopChange := State.autoStart_of_not (hnot .n1)
    rw [State.estopClear, h0, h1]
    rfl
  · generalize hu : ((s.setEstop false).raise .estopChange) = u
    have hstart : u.autoStart n = { u with
        dossiers := u.dossiers.set n ((u.dossier n).startedFields p (u.classOf n))
        channels := u.channels.set n ((u.channel n).engageBegun u.interlock.permitLive a) } := by
      have hplan : u.planOf n = some p := by rw [← hu]; exact hp
      have hholds : u.autoStartHolds n = true := by
        rw [State.autoStartHolds_iff hplan, ← hu]
        exact ⟨hst, hclamped, hauto, rfl, hfaults⟩
      rw [State.autoStart, if_pos hholds, State.startDossier_engage hplan hstages ha]
    have hskip (v : State) (hv : v.dossier n.other = s.dossier n.other) : v.autoStart n.other = v :=
      State.autoStart_of_not (.inl (by rw [hv]; exact hother))
    have hclear : s.estopClear = (u.autoStart .n0).autoStart .n1 := by rw [← hu]; rfl
    have hboth : (u.autoStart .n0).autoStart .n1 = u.autoStart n := by
      cases n
      · exact hskip _ (by rw [hstart, ← hu]; rfl)
      · exact congrArg (fun v : State => v.autoStart .n1) (hskip u (by rw [← hu]; rfl))
    refine congrArg Host.Outcome.next (hclear.trans (hboth.trans (hstart.trans ?_)))
    rw [← hu]
    rfl

end

end Sys2Proof.Machine
end

section
/-! PROOFS. The drive channel's failures, its controlled stop and the end of a drive stage. -/

namespace Sys2Proof.Machine

/-! ### What a drive event leaves alone (R59) -/

section
variable {s t u : State} {n : Nest}

theorem State.sameElsewhere.refl (s : State) (n : Nest) : s.sameElsewhere s n := ⟨rfl, rfl, rfl, rfl, rfl, rfl, rfl⟩

theorem State.sameElsewhere.trans (h : s.sameElsewhere t n) (k : t.sameElsewhere u n) : s.sameElsewhere u n := by
  obtain ⟨h1, h2, h3, h4, h5, h6, h7⟩ := h
  obtain ⟨k1, k2, k3, k4, k5, k6, k7⟩ := k
  exact ⟨k1.trans h1, k2.trans h2, k3.trans h3, k4.trans h4, k5.trans h5, k6.trans h6, k7.trans h7⟩

/-- A change of one nest's dossier, channel and unit, of slots, engine, plans, reports, vibration and bench is no change elsewhere. -/
theorem State.sameElsewhere_of_parts (d : Dossier) (ch : Channel) (cu : CaptureUnit) (h : t =
    { s with
      dossiers := s.dossiers.set n d
      channels := s.channels.set n ch
      units := s.units.set n cu
      slots := t.slots
      engine := t.engine
      plans := t.plans
      reports := t.reports
      bench := t.bench }) : s.sameElsewhere t n := by
  rw [h]
  exact ⟨PerNest.get_set_other .., PerNest.get_set_other .., PerNest.get_set_other .., rfl, rfl, rfl, rfl⟩

end

/-! ### The end of a capture (R130, R132, R146) -/

section
variable (s : State) (n : Nest)

theorem State.dossiers_set_captures :
    s.dossiers.set n { s.dossier n with captures := (s.dossier n).captures } = s.dossiers := PerNest.set_get ..

theorem State.channels_set_activity :
    s.channels.set n { s.channel n with activity := (s.channel n).activity } = s.channels := PerNest.set_get ..

theorem State.units_set_unit : s.units.set n (s.captureUnit n) = s.units := PerNest.set_get ..

/-- A judgment changes capture records alone. -/
theorem State.judgeCapture_eq (number : Nat) : ∃ captures, s.judgeCapture n number =
    { s with dossiers := s.dossiers.set n { s.dossier n with captures := captures } } := by
  unfold State.judgeCapture
  split
  · refine ⟨(s.dossier n).captures, ?_⟩
    rw [State.dossiers_set_captures]
  · exact ⟨_, rfl⟩

/-- A capture that is not stopped ends with a change of the capture records and of the sequencer's counters alone, beside its slot. -/
theorem State.endCapture_eq (why : CaptureEnd) : ∃ captures activity slots, s.endCapture n why =
    { s with
      dossiers := s.dossiers.set n { s.dossier n with captures := captures }
      channels := s.channels.set n { s.channel n with activity := activity }
      slots := slots
      units := s.units.set n .idle } ∧
      (activity = (s.channel n).activity ∨ activity = (s.channel n).activity.captureEnded) := by
  have hfinish (slots : Vector Slot 4) (number : Nat) : ∃ captures activity, ({ s with slots := slots } : State).finishCapture n number why =
      { s with
        dossiers := s.dossiers.set n { s.dossier n with captures := captures }
        channels := s.channels.set n { s.channel n with activity := activity }
        slots := slots
        units := s.units.set n .idle } ∧
        (activity = (s.channel n).activity ∨ activity = (s.channel n).activity.captureEnded) := by
    unfold State.finishCapture
    extract_lets ended
    split
    · refine ⟨(s.dossier n).captures, (s.channel n).activity, ?_, .inl rfl⟩
      rw [State.dossiers_set_captures, State.channels_set_activity]
      rfl
    · obtain ⟨captures, h⟩ := State.judgeCapture_eq ((ended.modChannel n fun ch =>
        { ch with activity := ch.activity.captureEnded }).modCaptureRecord n number fun r => r.endWithoutBlock why) n number
      refine ⟨captures, (s.channel n).activity.captureEnded, ?_, .inr rfl⟩
      rw [h]
      simp only [State.modCaptureRecord, State.modDossier, State.modChannel, State.dossier, PerNest.mod, PerNest.get_set_same, PerNest.set_set]
      rfl
  unfold State.endCapture
  split
  · next hu =>
    have hunits : s.units.set n .idle = s.units := by rw [← hu, State.captureUnit, PerNest.set_get]
    refine ⟨(s.dossier n).captures, (s.channel n).activity, s.slots, ?_, .inl rfl⟩
    rw [State.dossiers_set_captures, State.channels_set_activity, hunits]
  · obtain ⟨captures, activity, h⟩ := hfinish s.slots _
    exact ⟨captures, activity, s.slots, h⟩
  · obtain ⟨captures, activity, h⟩ := hfinish _ _
    exact ⟨captures, activity, _, h⟩

/-! ### Run-in failures (R25, R97) -/

/-- The position that a failure's skipping starts from: the stage in progress or the last one begun. -/
def Dossier.position (d : Dossier) : Nat := (d.stageIndex.orElse fun _ => d.lastBegun).getD 0

/-- A failure marks the later REFERENCE and PROFILE positions, and may skip capture records. -/
theorem Dossier.skipLater_eq (d : Dossier) (p : Plan) : ∃ skipped captures, d.skipLater p = { d with skipped := skipped, captures := captures } ∧
    ∀ j, j ∈ skipped ↔ j ∈ d.skipped ∨ (d.position < j ∧ (p.stages[j]? = some .reference ∨ p.stages[j]? = some .profile)) := by
  unfold Dossier.skipLater
  extract_lets later marks marked
  have hlater (st : Stage) (j : Nat) : (st, j) ∈ later ↔ d.position < j ∧ p.stages[j]? = some st := by
    show (st, j) ∈ p.stages.zipIdx.drop (d.position + 1) ↔ _
    rw [List.mem_iff_getElem?]
    constructor
    · rintro ⟨k, hk⟩
      rw [List.getElem?_drop, List.getElem?_zipIdx, Option.map_eq_some_iff] at hk
      obtain ⟨st', hst, hpair⟩ := hk
      obtain ⟨rfl, hj⟩ := Prod.mk.inj hpair
      rw [Nat.zero_add] at hj
      exact ⟨by omega, hj ▸ hst⟩
    · rintro ⟨hj, hst⟩
      refine ⟨j - (d.position + 1), ?_⟩
      rw [List.getElem?_drop, List.getElem?_zipIdx, Nat.add_sub_cancel' hj, hst, Option.map_some, Nat.zero_add]
  have hmarks (j : Nat) : j ∈ marks ↔ d.position < j ∧ (p.stages[j]? = some .reference ∨ p.stages[j]? = some .profile) := by
    simp only [marks, List.mem_map, List.mem_filter, Prod.exists, exists_eq_right, decide_eq_true_eq, hlater]
    constructor
    · rintro ⟨st, ⟨hj, hst⟩, rfl | rfl⟩
      · exact ⟨hj, .inl hst⟩
      · exact ⟨hj, .inr hst⟩
    · rintro ⟨hj, hst | hst⟩
      · exact ⟨_, ⟨hj, hst⟩, .inl rfl⟩
      · exact ⟨_, ⟨hj, hst⟩, .inr rfl⟩
  have hskipped (j : Nat) : j ∈ d.skipped ++ marks.filter (fun i => i ∉ d.skipped) ↔
      j ∈ d.skipped ∨ (d.position < j ∧ (p.stages[j]? = some .reference ∨ p.stages[j]? = some .profile)) := by
    rw [List.mem_append, List.mem_filter, decide_eq_true_eq, ← hmarks]
    by_cases hj : j ∈ d.skipped <;> simp [hj]
  split
  · exact ⟨_, _, rfl, hskipped⟩
  · exact ⟨_, d.captures, rfl, hskipped⟩

/-- The run-in record of a dossier with a result given to it (R97). -/
def Dossier.runInGiven (d : Dossier) (g : Given) : Option RunInRecord := d.runIn.map fun r => { r with given := giveResult r.given g }

theorem Activity.markFailed_eq_idle {a : Activity} : a.markFailed = .idle ↔ a = .idle := by cases a <;> simp [Activity.markFailed]

theorem Activity.captureEnded_eq_idle {a : Activity} : a.captureEnded = .idle ↔ a = .idle := by cases a <;> simp [Activity.captureEnded]

/-- The withdrawal of a capture: its records, the sequencer's counters, its slot and its unit alone (R95). -/
theorem State.withdrawCapture_eq : ∃ captures activity slots unit, s.withdrawCapture n =
    { s with
      dossiers := s.dossiers.set n { s.dossier n with captures := captures }
      channels := s.channels.set n { s.channel n with activity := activity }
      slots := slots
      units := s.units.set n unit } ∧
      (activity = (s.channel n).activity ∨ activity = (s.channel n).activity.captureEnded) ∧
      (s.captureUnit n = .idle → unit = .idle) := by
  have hsame : s = { s with
      dossiers := s.dossiers.set n { s.dossier n with captures := (s.dossier n).captures }
      channels := s.channels.set n { s.channel n with activity := (s.channel n).activity }
      units := s.units.set n (s.captureUnit n) } := by
    rw [State.dossiers_set_captures, State.channels_set_activity, State.units_set_unit]
  have hkept : ∃ captures activity slots unit, s =
      { s with
        dossiers := s.dossiers.set n { s.dossier n with captures := captures }
        channels := s.channels.set n { s.channel n with activity := activity }
        slots := slots
        units := s.units.set n unit } ∧
        (activity = (s.channel n).activity ∨ activity = (s.channel n).activity.captureEnded) ∧
        (s.captureUnit n = .idle → unit = .idle) :=
    ⟨_, _, s.slots, s.captureUnit n, hsame, .inl rfl, id⟩
  unfold State.withdrawCapture
  split
  · split
    · obtain ⟨captures, activity, slots, h, hactivity⟩ := State.endCapture_eq s n .withdrawn
      exact ⟨captures, activity, slots, .idle, h, hactivity, fun _ => rfl⟩
    · exact hkept
  · exact hkept

/-- A run-in failure (R25): FAIL to the run-in record, later stages skipped; beside that the capture's records, counters, slot and
unit alone. -/
theorem State.failRunIn_eq (cause : Cause) : ∃ skipped captures activity slots unit, s.failRunIn n cause =
    { s with
      dossiers := s.dossiers.set n
        { s.dossier n with runIn := (s.dossier n).runInGiven (failed cause), skipped := skipped, captures := captures }
      channels := s.channels.set n { s.channel n with activity := activity }
      slots := slots
      units := s.units.set n unit } ∧
      (activity = .idle ↔ (s.channel n).activity = .idle) ∧
      (s.captureUnit n = .idle → unit = .idle) ∧
      ∀ p, s.planOf n = some p → ∀ j, j ∈ skipped ↔
        j ∈ (s.dossier n).skipped ∨ ((s.dossier n).position < j ∧ (p.stages[j]? = some .reference ∨ p.stages[j]? = some .profile)) := by
  unfold State.failRunIn
  extract_lets given skippedLater
  have hgiven : given = { s with
      dossiers := s.dossiers.set n { s.dossier n with runIn := (s.dossier n).runInGiven (failed cause) } } := rfl
  have hplan : given.planOf n = s.planOf n := by
    rw [hgiven, State.planOf, State.dossier, PerNest.get_set_same]
    rfl
  have hlater : ∃ skipped captures, skippedLater = { s with
      dossiers := s.dossiers.set n
        { s.dossier n with runIn := (s.dossier n).runInGiven (failed cause), skipped := skipped, captures := captures } } ∧
      ∀ p, s.planOf n = some p → ∀ j, j ∈ skipped ↔
        j ∈ (s.dossier n).skipped ∨ ((s.dossier n).position < j ∧ (p.stages[j]? = some .reference ∨ p.stages[j]? = some .profile)) := by
    rcases hp : s.planOf n with - | p
    · refine ⟨(s.dossier n).skipped, (s.dossier n).captures, ?_, nofun⟩
      simp only [skippedLater, hplan, hp]
      exact hgiven
    · have hd : given.dossier n = { s.dossier n with runIn := (s.dossier n).runInGiven (failed cause) } := PerNest.get_set_same ..
      obtain ⟨skipped, captures, hskip, hmem⟩ := Dossier.skipLater_eq (given.dossier n) p
      have hstep : skippedLater = { given with dossiers := given.dossiers.set n ((given.dossier n).skipLater p) } := by
        simp only [skippedLater, hplan, hp]
        rfl
      refine ⟨skipped, captures, ?_, fun q hq => ?_⟩
      · rw [hstep, hskip, hd, hgiven, PerNest.set_set]
      · cases hq
        rw [hd] at hmem
        exact hmem
  obtain ⟨skipped, captures, hlater, hmem⟩ := hlater
  obtain ⟨captures', activity, slots, unit, hwithdraw, hactivity, hunit⟩ :=
    State.withdrawCapture_eq (skippedLater.modChannel n fun ch => { ch with activity := ch.activity.markFailed }) n
  have hmarked : (skippedLater.modChannel n fun ch => { ch with activity := ch.activity.markFailed }).channel n =
      { s.channel n with activity := (s.channel n).activity.markFailed } := by
    rw [State.channel_modChannel_same, hlater]
    rfl
  rw [hmarked] at hactivity
  refine ⟨skipped, captures', activity, slots, unit, ?_, ?_, fun hu => hunit (by rw [hlater]; exact hu), hmem⟩
  · rw [hwithdraw, hlater]
    simp only [State.modChannel, State.dossier, State.channel, PerNest.mod, PerNest.get_set_same, PerNest.set_set]
    rfl
  · rcases hactivity with rfl | rfl
    · exact Activity.markFailed_eq_idle
    · exact Activity.captureEnded_eq_idle.trans Activity.markFailed_eq_idle

end

/-! ### The end of the last stage (R22, R24, R65) -/

section
variable {s t : State} {n : Nest} {p : Plan} {i : Nat} {st : Stage} {cause : Cause}

theorem Plan.stagesAfter_last (h : i + 1 = p.stages.length) : p.stagesAfter i = [] := by
  rw [Plan.stagesAfter, List.drop_eq_nil_iff, List.length_zipIdx, h]

/-- What a check of R28 may change: the dossier's verdict and filing, the channel's references. -/
theorem State.checkTested_eq (s : State) (n : Nest) : ∃ d plans reports causes engaged reference,
    s.checkTested n =
      { s with
        dossiers := s.dossiers.set n d
        channels := s.channels.set n { s.channel n with engaged := engaged, reference := reference }
        plans := plans
        reports := reports
        bench := { s.bench with causes := causes } } ∧
      d.stageIndex = (s.dossier n).stageIndex ∧ d.runIn = (s.dossier n).runIn ∧ d.captures = (s.dossier n).captures := by
  unfold State.checkTested
  split
  · obtain ⟨st, number, pending, plans, reports, causes, -, h⟩ := State.enterJudged_eq s n
    exact ⟨_, plans, reports, causes, false, none, h, rfl, rfl, rfl⟩
  · refine ⟨s.dossier n, s.plans, s.reports, s.bench.causes, (s.channel n).engaged, (s.channel n).reference, ?_, rfl, rfl, rfl⟩
    have hd : s.dossiers.set n (s.dossier n) = s.dossiers := PerNest.set_get ..
    have hc : s.channels.set n (s.channel n) = s.channels := PerNest.set_get ..
    exact (congrArg₂ (fun a b => { s with dossiers := a, channels := b }) hd hc).symm

/-- The nest with its last stage closed and no stage left. -/
def State.lastClosed (s : State) (n : Nest) (st : Stage) : State :=
  { s with
    dossiers := s.dossiers.set n { (s.dossier n).closeStage st [] with stageIndex := none }
    channels := s.channels.set n { s.channel n with activity := .idle } }

theorem State.dossier_lastClosed (s : State) (n : Nest) (st : Stage) :
    (s.lastClosed n st).dossier n = { (s.dossier n).closeStage st [] with stageIndex := none } := PerNest.get_set_same ..

theorem State.channel_lastClosed (s : State) (n : Nest) (st : Stage) :
    (s.lastClosed n st).channel n = { s.channel n with activity := .idle } := PerNest.get_set_same ..

/-- What the end of the last stage of the list leaves: no stage, its records closed, the drive as it was but its references. -/
structure StageOver (s t : State) (n : Nest) (st : Stage) : Prop where
  frame : ∃ d plans reports causes engaged reference, t =
    { s with
      dossiers := s.dossiers.set n d
      channels := s.channels.set n { s.channel n with activity := .idle, engaged := engaged, reference := reference }
      plans := plans
      reports := reports
      bench := { s.bench with causes := causes } }
  stageIndex : (t.dossier n).stageIndex = none
  runIn : (t.dossier n).runIn = ((s.dossier n).closeStage st []).runIn
  captures : (t.dossier n).captures = ((s.dossier n).closeStage st []).captures

theorem StageOver.sameElsewhere (h : StageOver s t n st) : s.sameElsewhere t n := by
  obtain ⟨d, plans, reports, causes, engaged, reference, rfl⟩ := h.frame
  exact ⟨PerNest.get_set_other .., PerNest.get_set_other .., rfl, rfl, rfl, rfl, rfl⟩

theorem StageOver.channel (h : StageOver s t n st) : (t.channel n).activity = .idle ∧ (t.channel n).enable = (s.channel n).enable ∧
    (t.channel n).setPoint = (s.channel n).setPoint ∧ (t.channel n).stopping = (s.channel n).stopping := by
  obtain ⟨d, plans, reports, causes, engaged, reference, rfl⟩ := h.frame
  simp only [State.channel, PerNest.get_set_same, and_self]

theorem StageOver.unit (h : StageOver s t n st) (m : Nest) : t.captureUnit m = s.captureUnit m := by
  obtain ⟨d, plans, reports, causes, engaged, reference, rfl⟩ := h.frame
  rfl

/-- The end of the drive stage in progress, the last of its list. -/
theorem State.endDriveStage_last (hs : s.stageIs n p i st) (hlast : i + 1 = p.stages.length) :
    StageOver s (s.endDriveStage n) n st := by
  obtain ⟨htesting, hp, hindex, hst⟩ := hs
  have hend : s.endDriveStage n = (s.lastClosed n st).checkTested n := by
    have hplan : (s.setActivity n .idle).planOf n = some p := hp
    have hindex' : ((s.setActivity n .idle).dossier n).stageIndex = some i := hindex
    have htesting' : ((s.setActivity n .idle).dossier n).state = .testing := htesting
    rw [State.endDriveStage, State.stageEnded]
    simp only [hplan, hindex', htesting', if_true, hst, Plan.stagesAfter_last hlast, State.walkStages, State.modDossier, PerNest.mod,
      PerNest.get_set_same, PerNest.set_set]
    rfl
  obtain ⟨d, plans, reports, causes, engaged, reference, h, hdindex, hrunIn, hcaptures⟩ := State.checkTested_eq (s.lastClosed n st) n
  rw [State.dossier_lastClosed] at hdindex hrunIn hcaptures
  rw [hend, h, State.channel_lastClosed]
  refine ⟨⟨d, plans, reports, causes, engaged, reference, ?_⟩, ?_, ?_, ?_⟩
  · simp only [State.lastClosed, PerNest.set_set]
  all_goals rw [State.dossier, PerNest.get_set_same]
  · exact hdindex
  · exact hrunIn
  · exact hcaptures

/-- A drive stage closed at the end of the list gives PASS to a pending run-in record (R24). -/
theorem Dossier.runIn_closeStage_last (d : Dossier) (hst : st.isDrive = true) :
    (d.closeStage st []).runIn = d.runIn.map fun r => { r with given := some (r.given.getD passed) } := by
  unfold Dossier.closeStage
  extract_lets skipped
  rw [hst]
  have hsame : skipped.runIn = d.runIn := by
    show (if st = .profile then d.skipUnrequested else d).runIn = d.runIn
    split <;> rfl
  simp [hsame]

theorem giveResult_failed_isSome (g : Option Given) (cause : Cause) : ∃ x, giveResult g (failed cause) = some x := by
  rcases giveResult_cases g (failed cause) with h | ⟨x, -, h⟩ <;> exact ⟨_, h⟩

/-- The run-in record of a failure, whatever closes a stage after it (R97). -/
theorem State.runInFailed_of_given (h : (t.dossier n).runIn = (s.dossier n).runInGiven (failed cause)) : s.runInFailed t n cause := by
  intro r hr
  refine ⟨{ r with given := giveResult r.given (failed cause) }, ?_, fun hopen => ?_, fun g hg hfail => ?_⟩
  · rw [h, Dossier.runInGiven, hr, Option.map_some]
  · rcases hopen with hnone | ⟨g, hg, hnot⟩
    · exact congrArg (giveResult · (failed cause)) hnone
    · show giveResult r.given (failed cause) = _
      rw [hg, giveResult, if_pos ⟨hnot, rfl⟩]
      rfl
  · show giveResult r.given (failed cause) = some g
    rw [hg, giveResult, if_neg fun hc => hc.1 hfail]

/-- A stage that ends after a failure keeps the result of the failure. -/
theorem Dossier.runInGiven_closed (d : Dossier) (cause : Cause) :
    ((d.runInGiven (failed cause)).map fun r => { r with given := some (r.given.getD passed) }) = d.runInGiven (failed cause) := by
  rcases hr : d.runIn with - | r
  · rw [Dossier.runInGiven, hr]
    rfl
  · obtain ⟨x, hx⟩ := giveResult_failed_isSome r.given cause
    simp only [Dossier.runInGiven, hr, Option.map_some, hx, Option.getD_some]

/-- A failure keeps the stage in progress. -/
theorem State.stageIs_failRunIn (hs : s.stageIs n p i st) : (s.failRunIn n cause).stageIs n p i st := by
  obtain ⟨skipped, captures, activity, slots, unit, h, -⟩ := State.failRunIn_eq s n cause
  obtain ⟨htesting, hp, hindex, hst⟩ := hs
  rw [h]
  refine ⟨?_, ?_, ?_, hst⟩
  · rw [State.dossier, PerNest.get_set_same]
    exact htesting
  · rw [State.planOf, State.dossier, PerNest.get_set_same]
    exact hp
  · rw [State.dossier, PerNest.get_set_same]
    exact hindex

theorem State.failRunIn_sameElsewhere (s : State) (n : Nest) (cause : Cause) : s.sameElsewhere (s.failRunIn n cause) n := by
  obtain ⟨skipped, captures, activity, slots, unit, h, -⟩ := State.failRunIn_eq s n cause
  rw [h]
  exact ⟨PerNest.get_set_other .., PerNest.get_set_other .., PerNest.get_set_other .., rfl, rfl, rfl, rfl⟩

/-- A failure of the last stage with the drive at rest ends it (R62, R63). -/
theorem State.failAtRest_last (hs : s.stageIs n p i st) (hst : st.isDrive = true) (hlast : i + 1 = p.stages.length)
    (henable : (s.channel n).enable = false) (hset : (s.channel n).setPoint = 0) : s.failedAtRest (s.failAtRest n cause) n cause := by
  have hover := State.endDriveStage_last (State.stageIs_failRunIn (cause := cause) hs) hlast
  have helse := (State.failRunIn_sameElsewhere s n cause).trans hover.sameElsewhere
  obtain ⟨hidle, henable', hset', -⟩ := hover.channel
  have hrunIn := hover.runIn
  rw [Dossier.runIn_closeStage_last _ hst] at hrunIn
  obtain ⟨skipped, captures, activity, slots, unit, h, -⟩ := State.failRunIn_eq s n cause
  have hgiven : ((s.failRunIn n cause).dossier n).runIn = (s.dossier n).runInGiven (failed cause) := by
    rw [h, State.dossier, PerNest.get_set_same]
  have hchannel : (s.failRunIn n cause).channel n = { s.channel n with activity := activity } := by
    rw [h, State.channel, PerNest.get_set_same]
  rw [hgiven, Dossier.runInGiven_closed] at hrunIn
  rw [hchannel] at henable' hset'
  exact ⟨State.runInFailed_of_given hrunIn, hover.stageIndex, hidle, henable'.trans henable, hset'.trans hset, helse⟩

/-- A failure of the last stage leaves an idle capture unit idle. -/
theorem State.unit_failAtRest_last (hs : s.stageIs n p i st) (hlast : i + 1 = p.stages.length) (hunit : s.captureUnit n = .idle) :
    (s.failAtRest n cause).captureUnit n = .idle := by
  have hover := State.endDriveStage_last (State.stageIs_failRunIn (cause := cause) hs) hlast
  obtain ⟨skipped, captures, activity, slots, unit, h, -, hidle, -⟩ := State.failRunIn_eq s n cause
  refine (hover.unit n).trans ?_
  rw [h, State.captureUnit, PerNest.get_set_same]
  exact hidle hunit

end

end Sys2Proof.Machine
end

section
/-! PROOFS. The drive update: its parts that act only in a capture, a ZERO or a PROFILE stage, and the controlled stop. -/

namespace Sys2Proof.Machine

section
variable {s t : State} {n : Nest} {u : UpdateInput} {p : Plan} {i : Nat} {st : Stage} {cause : Cause}

/-! ### What an update leaves out (R60, R94, R127, R164) -/

theorem State.zeroSample_of_none {target : ZeroTarget} {raw : Int} {fault : Bool} (h : s.interlock.zero = none) :
    s.zeroSample n target raw fault = s := by simp only [State.zeroSample, h]

theorem State.lookForSlot_of_idle (h : s.captureUnit n = .idle) : s.lookForSlot n = s := by simp only [State.lookForSlot, h]

theorem State.endZeroOnEnable_of_none (h : s.interlock.zero = none) : s.endZeroOnEnable n = s := by
  simp [State.endZeroOnEnable, State.zeroTargets, h]

theorem State.raisePeak_of_other {torque : Int} (h : ∀ c, (s.channel n).activity ≠ .profiling c) : s.raisePeak n torque = s := by
  unfold State.raisePeak
  split
  · next c hc => exact absurd hc (h c)
  · rfl

/-- With no ZERO an update is the peak torque, the channel's work and the look for a slot. -/
theorem State.driveUpdate_of_noZero (hzero : s.interlock.zero = none) : s.driveUpdate u =
    ((s.raisePeak u.nest (s.torqueAt u)).channelUpdate u.nest (s.torqueAt u) u.seated).lookForSlot u.nest := by
  simp only [State.driveUpdate, State.zeroSample_of_none hzero]
  rfl

/-- Outside PROFILING, with no ZERO and no capture after it, an update is the channel's work. -/
theorem State.driveUpdate_eq (hzero : s.interlock.zero = none) (hact : ∀ c, (s.channel u.nest).activity ≠ .profiling c)
    (hwork : s.channelUpdate u.nest (s.torqueAt u) u.seated = t) (hunit : t.captureUnit u.nest = .idle) : s.driveUpdate u = t := by
  rw [State.driveUpdate_of_noZero hzero, State.raisePeak_of_other hact, hwork, State.lookForSlot_of_idle hunit]

theorem State.channelUpdate_of_stopping {torque : Int} {seated : Bool} (h : (s.channel n).stopping = true) :
    s.channelUpdate n torque seated = s.stopUpdate n := if_pos h

/-! ### The controlled stop (R63) -/

theorem moveToward_zero_of_far {x : Int} (h : 3 < x.natAbs) :
    moveToward 0 3 x = (if 0 < x then x - 3 else x + 3) ∧ moveToward 0 3 x ≠ 0 := by
  unfold moveToward
  split <;> split <;> omega

theorem moveToward_zero_of_near {x : Int} (h : x.natAbs ≤ 3) : moveToward 0 3 x = 0 := by
  unfold moveToward
  split <;> omega

/-- An update of a stop that does not reach 0. -/
theorem State.stopUpdate_of_far (h : 3 < (s.channel n).setPoint.natAbs) (henable : (s.channel n).enable = true) :
    s.stopUpdate n = { s with
      channels := s.channels.set n
        { s.channel n with setPoint := if 0 < (s.channel n).setPoint then (s.channel n).setPoint - 3 else (s.channel n).setPoint + 3 } } := by
  obtain ⟨hmove, hne⟩ := moveToward_zero_of_far h
  unfold State.stopUpdate
  extract_lets x
  rw [if_neg hne]
  show s.modChannel n (fun ch => ch.send (moveToward 0 3 (s.channel n).setPoint)) = _
  rw [hmove, State.modChannel, PerNest.mod]
  show { s with channels := s.channels.set n ((s.channel n).send _) } = _
  rw [Channel.send, if_pos henable]

/-- An update of a stop that reaches 0: the enable turns off. -/
theorem State.stopUpdate_of_near (h : (s.channel n).setPoint.natAbs ≤ 3) :
    s.stopUpdate n = (s.modChannel n Channel.immediateStop).driveDropped n := by
  unfold State.stopUpdate
  extract_lets x
  exact if_pos (moveToward_zero_of_near h)

/-! ### A failure at rest and a failure in motion (R62, R63, R66, R74, R87) -/

/-- A failing enabling check, as it acts in the last stage of the list (R62). -/
theorem State.refuseEnable_last {readsClass : Bool} {check : EnableCheck} {held : Prop} (hs : s.stageIs n p i st) (hst : st.isDrive = true)
    (hlast : i + 1 = p.stages.length) (henable : (s.channel n).enable = false) (hset : (s.channel n).setPoint = 0)
    (hunit : s.captureUnit n = .idle) (hlist : s.listSound n) (hheld : held ↔ readsClass = true ∧ s.classOf n = 7)
    (hcheck : s.enableCheck n readsClass = check) (hfails : check ≠ .granted) :
    (s.refuseEnable n check).captureUnit n = .idle ∧ s.enableRefused (s.refuseEnable n check) n held := by
  subst hcheck
  have hheld' : (readsClass && s.classOf n == 7) = true ↔ held := by rw [hheld, Bool.and_eq_true, beq_iff_eq]
  have hfail (cause : Cause) : s.failedAtRest (s.failAtRest n cause) n cause := State.failAtRest_last hs hst hlast henable hset
  have hidle (cause : Cause) : (s.failAtRest n cause).captureUnit n = .idle := State.unit_failAtRest_last hs hlast hunit
  by_cases hguard : s.interlock.guardOpen.get n = true
  · have hc : s.enableCheck n readsClass = .openGuard := if_pos hguard
    rw [hc]
    obtain ⟨hlocal, ⟨h1, h2, h3⟩, -, hstopped⟩ := State.guardStop_stops (s := s) (n := n) (.inl hs.1)
    have hstopped := hstopped hs.1 hlist
    obtain ⟨-, -, -, -, hidle', -⟩ := id hstopped
    exact ⟨hidle', fun _ => ⟨hstopped, h1, h2, h3, hlocal.dossier, hlocal.channel, hlocal.interlock⟩,
      fun hclosed => absurd (hguard.symm.trans hclosed) (by decide)⟩
  have hclosed := Bool.eq_false_iff.mpr hguard
  by_cases hfault : s.interlock.driveFault.get n = true
  · have hc : s.enableCheck n readsClass = .failure .driveFault := (if_neg hguard).trans (if_pos hfault)
    rw [hc]
    exact ⟨hidle _, fun ho => absurd ho hguard, fun _ => ⟨fun _ => hfail _, fun hno => absurd (hfault.symm.trans hno) (by decide)⟩⟩
  have hnofault := Bool.eq_false_iff.mpr hfault
  by_cases hclass : held
  · have hc : s.enableCheck n readsClass = .failure .overheat :=
      (if_neg hguard).trans <| (if_neg hfault).trans <| if_pos (hheld'.mpr hclass)
    rw [hc]
    exact ⟨hidle _, fun ho => absurd ho hguard, fun _ => ⟨fun hf => absurd hf hfault, fun _ => ⟨fun _ => hfail _, fun hno => absurd hclass hno⟩⟩⟩
  rcases hlive : s.interlock.permitLive with - | -
  · have hc : s.enableCheck n readsClass = .failure .permitLapse :=
      (if_neg hguard).trans <| (if_neg hfault).trans <| (if_neg (mt hheld'.mp hclass)).trans (if_pos (by rw [hlive]; rfl))
    rw [hc]
    exact ⟨hidle _, fun ho => absurd ho hguard, fun _ => ⟨fun hf => absurd hf hfault, fun _ => ⟨fun hh => absurd hh hclass, fun _ _ => hfail _⟩⟩⟩
  · exact absurd ((if_neg hguard).trans <| (if_neg hfault).trans <| (if_neg (mt hheld'.mp hclass)).trans (if_neg (by rw [hlive]; decide))) hfails

theorem State.enableRefused_of_granted {readsClass : Bool} {held : Prop} (hheld : held ↔ readsClass = true ∧ s.classOf n = 7)
    (hcheck : s.enableCheck n readsClass = .granted) : s.enableRefused t n held := by
  have hheld' : (readsClass && s.classOf n == 7) = true ↔ held := by rw [hheld, Bool.and_eq_true, beq_iff_eq]
  unfold State.enableCheck at hcheck
  split at hcheck
  · cases hcheck
  split at hcheck
  · cases hcheck
  split at hcheck
  · cases hcheck
  split at hcheck
  · cases hcheck
  next hguard hfault hclass hlive =>
  have hlive' : s.interlock.permitLive = true := by
    rcases h : s.interlock.permitLive with - | -
    · exact absurd (by rw [h]; rfl) hlive
    · rfl
  exact ⟨fun ho => absurd ho hguard, fun _ => ⟨fun hf => absurd hf hfault, fun _ =>
    ⟨fun hh => absurd (hheld'.mpr hh) hclass, fun _ hno => absurd (hlive'.symm.trans hno) (by decide)⟩⟩⟩

theorem State.enableCheck_granted {readsClass : Bool} (h : s.enableAllowed n) (hclass : readsClass = true → s.classOf n ≠ 7) :
    s.enableCheck n readsClass = .granted := by
  obtain ⟨hguard, hfault, hlive⟩ := h
  have hheld : (readsClass && s.classOf n == 7) = false := by
    rw [Bool.and_eq_false_imp, beq_eq_false_iff_ne]
    exact hclass
  simp [State.enableCheck, hguard, hfault, hlive, hheld]

/-- A failure of a stage with the drive in motion (R63, R66, R74, R87). -/
theorem State.failMoving_far (hs : s.stageIs n p i st) (henable : (s.channel n).enable = true) (hfar : 3 < (s.channel n).setPoint.natAbs) :
    s.failedMoving (s.failMoving n cause) n p i cause ∧ (s.captureUnit n = .idle → (s.failMoving n cause).captureUnit n = .idle) := by
  obtain ⟨htesting, hp, hindex, -⟩ := hs
  obtain ⟨skipped, captures, activity, slots, unit, h, -, hidle, hskipped⟩ := State.failRunIn_eq s n cause
  have hposition : (s.dossier n).position = i := by rw [Dossier.position, hindex]; rfl
  have hchannel : ((s.failRunIn n cause).modChannel n Channel.controlledStop).channel n =
      { s.channel n with activity := activity, stopping := (s.channel n).enable } := by
    rw [State.channel_modChannel_same, h, State.channel, PerNest.get_set_same]
    rfl
  have hstop : s.failMoving n cause = { s with
      dossiers := s.dossiers.set n
        { s.dossier n with runIn := (s.dossier n).runInGiven (failed cause), skipped := skipped, captures := captures }
      channels := s.channels.set n
        { s.channel n with
          activity := activity
          stopping := true
          setPoint := if 0 < (s.channel n).setPoint then (s.channel n).setPoint - 3 else (s.channel n).setPoint + 3 }
      slots := slots
      units := s.units.set n unit } := by
    unfold State.failMoving
    rw [State.stopUpdate_of_far (by rw [hchannel]; exact hfar) (by rw [hchannel]; exact henable), hchannel, h, henable]
    simp only [State.modChannel, PerNest.mod, PerNest.set_set]
  have hd : (s.failMoving n cause).dossier n =
      { s.dossier n with runIn := (s.dossier n).runInGiven (failed cause), skipped := skipped, captures := captures } := by
    rw [hstop, State.dossier, PerNest.get_set_same]
  have hc : (s.failMoving n cause).channel n =
      { s.channel n with
        activity := activity
        stopping := true
        setPoint := if 0 < (s.channel n).setPoint then (s.channel n).setPoint - 3 else (s.channel n).setPoint + 3 } := by
    rw [hstop, State.channel, PerNest.get_set_same]
  refine ⟨⟨?_, ?_, ?_, ?_, ?_, ?_, ?_⟩, fun hunit => ?_⟩
  · exact State.runInFailed_of_given ((congrArg Dossier.runIn hd).trans rfl)
  · intro j
    rw [hd, ← hposition]
    exact hskipped p hp j
  · rw [hc]
  · rw [hc]
  · rw [hc]
    exact henable
  · rw [hd]
    exact hindex
  · rw [hstop]
    exact State.sameElsewhere_of_parts _ _ _ rfl
  · rw [hstop, State.captureUnit, PerNest.get_set_same]
    exact hidle hunit

end

end Sys2Proof.Machine
end

section
/-! PROOFS. The permit wait and the attempts of an ENGAGE stage. -/

namespace Sys2Proof.Machine

section
variable {s t : State} {n : Nest} {u : UpdateInput} {p : Plan} {i : Nat} {st : Stage} {cause : Cause} {torque : Int} {seated : Bool}

/-! ### The channel's work (R60) -/

theorem State.channelUpdate_permitWait {w : Nat} (hstop : (s.channel n).stopping = false) (hp : s.planOf n = some p)
    (hact : (s.channel n).activity = .permitWait w) : s.channelUpdate n torque seated = s.permitWaitUpdate n p torque seated w := by
  simp [State.channelUpdate, hstop, hp, hact]

theorem State.channelUpdate_engaging {e : EngageCounters} (hstop : (s.channel n).stopping = false) (hp : s.planOf n = some p)
    (hact : (s.channel n).activity = .engaging e) : s.channelUpdate n torque seated = s.engageUpdate n p torque seated e := by
  simp [State.channelUpdate, hstop, hp, hact]

theorem State.setActivity_sameElsewhere (s : State) (n : Nest) (a : Activity) : s.sameElsewhere (s.setActivity n a) n :=
  ⟨rfl, PerNest.get_set_other .., rfl, rfl, rfl, rfl, rfl⟩

theorem State.channel_setActivity (s : State) (n : Nest) (a : Activity) : (s.setActivity n a).channel n = { s.channel n with activity := a } :=
  State.channel_modChannel_same ..

theorem State.setActivity_self {a : Activity} (h : (s.channel n).activity = a) : s.setActivity n a = s := by
  show { s with channels := s.channels.set n { s.channel n with activity := a } } = s
  rw [← h, State.channels_set_activity]

theorem State.failedAtRest.of_setActivity {a : Activity} (h : (s.setActivity n a).failedAtRest t n cause) : s.failedAtRest t n cause := by
  obtain ⟨hfail, hindex, hidle, henable, hset, helse⟩ := h
  exact ⟨hfail, hindex, hidle, henable, hset, (State.setActivity_sameElsewhere s n a).trans helse⟩

/-- What a refused enable does is the same before and after a change of the activity. -/
theorem State.enableRefused.of_setActivity {a : Activity} {held : Prop} (h : (s.setActivity n a).enableRefused t n held) :
    s.enableRefused t n held := by
  obtain ⟨hopen, hclosed⟩ := h
  refine ⟨fun ho => ?_, fun hc => ?_⟩
  · obtain ⟨h1, h2, h3, h4, h5, h6, h7⟩ := hopen ho
    exact ⟨h1, h2, h3, h4, h5, h6.trans (PerNest.get_set_other ..), h7⟩
  · obtain ⟨hfault, hnofault⟩ := hclosed hc
    refine ⟨fun hf => (hfault hf).of_setActivity, fun hf => ?_⟩
    obtain ⟨hheld, hlapse⟩ := hnofault hf
    exact ⟨fun hh => (hheld hh).of_setActivity, fun hh hl => (hlapse hh hl).of_setActivity⟩

/-! ### An attempt begins (R62, R70) -/

/-- The set-point of an attempt's first update (R70). -/
theorem Attempt.setPoint_first (a : Attempt) (x : Int) (hx : x = match a with | .forwardCreep => 20 | .reverseCreep => -20 | .oscillation => 10) :
    a.setPoint 1 = x := by
  subst hx
  cases a <;> rfl

theorem Attempt.setPoint_next (e : EngageCounters) (x : Int)
    (hx : x = match e.attempt with
      | .forwardCreep => 20
      | .reverseCreep => -20
      | .oscillation => if e.updates / 125 % 2 = 0 then 10 else -10) : e.attempt.setPoint (e.updates + 1) = x := by
  subst hx
  cases e.attempt <;> rfl

/-- The criteria of an attempt that goes on. -/
theorem State.attemptCriteria_goes_on {e : EngageCounters} (hseated : e.seatedRun < 10) (hjam : torque.natAbs ≤ p.jamTorque)
    (hupdates : e.updates < 1500) : s.attemptCriteria n p torque e = s.setActivity n (.engaging { e with jamRun := 0 }) := by
  have hj : e.jam p.jamTorque torque = { e with jamRun := 0 } := by
    rw [EngageCounters.jam, countRun, decide_eq_false (Nat.not_lt.mpr hjam)]
    rfl
  unfold State.attemptCriteria
  rw [if_neg (Nat.not_le.mpr hseated), hj]
  exact if_neg fun h => h.elim (show ¬ 3 ≤ 0 by decide) (Nat.not_le.mpr hupdates)

theorem State.turnOn_of_noZero {x : Int} (h : s.interlock.zero = none) : s.turnOn n x = s.modChannel n fun ch => ch.enableWith x :=
  State.endZeroOnEnable_of_none h

/-- An attempt's first update under every condition of R62 turns the enable on; its criteria follow. -/
theorem State.engageUpdate_granted {a : Attempt} (hallowed : s.enableAllowed n) (hclass : s.classOf n ≠ 7) :
    s.engageUpdate n p torque seated (EngageCounters.fresh a) =
      (s.turnOn n (a.setPoint 1)).attemptCriteria n p torque ((EngageCounters.fresh a).seat seated) := by
  have hcheck := State.enableCheck_granted (readsClass := true) hallowed fun _ => hclass
  unfold State.engageUpdate
  extract_lets e' y
  rw [hcheck]
  rfl

/-- The first update of an attempt with every condition of R62 met. -/
theorem State.engageUpdate_first {a : Attempt} {x : Int} (hx : a.setPoint 1 = x) (hzero : s.interlock.zero = none) (hallowed : s.enableAllowed n)
    (hclass : s.classOf n ≠ 7) (hjam : torque.natAbs ≤ p.jamTorque) : s.engageUpdate n p torque seated (EngageCounters.fresh a) =
      { s with
        channels := s.channels.set n
          { s.channel n with enable := true, setPoint := x, activity := .engaging ⟨a, true, 1, if seated then 1 else 0, 0, false⟩ } } := by
  have hon := State.engageUpdate_granted (p := p) (torque := torque) (seated := seated) (a := a) hallowed hclass
  have hrun : ((EngageCounters.fresh a).seat seated).seatedRun = if seated then 1 else 0 := by cases seated <;> rfl
  rw [hon, hx, State.turnOn_of_noZero hzero, State.attemptCriteria_goes_on (by rw [hrun]; split <;> decide) hjam (by decide : 1 < 1500)]
  simp only [State.setActivity, State.modChannel, PerNest.mod, PerNest.get_set_same, PerNest.set_set]
  cases seated <;> rfl

/-- The first update of an attempt with a condition of R62 that fails. -/
theorem State.engageUpdate_refused {a : Attempt} {check : EnableCheck} (hcheck : s.enableCheck n true = check) (hfails : check ≠ .granted) :
    s.engageUpdate n p torque seated (EngageCounters.fresh a) = s.refuseEnable n check := by
  unfold State.engageUpdate
  extract_lets e' y
  rw [hcheck]
  cases check with
  | granted => exact absurd rfl hfails
  | openGuard => rfl
  | failure cause => rfl

/-- An attempt's first update acts on the first failing condition of R62, here in the last stage of the list. -/
theorem State.enableRefused_engageUpdate {a : Attempt} (hs : s.stageIs n p i .engage) (hlast : i + 1 = p.stages.length)
    (henable : (s.channel n).enable = false) (hset : (s.channel n).setPoint = 0) (hunit : s.captureUnit n = .idle) (hlist : s.listSound n) :
    s.enableRefused ((s.engageUpdate n p torque seated (EngageCounters.fresh a)).lookForSlot n) n (s.classOf n = 7) := by
  have hheld : s.classOf n = 7 ↔ true = true ∧ s.classOf n = 7 := by simp
  by_cases hcheck : s.enableCheck n true = .granted
  · exact State.enableRefused_of_granted hheld hcheck
  · obtain ⟨hidle, hrefused⟩ := State.refuseEnable_last hs rfl hlast henable hset hunit hlist hheld rfl hcheck
    rw [State.engageUpdate_refused rfl hcheck, State.lookForSlot_of_idle hidle]
    exact hrefused

/-! ### The permit wait (R69) -/

/-- Settles O39: the wait counts, lapses, or begins the first attempt. -/
theorem permitWaitCountsAndEnds : Obligations.PermitWaitCountsAndEnds := by
  intro u p i w s hs hquiet hact henable hset
  obtain ⟨hzero, hunit, hstop⟩ := hquiet
  have hp := hs.2.1
  have hother (c : ProfileCounters) : (s.channel u.nest).activity ≠ .profiling c := by rw [hact]; exact nofun
  have hexec : exec (.permitWaitExpiry u) s = .next (s.driveUpdate u) := rfl
  have hupdate := State.channelUpdate_permitWait (torque := s.torqueAt u) (seated := u.seated) hstop hp hact
  rw [hexec]
  refine ⟨fun hlive hw => ?_, fun hlive hw hlast => ?_, fun a as hlive hattempts => ?_⟩
  · refine congrArg Host.Outcome.next (State.driveUpdate_eq hzero hother (hupdate.trans ?_) hunit)
    rw [State.permitWaitUpdate, hlive, if_neg (by decide), if_neg (by omega)]
    rfl
  · refine ⟨_, congrArg Host.Outcome.next (State.driveUpdate_eq hzero hother (t := s.failAtRest u.nest .permitLapse) (hupdate.trans ?_)
      (State.unit_failAtRest_last hs hlast hunit)), State.failAtRest_last hs rfl hlast henable hset⟩
    rw [State.permitWaitUpdate, hlive, if_neg (by decide), if_pos (by omega)]
  · have hbegin : s.permitWaitUpdate u.nest p (s.torqueAt u) u.seated w =
        (s.setActivity u.nest (.engaging (EngageCounters.fresh a))).engageUpdate u.nest p (s.torqueAt u) u.seated (EngageCounters.fresh a) := by
      simp only [State.permitWaitUpdate, hlive, if_true, hattempts]
    refine ⟨fun hallowed hclass hjam => ?_, fun hlast hlist => ⟨_, rfl, ?_⟩⟩
    · refine congrArg Host.Outcome.next (State.driveUpdate_eq hzero hother ((hupdate.trans hbegin).trans ?_) hunit)
      refine (State.engageUpdate_first (s := s.setActivity u.nest (.engaging (EngageCounters.fresh a))) (Attempt.setPoint_first a _ rfl) hzero hallowed hclass hjam).trans ?_
      rw [State.channel_setActivity]
      exact congrArg (fun channels => { s with channels := channels }) (PerNest.set_set ..)
    · rw [State.driveUpdate_of_noZero hzero, State.raisePeak_of_other hother, hupdate, hbegin]
      refine (State.enableRefused_engageUpdate (i := i) (s := s.setActivity u.nest (.engaging (EngageCounters.fresh a)))
        hs hlast ?_ ?_ hunit hlist).of_setActivity
      all_goals rw [State.channel_setActivity]
      · exact henable
      · exact hset

/-! ### The updates of an attempt (R66, R70 to R72) -/

theorem State.engageUpdate_begun {e : EngageCounters} {x : Int} (hx : e.attempt.setPoint (e.updates + 1) = x) (hbegun : e.begun = true)
    (henable : (s.channel n).enable = true) (hclass : s.classOf n ≠ 7) : s.engageUpdate n p torque seated e =
      ({ s with channels := s.channels.set n { s.channel n with setPoint := x } } : State).attemptCriteria n p torque (e.seat seated) := by
  unfold State.engageUpdate
  extract_lets e' y
  rw [hbegun, if_pos rfl, if_neg hclass]
  have hy : y = x := hx
  rw [hy, State.modChannel, PerNest.mod]
  show ({ s with channels := s.channels.set n ((s.channel n).send x) } : State).attemptCriteria n p torque e' = _
  rw [Channel.send, henable, if_pos rfl]

theorem State.attemptCriteria_succeeds {e : EngageCounters} (hseated : 10 ≤ e.seatedRun) : s.attemptCriteria n p torque e =
    ((s.setActivity n (.engaging e)).modChannel n fun ch => { ch.controlledStop with engaged := true }).modDossier n fun d =>
      { d with runIn := d.runIn.map fun r => { r with attemptUsed := e.attempt.number } } := if_pos hseated

theorem State.attemptCriteria_abandons {e e' : EngageCounters} (hseated : e.seatedRun < 10) (hjam : e.jam p.jamTorque torque = e')
    (hends : 3 ≤ e'.jamRun ∨ 1500 ≤ e'.updates) : s.attemptCriteria n p torque e =
      (s.setActivity n (.engaging e')).modChannel n Channel.controlledStop := by
  unfold State.attemptCriteria
  rw [if_neg (Nat.not_le.mpr hseated), hjam]
  exact if_pos hends

/-- A stop requested at an update of an attempt, with the attempt's set-point sent. -/
theorem State.stop_with_setPoint {e : EngageCounters} {x : Int} (henable : (s.channel n).enable = true) :
    (({ s with channels := s.channels.set n { s.channel n with setPoint := x } } : State).setActivity n (.engaging e)).modChannel n
        Channel.controlledStop =
      { s with channels := s.channels.set n { s.channel n with setPoint := x, stopping := true, activity := .engaging e } } := by
  simp only [State.setActivity, State.modChannel, PerNest.mod, PerNest.get_set_same, PerNest.set_set, Channel.controlledStop, henable]

/-- Settles O40: the first update of an attempt, OVERHEAT, and the four ways an update of it goes. -/
theorem engageAttemptSucceedsOrIsAbandoned : Obligations.EngageAttemptSucceedsOrIsAbandoned := by
  refine ⟨fun u p i a s hs hquiet hact henable hset => ?_, fun u p i e x s hs hquiet hact hbegun henable => ?_⟩
  all_goals
    obtain ⟨hzero, hunit, hstop⟩ := hquiet
    have hother (c : ProfileCounters) : (s.channel u.nest).activity ≠ .profiling c := by rw [hact]; exact nofun
    have hupdate := State.channelUpdate_engaging (torque := s.torqueAt u) (seated := u.seated) hstop hs.2.1 hact
  · refine ⟨fun hallowed hclass hjam => ?_, fun hlast hlist => ⟨_, rfl, ?_⟩⟩
    · refine congrArg Host.Outcome.next (State.driveUpdate_eq hzero hother (hupdate.trans ?_) hunit)
      exact State.engageUpdate_first (Attempt.setPoint_first a _ rfl) hzero hallowed hclass hjam
    · rw [State.driveUpdate_of_noZero hzero, State.raisePeak_of_other hother, hupdate]
      exact State.enableRefused_engageUpdate hs hlast henable hset hunit hlist
  · refine ⟨fun hclass hfar _ _ _ => ?_, fun hclass hx => ?_⟩
    · obtain ⟨hmoving, hidle⟩ := State.failMoving_far (cause := .overheat) hs henable hfar
      refine ⟨_, congrArg Host.Outcome.next (State.driveUpdate_eq hzero hother (hupdate.trans ?_) (hidle hunit)), hmoving⟩
      unfold State.engageUpdate
      extract_lets e' y
      rw [hbegun, if_pos rfl, if_pos hclass]
    · have hwork := hupdate.trans (State.engageUpdate_begun (Attempt.setPoint_next e x hx) hbegun henable hclass)
      refine ⟨fun hseated hrun => ?_, fun hseated hjam hrun => ?_, fun hseated hjam hcount => ?_, fun hseated hrun hjam hcount => ?_⟩
      all_goals
        refine congrArg Host.Outcome.next (State.driveUpdate_eq hzero hother (hwork.trans ?_) hunit)
        rw [hseated]
      · have hseat : e.seat true = { e with updates := e.updates + 1, seatedRun := 10 } := by
          rw [EngageCounters.seat, countRun, if_pos rfl, hrun, ← hbegun]
        rw [hseat, State.attemptCriteria_succeeds (Nat.le_refl 10)]
        simp only [State.setActivity, State.modChannel, State.modDossier, PerNest.mod, PerNest.get_set_same, PerNest.set_set,
          Channel.controlledStop, henable]
        rfl
      all_goals have hunseat : e.seat false = { e with updates := e.updates + 1, seatedRun := 0 } := by rw [EngageCounters.seat, ← hbegun]; rfl
      · rw [hunseat, State.attemptCriteria_abandons (e' := { e with updates := e.updates + 1, seatedRun := 0, jamRun := 3 })
          (by decide : 0 < 10) ?_ (.inl (Nat.le_refl 3)), State.stop_with_setPoint henable]
        rw [EngageCounters.jam, countRun, decide_eq_true hjam, if_pos rfl, hrun]
      · rw [hunseat, State.attemptCriteria_abandons (e' := { e with updates := 1500, seatedRun := 0, jamRun := 0 })
          (by decide : 0 < 10) ?_ (.inr (Nat.le_refl 1500)), State.stop_with_setPoint henable]
        rw [EngageCounters.jam, countRun, decide_eq_false (Nat.not_lt.mpr hjam), hcount]
        rfl
      · have hseat : e.seat true = { e with updates := e.updates + 1, seatedRun := e.seatedRun + 1 } := by
          rw [EngageCounters.seat, countRun, if_pos rfl, ← hbegun]
        rw [hseat, State.attemptCriteria_goes_on (show e.seatedRun + 1 < 10 by omega) hjam hcount]
        simp only [State.setActivity, State.modChannel, PerNest.mod, PerNest.get_set_same, PerNest.set_set]

/-! ### After an abandoned attempt (R72) -/

theorem attemptsOf_sorted (mask : Nat) : (attemptsOf mask).Pairwise fun a b => a.number < b.number := by
  unfold attemptsOf
  split <;> split <;> split <;> decide

theorem Attempt.eq_of_number {a b : Attempt} (h : a.number = b.number) : a = b := by
  revert h
  cases a <;> cases b <;> decide

/-- The next attempt is the first of the mask beyond the one in progress. -/
theorem nextAttempt_eq_some {mask : Nat} {a b : Attempt} (hlt : a.number < b.number) (hmem : b ∈ attemptsOf mask)
    (hfirst : ∀ c ∈ attemptsOf mask, c.number < b.number → c.number ≤ a.number) : nextAttempt mask a = some b := by
  rcases h : nextAttempt mask a with - | c
  · exact absurd (decide_eq_true hlt) (List.find?_eq_none.mp h b hmem)
  · obtain ⟨hc, l₁, l₂, hsplit, hbefore⟩ := List.find?_eq_some_iff_append.mp h
    have hsorted := attemptsOf_sorted mask
    have hac : a.number < c.number := of_decide_eq_true hc
    have hcmem : c ∈ attemptsOf mask := by rw [hsplit]; simp
    have hcb : c.number ≤ b.number := by
      rw [hsplit] at hmem hsorted
      rcases List.mem_append.mp hmem with hb | hb
      · have := hbefore b hb
        simp [hlt] at this
      · rcases List.mem_cons.mp hb with rfl | hb
        · exact Nat.le_refl _
        · exact Nat.le_of_lt (List.rel_of_pairwise_cons (List.pairwise_append.mp hsorted).2.1 hb)
    have hbc : ¬ c.number < b.number := fun hlt' => absurd (hfirst c hcmem hlt') (by omega)
    rw [Attempt.eq_of_number (by omega : c.number = b.number)]

theorem nextAttempt_eq_none {mask : Nat} {a : Attempt} (h : ∀ b ∈ attemptsOf mask, b.number ≤ a.number) : nextAttempt mask a = none :=
  List.find?_eq_none.mpr fun b hb hlt => absurd (h b hb) (Nat.not_le.mpr (of_decide_eq_true hlt))

/-- What follows an attempt abandoned with no failure. -/
theorem State.driveDropped_engaging {e : EngageCounters} (hp : s.planOf n = some p) (hact : (s.channel n).activity = .engaging e)
    (hfailed : e.failed = false) (hengaged : (s.channel n).engaged = false) :
    (∀ a, nextAttempt p.attemptsMask e.attempt = some a → s.driveDropped n = s.setActivity n (.engaging (EngageCounters.fresh a))) ∧
      (nextAttempt p.attemptsMask e.attempt = none → s.driveDropped n = s.failAtRest n .engageFail) := by
  constructor
  · intro a ha
    simp [State.driveDropped, hact, hfailed, hengaged, hp, ha]
  · intro ha
    simp [State.driveDropped, hact, hfailed, hengaged, hp, ha]

/-- The channel's immediate stop leaves everything else as it was. -/
theorem State.modChannel_sameElsewhere (s : State) (n : Nest) (f : Channel → Channel) : s.sameElsewhere (s.modChannel n f) n :=
  ⟨rfl, PerNest.get_set_other .., rfl, rfl, rfl, rfl, rfl⟩

/-- Settles O41: the next attempt of the mask, or ENGAGE_FAIL. -/
theorem abandonedAttemptIsFollowed : Obligations.AbandonedAttemptIsFollowed := by
  intro u p i e s hs hzero hunit hstop hact hfailed hengaged hnear
  have hother (c : ProfileCounters) : (s.channel u.nest).activity ≠ .profiling c := by rw [hact]; exact nofun
  have hupdate : s.channelUpdate u.nest (s.torqueAt u) u.seated = (s.modChannel u.nest Channel.immediateStop).driveDropped u.nest :=
    (State.channelUpdate_of_stopping hstop).trans (State.stopUpdate_of_near hnear)
  have hchannel : (s.modChannel u.nest Channel.immediateStop).channel u.nest =
      { s.channel u.nest with setPoint := 0, enable := false, stopping := false } := State.channel_modChannel_same ..
  obtain ⟨hnext, hlast⟩ := State.driveDropped_engaging (s := s.modChannel u.nest Channel.immediateStop) (n := u.nest) (p := p) (e := e)
    hs.2.1 (by rw [hchannel]; exact hact) hfailed (by rw [hchannel]; exact hengaged)
  refine ⟨fun a hlt hmem hfirst => ?_, fun hnone hend => ?_⟩
  · refine congrArg Host.Outcome.next (State.driveUpdate_eq hzero hother
      ((hupdate.trans (hnext a (nextAttempt_eq_some hlt hmem hfirst))).trans ?_) hunit)
    simp only [State.setActivity, State.modChannel, PerNest.mod, PerNest.get_set_same, PerNest.set_set]
    rfl
  · have hs' : (s.modChannel u.nest Channel.immediateStop).stageIs u.nest p i .engage := hs
    obtain ⟨hfail, hindex, hidle, henable, hset, helse⟩ := State.failAtRest_last (cause := .engageFail) hs' rfl hend
      (by rw [hchannel]) (by rw [hchannel])
    exact ⟨_, congrArg Host.Outcome.next (State.driveUpdate_eq hzero hother (hupdate.trans (hlast (nextAttempt_eq_none hnone)))
      (State.unit_failAtRest_last hs' hend hunit)), hfail, hindex, hidle, henable, hset, (State.modChannel_sameElsewhere s u.nest _).trans helse⟩

end

end Sys2Proof.Machine
end

section
/-! PROOFS. The end of a controlled stop. -/

namespace Sys2Proof.Machine

section
variable {s t : State} {n : Nest} {u : UpdateInput} {p : Plan} {i : Nat} {st : Stage} {torque : Int}

/-! ### A STOPPING dossier is judged (R27) -/

theorem State.isPending_fileDossier {k : AttentionCause} (h : s.bench.isPending k = true) : (s.fileDossier n).bench.isPending k = true := by
  rcases Nat.lt_or_ge s.reports.reports.length 16 with hroom | hfull
  · rw [State.fileDossier_of_room hroom, State.bench_fileReport]
    exact h
  · rw [State.fileDossier_of_full hfull]
    exact isPending_raise_of s k .filingBlocked h

theorem State.isPending_enterJudged (s : State) (n : Nest) : (s.enterJudged n).bench.isPending (.judged n) = true := by
  unfold State.enterJudged
  extract_lets judged raised
  have hraised : raised.bench.isPending (.judged n) = true := isPending_raise _ _
  split
  · split
    · exact State.isPending_fileDossier hraised
    · exact hraised
  · exact hraised

/-- Every record of a dossier whose pending ones are given a result has one. -/
theorem Dossier.results_givePending (d : Dossier) (c : Cause) : ∀ g ∈ (d.givePending c).results, g ≠ none := by
  intro g hg
  simp only [Dossier.results, Dossier.givePending, List.mem_append, List.mem_map, List.map_map, Function.comp_apply, Option.mem_toList,
    Option.map_eq_some_iff] at hg
  rcases hg with (⟨r, -, rfl⟩ | ⟨r', ⟨r, -, rfl⟩, rfl⟩) | ⟨r, -, rfl⟩
  all_goals exact nofun

/-- What a STOPPING dossier whose drive is at rest and whose circuits are IDLE becomes. -/
structure StoppedJudged (s t : State) (n : Nest) : Prop where
  state : (t.dossier n).state = .judged ∨ (t.dossier n).state = .filed
  verdict : (t.dossier n).verdict = some .aborted
  cause : (t.dossier n).verdictCause = (s.dossier n).stoppingCause
  time : (t.dossier n).judgedTime = some s.reports.clock
  results : ∀ g ∈ (t.dossier n).results, g ≠ none
  pending : t.bench.isPending (.judged n) = true
  channel : t.channel n = (s.channel n).clearReference
  elsewhere : s.sameElsewhere t n

theorem State.circuitsIdle_of_forall (h : ∀ c, (s.circuit n c).state = .idle) : s.circuitsIdle n = true := by
  rw [State.circuitsIdle, h .c0, h .c1]
  rfl

theorem State.checkStopping_judges (hst : (s.dossier n).state = .stopping) (hstopped : (s.dossier n).stopped = true)
    (henable : (s.channel n).enable = false) (hset : (s.channel n).setPoint = 0) (hcircuits : ∀ c, (s.circuit n c).state = .idle) :
    StoppedJudged s (s.checkStopping n) n := by
  have hrest : s.driveAtRest n = true := by
    rw [State.driveAtRest, henable, hset]
    rfl
  obtain ⟨⟨st, number, pending, hjudged, hd⟩, ds, plans, reports, causes, ht⟩ :=
    State.checkStopping_of_rest s n hst hrest (State.circuitsIdle_of_forall hcircuits)
  have hdossier : (s.checkStopping n).dossier n = { ((s.dossier n).givePending .aborted).enterJudged s.reports.clock (s.classOf n) with
      state := st, reportNumber := number, filingPending := pending } := by
    rw [State.dossier, hd, PerNest.get_set_same]
  have hjudgment : ((s.dossier n).givePending .aborted).judgment = (.aborted, (s.dossier n).stoppingCause) := if_pos hstopped
  have hpending : (s.checkStopping n).bench.isPending (.judged n) = true := by
    rw [State.checkStopping, if_pos ⟨hst, hrest, State.circuitsIdle_of_forall hcircuits⟩]
    exact State.isPending_enterJudged _ n
  have hother : (s.checkStopping n).dossier n.other = s.dossier n.other := by
    rw [State.dossier, hd]
    exact PerNest.get_set_other ..
  refine ⟨?_, ?_, ?_, ?_, ?_, hpending, ?_, ?_⟩
  · rw [hdossier]
    exact hjudged
  · rw [hdossier]
    exact congrArg (fun v : Verdict × Option Cause => some v.1) hjudgment
  · rw [hdossier]
    exact congrArg Prod.snd hjudgment
  · rw [hdossier]
    rfl
  · rw [hdossier]
    exact Dossier.results_givePending (s.dossier n) .aborted
  · rw [ht, State.channel, PerNest.get_set_same]
  · refine ⟨hother, ?_, ?_, ?_, ?_, ?_, ?_⟩
    · rw [ht]
      exact PerNest.get_set_other ..
    all_goals rw [ht]
    all_goals rfl

/-! ### The peak torque of a PROFILE stage (R94) -/

/-- A dossier with its run-in record's peak raised. -/
def Dossier.peaked (d : Dossier) (torque : Int) : Dossier :=
  { d with runIn := d.runIn.map fun r => { r with peakTorque := max r.peakTorque torque.natAbs } }

/-- The nest with its run-in record's peak raised. -/
def State.peaked (s : State) (n : Nest) (torque : Int) : State := s.modDossier n fun d => d.peaked torque

theorem State.dossier_peaked (s : State) (n : Nest) (torque : Int) : (s.peaked n torque).dossier n = (s.dossier n).peaked torque :=
  State.dossier_modDossier_same ..

theorem State.raisePeak_profiling {c : ProfileCounters} (h : (s.channel n).activity = .profiling c) :
    s.raisePeak n torque = s.peaked n torque := by
  simp only [State.raisePeak, h]
  rfl

theorem State.peaked_sameElsewhere (s : State) (n : Nest) (torque : Int) : s.sameElsewhere (s.peaked n torque) n :=
  ⟨PerNest.get_set_other .., rfl, rfl, rfl, rfl, rfl, rfl⟩

theorem State.stageIs.peaked (hs : s.stageIs n p i st) (torque : Int) : (s.peaked n torque).stageIs n p i st := by
  obtain ⟨htesting, hp, hindex, hst⟩ := hs
  refine ⟨?_, ?_, ?_, hst⟩
  · rw [State.dossier_peaked]
    exact htesting
  · rw [State.planOf, State.dossier_peaked]
    exact hp
  · rw [State.dossier_peaked]
    exact hindex

/-- The channel after an immediate stop. -/
theorem State.channel_immediateStop (s : State) (n : Nest) : (s.modChannel n Channel.immediateStop).channel n =
    { s.channel n with setPoint := 0, enable := false, stopping := false } := State.channel_modChannel_same ..

theorem Dossier.captures_skipUnrequested (d : Dossier) : d.skipUnrequested.captures =
    d.captures.map fun r => if r.side = none ∧ r.given = none then { r with given := some ⟨.notMeasured, .skipped⟩ } else r := by
  unfold Dossier.skipUnrequested
  refine List.map_congr_left fun r _ => ?_
  simp only [Option.isNone_iff_eq_none]
  rfl

theorem Dossier.captures_closeStage_profile (d : Dossier) (later : List (Stage × Nat)) :
    (d.closeStage .profile later).captures = d.skipUnrequested.captures := by
  unfold Dossier.closeStage
  extract_lets skipped
  have hskipped : skipped.captures = d.skipUnrequested.captures := rfl
  split <;> exact hskipped

/-! ### A REFERENCE stage ends and a PROFILE stage follows (R22, R24, R80, R81) -/

theorem Plan.stagesAfter_cons (h : p.stages[i + 1]? = some st) : p.stagesAfter i = (st, i + 1) :: p.stagesAfter (i + 1) := by
  obtain ⟨hlt, hget⟩ := List.getElem?_eq_some_iff.mp h
  have hlt' : i + 1 < p.stages.zipIdx.length := by rw [List.length_zipIdx]; exact hlt
  rw [Plan.stagesAfter, List.drop_eq_getElem_cons hlt', List.getElem_zipIdx, hget, Nat.zero_add]
  rfl

/-- A stage that is no PROFILE stage changes nothing as it ends while a drive stage is left that is not skipped. -/
theorem Dossier.closeStage_of_later {d : Dossier} {x : Stage × Nat} {later : List (Stage × Nat)} (hst : st ≠ .profile)
    (hmem : x ∈ later) (hdrive : x.1.isDrive = true) (hskip : x.2 ∉ d.skipped) : d.closeStage st later = d := by
  have hany : (later.any fun y => y.1.isDrive && !d.skipped.contains y.2) = true :=
    List.any_eq_true.mpr ⟨x, hmem, by simp [hdrive, hskip]⟩
  unfold Dossier.closeStage
  extract_lets skipped
  have hskipped : skipped = d := if_neg hst
  rw [hskipped, if_neg]
  rw [hany]
  simp

/-- The end of a drive stage with a PROFILE stage next that is not skipped. -/
theorem State.endDriveStage_then_profile (hs : s.stageIs n p i st) (hne : st ≠ .profile) (hnext : p.stages[i + 1]? = some .profile)
    (hskip : i + 1 ∉ (s.dossier n).skipped) :
    s.endDriveStage n = (s.setActivity n .idle).walkStages n p ((.profile, i + 1) :: p.stagesAfter (i + 1)) := by
  obtain ⟨htesting, hp, hindex, hst⟩ := hs
  have hplan : (s.setActivity n .idle).planOf n = some p := hp
  have hindex' : ((s.setActivity n .idle).dossier n).stageIndex = some i := hindex
  have htesting' : ((s.setActivity n .idle).dossier n).state = .testing := htesting
  have hclosed : (s.dossier n).closeStage st (p.stagesAfter i) = s.dossier n :=
    Dossier.closeStage_of_later hne (Plan.stagesAfter_cons hnext ▸ List.mem_cons_self) rfl hskip
  have hsame : (s.setActivity n .idle).modDossier n (fun d => d.closeStage st (p.stagesAfter i)) = s.setActivity n .idle := by
    show { s.setActivity n .idle with dossiers := s.dossiers.set n ((s.dossier n).closeStage st (p.stagesAfter i)) } = _
    rw [hclosed, State.dossier, PerNest.set_get]
    rfl
  rw [State.endDriveStage, State.stageEnded]
  simp only [hplan, hindex', htesting', if_true, hst, hsame]
  rw [Plan.stagesAfter_cons hnext]

/-- The dossier after a PROFILE stage, the last of its list, that class 7 holds (R81, R24, R25). -/
def Dossier.heldForTemp (d : Dossier) (j : Nat) : Dossier :=
  { Dossier.closeStage { d with stageIndex := some j, lastBegun := some j, runIn := d.runInGiven (notMeasured .tempHold) } .profile [] with
    stageIndex := none }

/-- In class 7 a PROFILE stage ends as it begins (R81). -/
theorem State.walkStages_profile_held {j : Nat} (hskip : j ∉ (s.dossier n).skipped) (hclass : s.classOf n = 7) :
    s.walkStages n p [(.profile, j)] =
      ({ s with dossiers := s.dossiers.set n ((s.dossier n).heldForTemp j) } : State).checkTested n := by
  have hnot : ¬((s.dossier n).skipped.contains j = true) := fun h => hskip (List.contains_iff_mem.mp h)
  have hbegin : (s.modDossier n fun d => { d with stageIndex := some j, lastBegun := some j }).beginStage n p .profile =
      ((s.modDossier n fun d => { d with stageIndex := some j, lastBegun := some j }).giveRunIn n (notMeasured .tempHold), true) := if_pos hclass
  simp only [State.walkStages, if_neg hnot, hbegin, if_true]
  simp only [State.giveRunIn, State.modDossier, PerNest.mod, PerNest.get_set_same, PerNest.set_set]
  rfl

/-- A PROFILE stage begins at step 0 with its counters as R82 sets them. -/
theorem State.walkStages_profile_begins {j : Nat} {later : List (Stage × Nat)} {step : Step} {steps : List Step}
    (hskip : j ∉ (s.dossier n).skipped) (hclass : s.classOf n ≠ 7) (hsteps : p.steps = step :: steps) :
    s.walkStages n p ((.profile, j) :: later) =
      { s with
        dossiers := s.dossiers.set n { s.dossier n with stageIndex := some j, lastBegun := some j }
        channels := s.channels.set n { s.channel n with activity := .profiling (ProfileCounters.fresh step (s.channel n).setPoint) } } := by
  refine State.walkStages_begins hskip ?_
  have hclass' : (s.modDossier n fun d => { d with stageIndex := some j, lastBegun := some j }).classOf n ≠ 7 := hclass
  simp only [State.beginStage, if_neg hclass', hsteps]
  rfl

/-- NOT_MEASURED replaces no result. -/
theorem giveResult_notMeasured (old : Option Given) (c : Cause) : giveResult old (notMeasured c) = some (old.getD (notMeasured c)) := by
  cases old with
  | none => rfl
  | some g => exact if_neg fun h => nomatch h.2

/-- The end of a drive stage before a PROFILE stage that class 7 holds, the last of the list. -/
theorem State.endDriveStage_held_last (hs : s.stageIs n p i st) (hne : st ≠ .profile) (hnext : p.stages[i + 1]? = some .profile)
    (hskip : i + 1 ∉ (s.dossier n).skipped) (hclass : s.classOf n = 7) (hlast : i + 2 = p.stages.length) :
    ((s.endDriveStage n).dossier n).stageIndex = none ∧ ((s.endDriveStage n).channel n).activity = .idle ∧
      ((s.endDriveStage n).channel n).enable = (s.channel n).enable ∧ ((s.endDriveStage n).channel n).setPoint = (s.channel n).setPoint ∧
      (((s.endDriveStage n).dossier n).runIn.map RunInRecord.given =
        (s.dossier n).runIn.map fun r => some (r.given.getD ⟨.notMeasured, .tempHold⟩)) ∧
      ((s.endDriveStage n).dossier n).captures = (s.dossier n).skipUnrequested.captures ∧
      (s.endDriveStage n).captureUnit n = s.captureUnit n ∧ s.sameElsewhere (s.endDriveStage n) n := by
  rw [State.endDriveStage_then_profile hs hne hnext hskip, Plan.stagesAfter_last hlast,
    State.walkStages_profile_held (s := s.setActivity n .idle) hskip hclass]
  obtain ⟨d, plans, reports, causes, engaged, reference, h, hindex, hrunIn, hcaptures⟩ := State.checkTested_eq
    ({ s.setActivity n .idle with
        dossiers := (s.setActivity n .idle).dossiers.set n (((s.setActivity n .idle).dossier n).heldForTemp (i + 1)) } : State) n
  have hheld : ({ s.setActivity n .idle with
        dossiers := (s.setActivity n .idle).dossiers.set n (((s.setActivity n .idle).dossier n).heldForTemp (i + 1)) } : State).dossier n =
      (s.dossier n).heldForTemp (i + 1) := PerNest.get_set_same ..
  rw [hheld] at hindex hrunIn hcaptures
  rw [h]
  refine ⟨(congrArg Dossier.stageIndex (PerNest.get_set_same ..)).trans hindex, ?_, ?_, ?_,
    (congrArg (fun e : Dossier => e.runIn.map RunInRecord.given) (PerNest.get_set_same ..)).trans ?_,
    (congrArg Dossier.captures (PerNest.get_set_same ..)).trans (hcaptures.trans (Dossier.captures_closeStage_profile _ _)), rfl, ?_⟩
  · rw [State.channel, PerNest.get_set_same]
    exact congrArg Channel.activity (State.channel_setActivity s n .idle)
  · rw [State.channel, PerNest.get_set_same]
    exact (congrArg Channel.enable (State.channel_setActivity s n .idle)).trans rfl
  · rw [State.channel, PerNest.get_set_same]
    exact (congrArg Channel.setPoint (State.channel_setActivity s n .idle)).trans rfl
  · have hgiven : ((s.dossier n).heldForTemp (i + 1)).runIn =
        ((s.dossier n).runInGiven (notMeasured .tempHold)).map fun r => { r with given := some (r.given.getD passed) } :=
      Dossier.runIn_closeStage_last _ rfl
    rw [hrunIn, hgiven, Dossier.runInGiven, Option.map_map, Option.map_map]
    refine congrArg (fun f => (s.dossier n).runIn.map f) (funext fun r => ?_)
    show some ((giveResult r.given (notMeasured .tempHold)).getD passed) = _
    rw [giveResult_notMeasured]
    rfl
  · exact (State.setActivity_sameElsewhere s n .idle).trans
      ⟨(PerNest.get_set_other ..).trans (PerNest.get_set_other ..), PerNest.get_set_other .., rfl, rfl, rfl, rfl, rfl⟩

/-! ### The update at which a controlled stop reaches 0 (R63 to R65) -/

/-- A controlled stop at rest with a REFERENCE creep or a profile under way ends the stage. -/
theorem State.dropped_drive (hact : (∃ r, (s.channel n).activity = .creeping r) ∨ ∃ c, (s.channel n).activity = .profiling c) :
    (s.modChannel n Channel.immediateStop).driveDropped n = (s.modChannel n Channel.immediateStop).endDriveStage n := by
  rcases hact with ⟨r, hact⟩ | ⟨c, hact⟩
  · simp only [State.driveDropped, State.channel_immediateStop, hact]
  · simp only [State.driveDropped, State.channel_immediateStop, hact]

theorem State.dropped_idle (hact : (s.channel n).activity = .idle) :
    (s.modChannel n Channel.immediateStop).driveDropped n = (s.modChannel n Channel.immediateStop).checkStopping n := by
  simp only [State.driveDropped, State.channel_immediateStop, hact]

/-- With a profile under way an update of a controlled stop raises the peak and moves the set-point. -/
theorem State.driveUpdate_stop_profiling {c : ProfileCounters} (hzero : s.interlock.zero = none) (hstop : (s.channel u.nest).stopping = true)
    (hact : (s.channel u.nest).activity = .profiling c) (hwork : (s.peaked u.nest (s.torqueAt u)).stopUpdate u.nest = t)
    (hunit : t.captureUnit u.nest = .idle) : s.driveUpdate u = t := by
  have hstop' : ((s.peaked u.nest (s.torqueAt u)).channel u.nest).stopping = true := hstop
  rw [State.driveUpdate_of_noZero hzero, State.raisePeak_profiling hact, State.channelUpdate_of_stopping hstop', hwork,
    State.lookForSlot_of_idle hunit]

/-- With no profile under way an update of a controlled stop moves the set-point. -/
theorem State.driveUpdate_stop (hzero : s.interlock.zero = none) (hstop : (s.channel u.nest).stopping = true)
    (hact : ∀ c, (s.channel u.nest).activity ≠ .profiling c) (hwork : s.stopUpdate u.nest = t)
    (hunit : t.captureUnit u.nest = .idle) : s.driveUpdate u = t :=
  State.driveUpdate_eq hzero hact ((State.channelUpdate_of_stopping hstop).trans hwork) hunit

/-- The end of a profile by a controlled stop, the last stage of the list. -/
theorem State.stopUpdate_profile_last {c : ProfileCounters} (hact : (s.channel n).activity = .profiling c)
    (hx : (s.channel n).setPoint.natAbs ≤ 3) (hs : s.stageIs n p i .profile) (hlast : i + 1 = p.stages.length) :
    ∃ t, (s.peaked n torque).stopUpdate n = t ∧ t.captureUnit n = s.captureUnit n ∧ (t.dossier n).stageIndex = none ∧
      (t.channel n).activity = .idle ∧ (t.channel n).enable = false ∧ (t.channel n).setPoint = 0 ∧ (t.channel n).stopping = false ∧
      (t.dossier n).runIn = (s.dossier n).runIn.map (fun r =>
        { r with peakTorque := max r.peakTorque torque.natAbs, given := some (r.given.getD ⟨.pass, .none⟩) }) ∧
      (t.dossier n).captures = (s.dossier n).skipUnrequested.captures ∧ s.sameElsewhere t n := by
  have hactP : ((s.peaked n torque).channel n).activity = .profiling c := hact
  have hwork := (State.stopUpdate_of_near (s := s.peaked n torque) hx).trans (State.dropped_drive (.inr ⟨c, hactP⟩))
  have hs' : ((s.peaked n torque).modChannel n Channel.immediateStop).stageIs n p i .profile := hs.peaked torque
  have hover := State.endDriveStage_last hs' hlast
  obtain ⟨hidle, henable', hset', hstop'⟩ := hover.channel
  rw [State.channel_immediateStop] at henable' hset' hstop'
  refine ⟨_, hwork, hover.unit _, hover.stageIndex, hidle, henable', hset', hstop', hover.runIn.trans ?_, hover.captures.trans ?_, ?_⟩
  · rw [Dossier.runIn_closeStage_last _ rfl, State.dossier_modChannel, State.dossier_peaked, Dossier.peaked, Option.map_map]
    rfl
  · rw [Dossier.captures_closeStage_profile, State.dossier_modChannel, State.dossier_peaked]
    rfl
  · exact (State.peaked_sameElsewhere s n torque).trans <| (State.modChannel_sameElsewhere _ n _).trans hover.sameElsewhere

/-- A controlled stop at rest makes a STOPPING dossier JUDGED whose circuits are IDLE. -/
theorem State.stopUpdate_judges (hact : (s.channel n).activity = .idle) (hx : (s.channel n).setPoint.natAbs ≤ 3)
    (hst : (s.dossier n).state = .stopping) (hstopped : (s.dossier n).stopped = true) (hcircuits : ∀ c, (s.circuit n c).state = .idle) :
    StoppedJudged (s.modChannel n Channel.immediateStop) (s.stopUpdate n) n ∧ (s.stopUpdate n).captureUnit n = s.captureUnit n := by
  have hchannel := State.channel_immediateStop s n
  rw [State.stopUpdate_of_near hx, State.dropped_idle hact]
  refine ⟨State.checkStopping_judges hst hstopped (by rw [hchannel]) (by rw [hchannel]) hcircuits, ?_⟩
  rcases State.checkStopping_cases (s.modChannel n Channel.immediateStop) n with h | ⟨-, -, ds, plans, reports, causes, ht⟩
  · rw [h]
    rfl
  · rw [ht]
    rfl

/-- A controlled stop at rest changes no dossier that is not STOPPING with IDLE circuits. -/
theorem State.stopUpdate_waits (hact : (s.channel n).activity = .idle) (hx : (s.channel n).setPoint.natAbs ≤ 3)
    (hbusy : (s.dossier n).state ≠ .stopping ∨ ∃ c, (s.circuit n c).state ≠ .idle) :
    s.stopUpdate n = s.modChannel n Channel.immediateStop := by
  rw [State.stopUpdate_of_near hx, State.dropped_idle hact]
  refine State.checkStopping_of_busy _ _ ?_
  rintro ⟨hst, -, hcircuits⟩
  rw [State.circuitsIdle, Bool.and_eq_true, beq_iff_eq, beq_iff_eq] at hcircuits
  rcases hbusy with hne | ⟨c, hc⟩
  · exact hne hst
  · cases c with
    | c0 => exact hc hcircuits.1
    | c1 => exact hc hcircuits.2

/-- Settles O38: the moving update with and without a profile, and what follows the stop in each activity. -/
theorem controlledStopComesToRest : Obligations.ControlledStopComesToRest := by
  intro u s hzero hunit hstop henable
  have hchannel := State.channel_immediateStop s u.nest
  have hmoved := State.modChannel_sameElsewhere s u.nest Channel.immediateStop
  have hcreeping {r : RefCounters} (hact : (s.channel u.nest).activity = .creeping r) (c : ProfileCounters) :
      (s.channel u.nest).activity ≠ .profiling c := by rw [hact]; exact nofun
  refine ⟨?moving, ?profile, ?idle, ?held, ?begins⟩
  case moving =>
    rintro x rfl hx hact
    exact congrArg Host.Outcome.next (State.driveUpdate_stop hzero hstop hact (State.stopUpdate_of_far hx henable) hunit)
  case profile =>
    rintro c x hact rfl
    refine ⟨fun hx => congrArg Host.Outcome.next (State.driveUpdate_stop_profiling hzero hstop hact
      (State.stopUpdate_of_far (s := s.peaked u.nest (s.torqueAt u)) hx henable) hunit), fun p i hx hs hlast => ?_⟩
    obtain ⟨t, hwork, hunit', hindex, hidle, henable', hset', hstop', hrunIn, hcaptures, helse⟩ :=
      State.stopUpdate_profile_last (torque := s.torqueAt u) hact hx hs hlast
    exact ⟨t, congrArg Host.Outcome.next (State.driveUpdate_stop_profiling hzero hstop hact hwork (hunit'.trans hunit)), hindex, hidle,
      henable', hset', hstop', hrunIn, hcaptures.trans (Dossier.captures_skipUnrequested _), helse⟩
  case idle =>
    intro hx hact
    have hother (c : ProfileCounters) : (s.channel u.nest).activity ≠ .profiling c := by rw [hact]; exact nofun
    refine ⟨fun hbusy => congrArg Host.Outcome.next (State.driveUpdate_stop hzero hstop hother (State.stopUpdate_waits hact hx hbusy) hunit),
      fun hst hstopped hcircuits => ?_⟩
    obtain ⟨⟨hstate, hverdict, hcause, htime, hresults, hpending, hjudged, helse⟩, hunit'⟩ :=
      State.stopUpdate_judges hact hx hst hstopped hcircuits
    rw [hchannel] at hjudged
    exact ⟨_, congrArg Host.Outcome.next (State.driveUpdate_stop hzero hstop hother rfl (hunit'.trans hunit)), hstate, hverdict, hcause,
      htime, hresults, hjudged, hpending, hmoved.trans helse⟩
  case held =>
    intro p i r hs hact hx hnext hskip hclass hlast
    have hwork := (State.stopUpdate_of_near hx).trans (State.dropped_drive (.inl ⟨r, hact⟩))
    obtain ⟨hindex, hidle, henable', hset', hrunIn, hcaptures, hunit', helse⟩ :=
      State.endDriveStage_held_last (s := s.modChannel u.nest Channel.immediateStop) (n := u.nest) hs (by decide) hnext hskip hclass hlast
    rw [hchannel] at henable' hset'
    exact ⟨_, congrArg Host.Outcome.next (State.driveUpdate_stop hzero hstop (hcreeping hact) hwork (hunit'.trans hunit)), hindex, hidle,
      henable', hset', hrunIn, hcaptures.trans (Dossier.captures_skipUnrequested _), hmoved.trans helse⟩
  case begins =>
    intro p i r step steps hs hact hx hnext hskip hclass hsteps
    have hwork := (State.stopUpdate_of_near hx).trans (State.dropped_drive (.inl ⟨r, hact⟩))
    have hbegins := (State.endDriveStage_then_profile (s := s.modChannel u.nest Channel.immediateStop)
      (n := u.nest) hs (by decide) hnext hskip).trans <| State.walkStages_profile_begins
        (s := (s.modChannel u.nest Channel.immediateStop).setActivity u.nest .idle) hskip hclass hsteps
    refine ⟨_, ProfileCounters.fresh step 0, congrArg Host.Outcome.next (State.driveUpdate_stop hzero hstop (hcreeping hact)
      (hwork.trans hbegins) hunit), PerNest.get_set_same .., ?_, rfl, rfl, rfl, rfl, rfl, rfl, ?_⟩
    · rw [State.channel, PerNest.get_set_same, State.channel_setActivity, hchannel]
    · exact (hmoved.trans (State.setActivity_sameElsewhere _ _ _)).trans
        ⟨PerNest.get_set_other .., PerNest.get_set_other .., rfl, rfl, rfl, rfl, rfl⟩

end

end Sys2Proof.Machine
end

section
/-! PROOFS. The updates of a REFERENCE stage and the torque trips. -/

namespace Sys2Proof.Machine

section
variable {s t : State} {n : Nest} {u : UpdateInput} {p : Plan} {i : Nat} {st : Stage} {cause : Cause} {torque : Int} {seated : Bool}

/-! ### What a change of the activity and of the peak torque leaves out (R60, R94) -/

theorem State.failedMoving.of_setActivity {a : Activity} (h : (s.setActivity n a).failedMoving t n p i cause) : s.failedMoving t n p i cause := by
  obtain ⟨hfail, hskipped, hset, hstop, henable, hindex, helse⟩ := h
  rw [State.channel_setActivity] at hset
  exact ⟨hfail, hskipped, hset, hstop, henable, hindex, (State.setActivity_sameElsewhere s n a).trans helse⟩

theorem State.runInFailed.of_peaked (h : (s.peaked n torque).runInFailed t n cause) : s.runInFailed t n cause := by
  intro r hr
  obtain ⟨r', ht, hgiven⟩ := h { r with peakTorque := max r.peakTorque torque.natAbs }
    (by rw [State.dossier_peaked, Dossier.peaked, hr, Option.map_some])
  exact ⟨r', ht, hgiven⟩

theorem State.failedMoving.of_peaked (h : (s.peaked n torque).failedMoving t n p i cause) : s.failedMoving t n p i cause := by
  obtain ⟨hfail, hskipped, hset, hstop, henable, hindex, helse⟩ := h
  rw [State.laterSkipped, State.dossier_peaked] at hskipped
  exact ⟨hfail.of_peaked, hskipped, hset, hstop, henable, hindex, (State.peaked_sameElsewhere s n torque).trans helse⟩

theorem State.failedAtRest.of_peaked (h : (s.peaked n torque).failedAtRest t n cause) : s.failedAtRest t n cause := by
  obtain ⟨hfail, hindex, hidle, henable, hset, helse⟩ := h
  exact ⟨hfail.of_peaked, hindex, hidle, henable, hset, (State.peaked_sameElsewhere s n torque).trans helse⟩

theorem State.enableRefused.of_peaked {held : Prop} (h : (s.peaked n torque).enableRefused t n held) : s.enableRefused t n held := by
  obtain ⟨hopen, hclosed⟩ := h
  refine ⟨fun ho => ?_, fun hc => ?_⟩
  · obtain ⟨h1, h2, h3, h4, h5, h6, h7⟩ := hopen ho
    exact ⟨h1, h2, h3, h4, h5.trans (PerNest.get_set_other ..), h6, h7⟩
  · obtain ⟨hfault, hnofault⟩ := hclosed hc
    refine ⟨fun hf => (hfault hf).of_peaked, fun hf => ?_⟩
    obtain ⟨hheld, hlapse⟩ := hnofault hf
    exact ⟨fun hh => (hheld hh).of_peaked, fun hh hl => (hlapse hh hl).of_peaked⟩

theorem State.stageIs.setActivity (hs : s.stageIs n p i st) (a : Activity) : (s.setActivity n a).stageIs n p i st := hs

/-! ### What a failure in motion leaves in the dossier and in the activity (R25) -/

/-- Outside PROFILING a failure marks the counters of an ENGAGE stage and changes no others. -/
theorem State.activity_failRunIn (h : ∀ c, (s.channel n).activity ≠ .profiling c) :
    ((s.failRunIn n cause).channel n).activity = (s.channel n).activity.markFailed := by
  have hnone (v : State) (hv : ∀ c, (v.channel n).activity ≠ .profiling c) : v.withdrawCapture n = v := by
    unfold State.withdrawCapture
    split
    · next c hc => exact absurd hc (hv c)
    · rfl
  have hmark (v : State) (hv : v.channel n = s.channel n) :
      (((v.modChannel n fun ch => { ch with activity := ch.activity.markFailed }).withdrawCapture n).channel n).activity =
        (s.channel n).activity.markFailed := by
    have hact : (v.modChannel n fun ch => { ch with activity := ch.activity.markFailed }).channel n =
        { s.channel n with activity := (s.channel n).activity.markFailed } := by rw [State.channel_modChannel_same, hv]
    rw [hnone, hact]
    intro c
    rw [hact]
    intro hc
    cases ha : (s.channel n).activity with
    | profiling c' => exact h c' ha
    | _ => rw [ha] at hc; exact nomatch hc
  unfold State.failRunIn
  extract_lets given skipped
  refine hmark _ ?_
  simp only [skipped]
  split
  · rfl
  · rfl

theorem State.failMoving_eq_of_far (henable : (s.channel n).enable = true) (hfar : 3 < (s.channel n).setPoint.natAbs) :
    ((s.failMoving n cause).dossier n).runIn = (s.dossier n).runInGiven (failed cause) ∧
      ((s.failMoving n cause).channel n).activity = ((s.failRunIn n cause).channel n).activity := by
  obtain ⟨skipped, captures, activity, slots, unit, h, -⟩ := State.failRunIn_eq s n cause
  have hchannel : ((s.failRunIn n cause).modChannel n Channel.controlledStop).channel n =
      { (s.failRunIn n cause).channel n with stopping := ((s.failRunIn n cause).channel n).enable } := State.channel_modChannel_same ..
  have hsame : ((s.failRunIn n cause).channel n).enable = (s.channel n).enable ∧
      ((s.failRunIn n cause).channel n).setPoint = (s.channel n).setPoint := by
    rw [h, State.channel, PerNest.get_set_same]
    exact ⟨rfl, rfl⟩
  obtain ⟨hsameE, hsameX⟩ := hsame
  rw [State.failMoving, State.stopUpdate_of_far (by rw [hchannel]; exact hsameX ▸ hfar) (by rw [hchannel]; exact hsameE.trans henable)]
  refine ⟨?_, ?_⟩
  · show ((s.failRunIn n cause).dossier n).runIn = _
    rw [h, State.dossier, PerNest.get_set_same]
  · rw [State.channel, PerNest.get_set_same, hchannel]

/-- With the enable on a set-point is sent as it is (R60). -/
theorem State.send_of_enabled {x : Int} (henable : (s.channel n).enable = true) :
    s.modChannel n (fun ch => ch.send x) = { s with channels := s.channels.set n { s.channel n with setPoint := x } } := by
  show { s with channels := s.channels.set n ((s.channel n).send x) } = _
  rw [Channel.send, if_pos henable]

/-! ### The updates of a REFERENCE stage (R66, R73 to R76) -/

/-- A REFERENCE stage's activity with its counters. -/
def Activity.isRef (a : Activity) (r : RefCounters) : Prop := a = .searching r ∨ a = .reversing r ∨ a = .creeping r

theorem Activity.isRef.not_profiling {a : Activity} {r : RefCounters} (h : a.isRef r) (c : ProfileCounters) : a ≠ .profiling c := by
  rcases h with rfl | rfl | rfl <;> exact nofun

theorem State.channelUpdate_ref {r : RefCounters} (hstop : (s.channel n).stopping = false) (hp : s.planOf n = some p)
    (hact : (s.channel n).activity.isRef r) : s.channelUpdate n torque seated = s.referenceUpdate n p torque (s.channel n).activity r := by
  rcases hact with hact | hact | hact <;> simp [State.channelUpdate, hstop, hp, hact]

theorem State.referenceUpdate_overheat {a : Activity} {r : RefCounters} (henable : (s.channel n).enable = true) (hclass : s.classOf n = 7) :
    s.referenceUpdate n p torque a r = s.failMoving n .overheat := by
  unfold State.referenceUpdate
  extract_lets r' x a'
  rw [if_pos henable, if_pos hclass]

theorem countRun_third {run : Nat} {met : Prop} [Decidable met] (hrun : run = 2) (hmet : met) : countRun run met = 3 := by
  rw [countRun, decide_eq_true hmet, hrun]
  rfl

theorem State.referenceUpdate_trips {a : Activity} {r : RefCounters} (henable : (s.channel n).enable = true) (hclass : s.classOf n ≠ 7)
    (hrun : r.torqueRun = 2) (hjam : p.jamTorque < torque.natAbs) :
    s.referenceUpdate n p torque a r = (s.setActivity n (a.withRef { r with torqueRun := 3 })).failMoving n .torqueTrip := by
  have h := countRun_third hrun hjam
  unfold State.referenceUpdate
  extract_lets r' x a'
  have hr' : r' = { r with torqueRun := 3 } := congrArg (fun k => { r with torqueRun := k }) h
  rw [if_pos henable, if_neg hclass, hr', if_pos (Nat.le_refl 3)]

theorem State.referenceUpdate_moves {a : Activity} {r : RefCounters} {run : Nat} (henable : (s.channel n).enable = true)
    (hclass : s.classOf n ≠ 7) (hrun : run = if p.jamTorque < torque.natAbs then r.torqueRun + 1 else 0) (hlt : run < 3) :
    s.referenceUpdate n p torque a r = { s with
      channels := s.channels.set n
        { s.channel n with
          setPoint := referenceSetPoint p a (s.channel n).setPoint
          activity := (a.withRef { r with torqueRun := run }).sent (referenceSetPoint p a (s.channel n).setPoint) } } := by
  unfold State.referenceUpdate
  extract_lets r' x a'
  have hr' : r' = { r with torqueRun := run } := by
    refine congrArg (fun k => { r with torqueRun := k }) ?_
    rw [hrun, countRun]
    exact if_congr decide_eq_true_iff rfl rfl
  have hfew : ¬3 ≤ r'.torqueRun := by rw [hr']; exact Nat.not_le.mpr hlt
  rw [if_pos henable, if_neg hclass, if_neg hfew]
  have henable' : ((s.setActivity n a').channel n).enable = true := by rw [State.channel_setActivity]; exact henable
  rw [State.send_of_enabled henable', State.channel_setActivity]
  simp only [a', hr', x, State.setActivity, State.modChannel, PerNest.mod, PerNest.set_set]
  rfl

theorem Activity.isRef.withRef {a : Activity} {r r' : RefCounters} (h : a.isRef r) : (a.withRef r').isRef r' ∧
    (a.withRef r').markFailed = a.withRef r' := by
  rcases h with rfl | rfl | rfl
  · exact ⟨.inl rfl, rfl⟩
  · exact ⟨.inr (.inl rfl), rfl⟩
  · exact ⟨.inr (.inr rfl), rfl⟩

/-- A torque trip of a REFERENCE stage in motion (R74). -/
theorem State.driveUpdate_ref_trips {r : RefCounters} (hs : s.stageIs u.nest p i .reference) (hquiet : s.quiet u.nest)
    (henable : (s.channel u.nest).enable = true) (hfar : 3 < (s.channel u.nest).setPoint.natAbs) (hact : (s.channel u.nest).activity.isRef r)
    (hclass : s.classOf u.nest ≠ 7) (hrun : r.torqueRun = 2) (hjam : p.jamTorque < (s.torqueAt u).natAbs) :
    s.failedMoving (s.driveUpdate u) u.nest p i .torqueTrip ∧
      ((s.driveUpdate u).channel u.nest).activity = (s.channel u.nest).activity.withRef { r with torqueRun := 3 } := by
  obtain ⟨hzero, hunit, hstop⟩ := hquiet
  have hwork : s.channelUpdate u.nest (s.torqueAt u) u.seated = _ :=
    (State.channelUpdate_ref hstop hs.2.1 hact).trans (State.referenceUpdate_trips henable hclass hrun hjam)
  generalize hs' : s.setActivity u.nest ((s.channel u.nest).activity.withRef { r with torqueRun := 3 }) = s' at hwork
  have hchannel : s'.channel u.nest = { s.channel u.nest with activity := (s.channel u.nest).activity.withRef { r with torqueRun := 3 } } := by
    rw [← hs', State.channel_setActivity]
  have hstage : s'.stageIs u.nest p i .reference := hs' ▸ hs.setActivity _
  obtain ⟨href, hmark⟩ := hact.withRef (r' := { r with torqueRun := 3 })
  have henable' : (s'.channel u.nest).enable = true := by rw [hchannel]; exact henable
  have hfar' : 3 < (s'.channel u.nest).setPoint.natAbs := by rw [hchannel]; exact hfar
  obtain ⟨hmoving, hidle⟩ := State.failMoving_far (cause := .torqueTrip) hstage henable' hfar'
  obtain ⟨-, hactivity⟩ := State.failMoving_eq_of_far (cause := .torqueTrip) henable' hfar'
  have hunit' : s'.captureUnit u.nest = .idle := by rw [← hs']; exact hunit
  rw [State.driveUpdate_eq hzero hact.not_profiling hwork (hidle hunit')]
  refine ⟨?_, hactivity.trans ?_⟩
  · subst hs'
    exact hmoving.of_setActivity
  rw [State.activity_failRunIn (by rw [hchannel]; exact href.not_profiling), hchannel]
  exact hmark

theorem State.driveUpdate_ref_overheat {r : RefCounters} (hs : s.stageIs u.nest p i .reference) (hquiet : s.quiet u.nest)
    (henable : (s.channel u.nest).enable = true) (hfar : 3 < (s.channel u.nest).setPoint.natAbs) (hact : (s.channel u.nest).activity.isRef r)
    (hclass : s.classOf u.nest = 7) : s.failedMoving (s.driveUpdate u) u.nest p i .overheat := by
  obtain ⟨hzero, hunit, hstop⟩ := hquiet
  obtain ⟨hmoving, hidle⟩ := State.failMoving_far (cause := .overheat) hs henable hfar
  rw [State.driveUpdate_eq hzero hact.not_profiling
    ((State.channelUpdate_ref hstop hs.2.1 hact).trans (State.referenceUpdate_overheat henable hclass)) (hidle hunit)]
  exact hmoving

/-- An update of a REFERENCE stage in motion that meets no criterion. -/
theorem State.driveUpdate_ref_moves {r : RefCounters} {run : Nat} (hs : s.stageIs u.nest p i .reference) (hquiet : s.quiet u.nest)
    (henable : (s.channel u.nest).enable = true) (hclass : s.classOf u.nest ≠ 7)
    (hrun : run = if p.jamTorque < (s.torqueAt u).natAbs then r.torqueRun + 1 else 0) (hlt : run < 3)
    (hact : (s.channel u.nest).activity.isRef r) : s.driveUpdate u = { s with
      channels := s.channels.set u.nest
        { s.channel u.nest with
          setPoint := referenceSetPoint p (s.channel u.nest).activity (s.channel u.nest).setPoint
          activity := ((s.channel u.nest).activity.withRef { r with torqueRun := run }).sent
            (referenceSetPoint p (s.channel u.nest).activity (s.channel u.nest).setPoint) } } := by
  obtain ⟨hzero, hunit, hstop⟩ := hquiet
  exact State.driveUpdate_eq hzero hact.not_profiling
    ((State.channelUpdate_ref hstop hs.2.1 hact).trans (State.referenceUpdate_moves henable hclass hrun hlt)) hunit

/-! ### The first set-point of a REFERENCE stage (R62, R73) -/

theorem State.referenceUpdate_first (hsearch : 3 ≤ p.searchSpeed) (henable : (s.channel n).enable = false) (hset : (s.channel n).setPoint = 0) :
    (s.enableCheck n true = .granted → s.interlock.zero = none → torque.natAbs ≤ p.jamTorque →
      (s.channel n).activity = .searching ⟨0, false, 0, 0⟩ → s.referenceUpdate n p torque (.searching ⟨0, false, 0, 0⟩) ⟨0, false, 0, 0⟩ =
        { s with channels := s.channels.set n { s.channel n with enable := true, setPoint := 3 } }) ∧
      (s.enableCheck n true ≠ .granted → s.referenceUpdate n p torque (.searching ⟨0, false, 0, 0⟩) ⟨0, false, 0, 0⟩ =
        s.refuseEnable n (s.enableCheck n true)) := by
  have hx : referenceSetPoint p (.searching ⟨0, false, 0, 0⟩) (s.channel n).setPoint = 3 := by
    show moveToward p.searchSpeed 3 (s.channel n).setPoint = 3
    rw [hset, moveToward]
    split <;> omega
  have hoff : ¬(s.channel n).enable = true := Bool.eq_false_iff.mp henable
  refine ⟨fun hcheck hzero hjam hact => ?_, fun hcheck => ?_⟩
  · have hrun : countRun 0 (p.jamTorque < torque.natAbs) = 0 := by
      rw [decide_eq_false (Nat.not_lt.mpr hjam)]
      rfl
    simp only [State.referenceUpdate, hx, henable, hcheck, hrun, Activity.withRef, Activity.sent]
    rw [← hact, State.setActivity_self rfl, if_neg (by decide), if_neg (by decide), State.turnOn_of_noZero hzero]
    rfl
  · simp only [State.referenceUpdate, hx, if_neg hoff]
    rw [if_neg (by decide)]

end

end Sys2Proof.Machine
end

section
/-! PROOFS. The updates of a PROFILE stage. -/

namespace Sys2Proof.Machine

section
variable {s t : State} {n : Nest} {u : UpdateInput} {p : Plan} {i : Nat} {step : Step} {c : ProfileCounters} {cause : Cause} {torque : Int} {seated : Bool}

/-! ### The step and the phase of an update (R82, R83) -/

theorem State.channelUpdate_profiling (hstop : (s.channel n).stopping = false) (hp : s.planOf n = some p)
    (hact : (s.channel n).activity = .profiling c) : s.channelUpdate n torque seated = s.profileUpdate n p torque c := by
  simp [State.channelUpdate, hstop, hp, hact]

/-- With a profile under way an update is the peak torque, the sequencer's work and the look for a slot. -/
theorem State.driveUpdate_profiling (hs : s.stageIs u.nest p i .profile) (hzero : s.interlock.zero = none)
    (hstop : (s.channel u.nest).stopping = false) (hact : (s.channel u.nest).activity = .profiling c) :
    s.driveUpdate u = ((s.peaked u.nest (s.torqueAt u)).profileUpdate u.nest p (s.torqueAt u) c).lookForSlot u.nest := by
  rw [State.driveUpdate_of_noZero hzero, State.raisePeak_profiling hact,
    State.channelUpdate_profiling (s := s.peaked u.nest (s.torqueAt u)) hstop (hs.peaked (s.torqueAt u)).2.1 hact]

/-- While its ramp or its dwell goes on the step in force stays. -/
theorem ProfileCounters.locate_same {x : Int} (hstep : p.steps[c.stepIndex]? = some step) (hon : c.phase = .ramp ∨ c.dwellCount < step.dwellUpdates) :
    c.locate p x = some (c.phased step, step) := by
  have hended : c.dwellEnded step = false := by
    rcases hon with hramp | hlt
    · simp [ProfileCounters.dwellEnded, hramp]
    · simp [ProfileCounters.dwellEnded, hlt]
  simp [ProfileCounters.locate, hstep, hended]

theorem ProfileCounters.phased_torqueRun : (c.phased step).torqueRun = c.torqueRun := by
  unfold ProfileCounters.phased
  split <;> rfl

/-! ### The failures of a profile in motion (R66, R87, R91) -/

theorem State.profileUpdate_overheat (hend : c.endPending = false) (hstep : p.steps[c.stepIndex]? = some step)
    (hon : c.phase = .ramp ∨ c.dwellCount < step.dwellUpdates) (henable : (s.channel n).enable = true) (hclass : s.classOf n = 7) :
    s.profileUpdate n p torque c = (s.setActivity n (.profiling (c.phased step))).failMoving n .overheat := by
  unfold State.profileUpdate
  rw [hend, if_neg (by decide), ProfileCounters.locate_same hstep hon]
  show (if (s.channel n).enable then _ else _) = _
  rw [if_pos henable, if_pos hclass]

theorem State.profileUpdate_trips (hend : c.endPending = false) (hstep : p.steps[c.stepIndex]? = some step)
    (hon : c.phase = .ramp ∨ c.dwellCount < step.dwellUpdates) (henable : (s.channel n).enable = true) (hclass : s.classOf n ≠ 7)
    (hrun : c.torqueRun = 2) (hlimit : effectiveLimit (s.classOf n) step.torqueLimit < torque.natAbs) :
    s.profileUpdate n p torque c =
      (s.setActivity n (.profiling { c.phased step with torqueRun := 3 })).failMoving n .torqueTrip := by
  have hcount : countRun (c.phased step).torqueRun (effectiveLimit (s.classOf n) step.torqueLimit < torque.natAbs) = 3 :=
    countRun_third (ProfileCounters.phased_torqueRun.trans hrun) hlimit
  unfold State.profileUpdate
  rw [hend, if_neg (by decide), ProfileCounters.locate_same hstep hon]
  show (if (s.channel n).enable then _ else _) = _
  rw [if_pos henable, if_neg hclass]
  simp only [hcount]
  rw [if_pos (Nat.le_refl 3)]

/-- A failure of a profile in motion, whatever its counters become. -/
theorem State.driveUpdate_profile_fails (a : Activity) (hs : s.stageIs u.nest p i .profile) (hquiet : s.quiet u.nest)
    (henable : (s.channel u.nest).enable = true) (hfar : 3 < (s.channel u.nest).setPoint.natAbs)
    (hact : (s.channel u.nest).activity = .profiling c)
    (hwork : (s.peaked u.nest (s.torqueAt u)).profileUpdate u.nest p (s.torqueAt u) c =
      ((s.peaked u.nest (s.torqueAt u)).setActivity u.nest a).failMoving u.nest cause) :
    s.failedMoving (s.driveUpdate u) u.nest p i cause ∧
      ((s.driveUpdate u).dossier u.nest).runIn = ((s.dossier u.nest).peaked (s.torqueAt u)).runInGiven (failed cause) := by
  obtain ⟨hzero, hunit, hstop⟩ := hquiet
  have hchannel : ((s.peaked u.nest (s.torqueAt u)).setActivity u.nest a).channel u.nest = { s.channel u.nest with activity := a } :=
    State.channel_setActivity ..
  generalize hs' : (s.peaked u.nest (s.torqueAt u)).setActivity u.nest a = s' at hwork hchannel
  have hstage : s'.stageIs u.nest p i .profile := by
    subst hs'
    exact (hs.peaked (s.torqueAt u)).setActivity a
  have henable' : (s'.channel u.nest).enable = true := by rw [hchannel]; exact henable
  have hfar' : 3 < (s'.channel u.nest).setPoint.natAbs := by rw [hchannel]; exact hfar
  obtain ⟨hmoving, hidle⟩ := State.failMoving_far (cause := cause) hstage henable' hfar'
  obtain ⟨hrunIn, -⟩ := State.failMoving_eq_of_far (cause := cause) henable' hfar'
  have hunit' : s'.captureUnit u.nest = .idle := by
    subst hs'
    exact hunit
  have hupdate : s.driveUpdate u = s'.failMoving u.nest cause := by
    rw [State.driveUpdate_profiling hs hzero hstop hact, hwork, State.lookForSlot_of_idle (hidle hunit')]
  rw [hupdate]
  subst hs'
  exact ⟨hmoving.of_setActivity.of_peaked, hrunIn.trans (by rw [State.setActivity, State.dossier_modChannel, State.dossier_peaked])⟩

/-- Settles O42: the trips in motion, the updates between them, and the first set-point. -/
theorem torqueTripsStopTheStage : Obligations.TorqueTripsStopTheStage := by
  refine ⟨fun u p i s hquiet henable hfar => ⟨fun r hs hact => ⟨?trip, ?overheat⟩, fun c step hs hact hend hstep hon => ⟨?hot, ?torque⟩⟩,
    fun u p i r x y run s hs hquiet henable hclass hx hrun hlt => ⟨?search, ?turn, ?creep⟩,
    fun u p i s hs hquiet hact henable hset hsearch => ⟨?on, ?refused⟩⟩
  case trip =>
    intro hclass hrun hjam
    obtain ⟨hmoving, hactivity⟩ := State.driveUpdate_ref_trips hs hquiet henable hfar hact hclass hrun hjam
    refine ⟨_, rfl, hmoving, fun ha => ?_, fun ha => ?_, fun ha => ?_⟩
    all_goals
      rw [hactivity, ha]
      rfl
  case overheat => exact fun hclass _ => ⟨_, rfl, State.driveUpdate_ref_overheat hs hquiet henable hfar hact hclass⟩
  case hot =>
    intro hclass
    obtain ⟨hmoving, -⟩ := State.driveUpdate_profile_fails _ hs hquiet henable hfar hact
      (State.profileUpdate_overheat (s := s.peaked u.nest (s.torqueAt u)) hend hstep hon henable hclass)
    exact ⟨_, rfl, hmoving⟩
  case torque =>
    intro hclass hrun hlimit
    obtain ⟨hmoving, hrunIn⟩ := State.driveUpdate_profile_fails _ hs hquiet henable hfar hact
      (State.profileUpdate_trips (s := s.peaked u.nest (s.torqueAt u)) hend hstep hon henable hclass hrun hlimit)
    refine ⟨_, rfl, hmoving, ?_, ?_⟩
    all_goals
      rw [hrunIn, Dossier.runInGiven, Dossier.peaked, Option.map_map, Option.map_map]
      rfl
  case search =>
    intro hact hle hy
    have hgo : moveToward p.searchSpeed 3 x = y := by
      rw [hy, moveToward]
      split <;> omega
    refine congrArg Host.Outcome.next ((State.driveUpdate_ref_moves hs hquiet henable hclass hrun hlt (.inl hact)).trans ?_)
    rw [hact, hx, referenceSetPoint, hgo]
    rfl
  case turn =>
    intro hact hle hy
    have hgo : referenceSetPoint p (.reversing r) x = y := by
      rw [hy, referenceSetPoint]
      by_cases hpos : 0 < x
      · rw [if_pos hpos, if_pos hpos]
        exact if_neg (by omega)
      · rw [if_neg hpos, if_neg hpos]
        exact if_neg (by omega)
    refine congrArg Host.Outcome.next ((State.driveUpdate_ref_moves hs hquiet henable hclass hrun hlt (.inr (.inl hact))).trans ?_)
    rw [hact, hx, hgo]
    rfl
  case creep =>
    intro hact hy
    have hgo : referenceSetPoint p (.creeping r) x = y := by
      rw [hy]
      cases hr : r.reverse <;> simp [referenceSetPoint, hr, moveToward]
    refine congrArg Host.Outcome.next ((State.driveUpdate_ref_moves hs hquiet henable hclass hrun hlt (.inr (.inr hact))).trans ?_)
    rw [hact, hx, hgo]
    rfl
  case on =>
    intro hallowed hclass hjam
    obtain ⟨hzero, hunit, hstop⟩ := hquiet
    obtain ⟨hfirst, -⟩ := State.referenceUpdate_first (torque := s.torqueAt u) hsearch henable hset
    have hcheck := State.enableCheck_granted (readsClass := true) hallowed fun _ => hclass
    have href : (s.channel u.nest).activity.isRef ⟨0, false, 0, 0⟩ := .inl hact
    refine congrArg Host.Outcome.next (State.driveUpdate_eq hzero href.not_profiling
      ((State.channelUpdate_ref hstop hs.2.1 href).trans ?_) hunit)
    rw [hact]
    exact hfirst hcheck hzero hjam hact
  case refused =>
    intro hlast hlist
    obtain ⟨hzero, hunit, hstop⟩ := hquiet
    have hheld : s.classOf u.nest = 7 ↔ true = true ∧ s.classOf u.nest = 7 := by simp
    obtain ⟨-, hrefuse⟩ := State.referenceUpdate_first (torque := s.torqueAt u) hsearch henable hset
    have href : (s.channel u.nest).activity.isRef ⟨0, false, 0, 0⟩ := .inl hact
    refine ⟨_, rfl, ?_⟩
    by_cases hcheck : s.enableCheck u.nest true = .granted
    · exact State.enableRefused_of_granted hheld hcheck
    · obtain ⟨hidle, hrefused⟩ := State.refuseEnable_last hs rfl hlast henable hset hunit hlist hheld rfl hcheck
      have hwork : s.channelUpdate u.nest (s.torqueAt u) u.seated = s.refuseEnable u.nest (s.enableCheck u.nest true) := by
        rw [State.channelUpdate_ref hstop hs.2.1 href, hact]
        exact hrefuse hcheck
      show s.enableRefused (s.driveUpdate u) u.nest _
      rw [State.driveUpdate_eq hzero href.not_profiling hwork hidle]
      exact hrefused

end

end Sys2Proof.Machine
end

section
/-! PROOFS. The ramp of a profile, its first enable and its completion. -/

namespace Sys2Proof.Machine

section
variable {s t : State} {n : Nest} {u : UpdateInput} {p : Plan} {i : Nat} {step : Step} {c : ProfileCounters} {cause : Cause} {torque : Int} {seated : Bool}

/-! ### The value of a ramp update and the limiter (R83, R89) -/

theorem rampValue_eq (s0 goal : Int) (k m : Nat) : rampValue s0 goal (k + 1) m = s0 + ((goal - s0) * (k + 1)).tdiv m := by
  rw [rampValue]
  push_cast
  rfl

theorem rampValue_last {s0 goal : Int} {m : Nat} (h : 0 < m) : rampValue s0 goal m m = goal := by
  rw [rampValue, Int.mul_tdiv_cancel _ (by omega)]
  omega

/-- A part of a difference lies between 0 and the difference. -/
theorem tdiv_part_bounds {d : Int} {k m : Nat} (hm : 0 < m) (hk : k ≤ m) :
    (0 ≤ d → 0 ≤ (d * k).tdiv m ∧ (d * k).tdiv m ≤ d) ∧ (d ≤ 0 → d ≤ (d * k).tdiv m ∧ (d * k).tdiv m ≤ 0) := by
  have hm' : (0 : Int) < m := by omega
  have hup {e : Int} (he : 0 ≤ e) : 0 ≤ (e * k).tdiv m ∧ (e * k).tdiv m ≤ e := by
    have hprod : 0 ≤ e * k := Int.mul_nonneg he (by omega)
    refine ⟨Int.tdiv_nonneg hprod (by omega), ?_⟩
    rw [Int.tdiv_eq_ediv_of_nonneg hprod]
    exact Int.ediv_le_of_le_mul hm' (Int.mul_le_mul_of_nonneg_left (by omega) he)
  refine ⟨hup, fun hd => ?_⟩
  obtain ⟨h0, h1⟩ := hup (e := -d) (by omega)
  rw [Int.neg_mul, Int.neg_tdiv] at h0 h1
  omega

theorem rampValue_bounds {s0 goal lo hi : Int} {k m : Nat} (hm : 0 < m) (hk : k ≤ m) (hs : lo ≤ s0 ∧ s0 ≤ hi) (hg : lo ≤ goal ∧ goal ≤ hi) :
    lo ≤ rampValue s0 goal k m ∧ rampValue s0 goal k m ≤ hi := by
  obtain ⟨hup, hdown⟩ := tdiv_part_bounds (d := goal - s0) hm hk
  rw [rampValue]
  rcases Int.le_total s0 goal with h | h
  · have := hup (by omega)
    omega
  · have := hdown (by omega)
    omega

/-- The limiter passes what lies within its limit. -/
theorem limiter_of_within {cls : Nat} {x y : Int} (hx : -3000 ≤ x ∧ x ≤ 3000) (h6 : cls = 6 → -2000 ≤ x ∧ x ≤ 2000) : limiter cls x y = x := by
  have hclamp : clamp (-(if cls = 6 then 2000 else 3000)) (if cls = 6 then 2000 else 3000) x = x := by
    unfold clamp
    split
    · have := h6 ‹_›
      omega
    · omega
  unfold limiter
  extract_lets l v
  have hv : v = x := hclamp
  rw [hv, if_neg fun h => h.1 rfl]

/-- In class 6 the limiter clamps at 2000 rpm, at once from a set-point within 3 rpm of the limit, else 3 rpm at a time. -/
theorem limiter_six {x y : Int} (hx : 2000 < x ∨ x < -2000) : limiter 6 x y =
    if 2003 < y.natAbs then moveToward 0 3 y else if 0 < x then 2000 else -2000 := by
  have hclamp : clamp (-2000) 2000 x = if 0 < x then 2000 else -2000 := by
    unfold clamp
    split <;> omega
  unfold limiter
  extract_lets l v
  have hv : v = if 0 < x then 2000 else -2000 := hclamp
  have hne : v ≠ x := by rw [hv]; split <;> omega
  have habs : v.natAbs = 2000 := by rw [hv]; split <;> rfl
  rw [habs, hv]
  exact if_congr ⟨fun h => by omega, fun h => ⟨hv ▸ hne, by omega⟩⟩ rfl rfl

/-- From rest the limiter's output is the clamped value. -/
theorem limiter_from_rest {cls : Nat} {x : Int} (hx : -3000 ≤ x ∧ x ≤ 3000) :
    limiter cls x 0 = if cls = 6 then max (-2000) (min 2000 x) else x := by
  have hclamp : clamp (-(if cls = 6 then 2000 else 3000)) (if cls = 6 then 2000 else 3000) x =
      if cls = 6 then max (-2000) (min 2000 x) else x := by
    unfold clamp
    split
    · rfl
    · omega
  unfold limiter
  extract_lets l v
  rw [if_neg fun h => absurd h.2 (Nat.not_lt_zero _)]
  exact hclamp

/-! ### A ramp update (R83, R87, R88) -/

theorem ProfileCounters.advance_ramp (hramp : c.phase = .ramp) :
    c.advance step = { c with
      rampCount := c.rampCount + 1
      computed := rampValue c.rampStart step.target (c.rampCount + 1) step.rampUpdates } := by
  unfold ProfileCounters.advance
  rw [hramp]

/-- In a ramp with no capture step 5 of R87 changes the counters alone. -/
theorem State.takeStep_ramp {c' : ProfileCounters} {x : Int} (hramp : c.phase = .ramp) (hramp' : c'.phase = .ramp)
    (hcapture : c'.stepCapture = .none) : s.takeStep n p step c c' x = s.setActivity n (.profiling c') := by
  have hstart : c.atDwellStart = false := by simp [ProfileCounters.atDwellStart, hramp]
  have hended : c'.dwellEnded step = false := by simp [ProfileCounters.dwellEnded, hramp']
  simp [State.takeStep, hstart, hended, hcapture]

theorem ProfileCounters.phased_ramp (hcount : c.rampCount < step.rampUpdates) : c.phased step = c :=
  if_neg fun h => Nat.not_le.mpr hcount h.2

/-- The counters after a ramp update. -/
def ProfileCounters.ramped (c : ProfileCounters) (x : Int) : ProfileCounters := { c with rampCount := c.rampCount + 1, computed := x }

/-- A ramp update is the counters' advance and step 6 of R87. -/
theorem State.profileStep_ramp {x : Int} (hramp : c.phase = .ramp) (hcapture : c.stepCapture = .none)
    (hx : rampValue c.rampStart step.target (c.rampCount + 1) step.rampUpdates = x) :
    s.profileStep n p step c = (s.setActivity n (.profiling (c.ramped x))).sendProfile n x (s.profileOutput n x) := by
  have hadvance : c.advance step = c.ramped x := (ProfileCounters.advance_ramp hramp).trans (by rw [hx, ProfileCounters.ramped])
  unfold State.profileStep
  extract_lets c' y
  have hc' : c' = c.ramped x := hadvance
  rw [State.takeStep_ramp hramp (by rw [hc']; exact hramp) (by rw [hc']; exact hcapture)]
  simp only [y, hc', ProfileCounters.ramped]

theorem State.profileUpdate_enabled (hend : c.endPending = false) (hstep : p.steps[c.stepIndex]? = some step)
    (hon : c.phase = .ramp ∨ c.dwellCount < step.dwellUpdates) (henable : (s.channel n).enable = true) (hclass : s.classOf n ≠ 7)
    (hlimit : torque.natAbs ≤ effectiveLimit (s.classOf n) step.torqueLimit) :
    s.profileUpdate n p torque c = s.profileStep n p step { c.phased step with torqueRun := 0 } := by
  have hcount : countRun (c.phased step).torqueRun (effectiveLimit (s.classOf n) step.torqueLimit < torque.natAbs) = 0 := by
    rw [decide_eq_false (Nat.not_lt.mpr hlimit)]
    rfl
  unfold State.profileUpdate
  rw [hend, if_neg (by decide), ProfileCounters.locate_same hstep hon]
  show (if (s.channel n).enable then _ else _) = _
  rw [if_pos henable, if_neg hclass]
  simp only [hcount]
  rw [if_neg (by decide)]

theorem State.profileUpdate_disabled (hend : c.endPending = false) (hstep : p.steps[c.stepIndex]? = some step)
    (hon : c.phase = .ramp ∨ c.dwellCount < step.dwellUpdates) (henable : (s.channel n).enable = false) :
    s.profileUpdate n p torque c = s.profileStep n p step (c.phased step) := by
  unfold State.profileUpdate
  rw [hend, if_neg (by decide), ProfileCounters.locate_same hstep hon]
  exact if_neg (Bool.eq_false_iff.mp henable)

/-- With the enable on the output of the limiter is sent. -/
theorem State.sendProfile_enabled {a : Activity} {x y : Int} (henable : (s.channel n).enable = true) :
    (s.setActivity n a).sendProfile n x y =
      { s with channels := s.channels.set n { s.channel n with setPoint := y, activity := a } } := by
  have henable' : ((s.setActivity n a).channel n).enable = true := by rw [State.channel_setActivity]; exact henable
  rw [State.sendProfile, if_pos henable', State.send_of_enabled henable', State.channel_setActivity]
  simp only [State.setActivity, State.modChannel, PerNest.mod, PerNest.set_set]

theorem State.profileOutput_enabled {x : Int} (henable : (s.channel n).enable = true) :
    s.profileOutput n x = limiter (s.classOf n) x (s.channel n).setPoint := if_pos henable

/-- With the enable off a computed value of 0 leaves it off. -/
theorem State.sendProfile_zero {a : Activity} {y : Int} (henable : (s.channel n).enable = false) :
    (s.setActivity n a).sendProfile n 0 y = s.setActivity n a := by
  have henable' : ¬((s.setActivity n a).channel n).enable = true := by
    rw [State.channel_setActivity]
    exact Bool.eq_false_iff.mp henable
  rw [State.sendProfile, if_neg henable', if_pos rfl]

/-- With the enable off a computed value that is not 0 asks for the enable (R88). -/
theorem State.sendProfile_asks {x y : Int} (henable : (s.channel n).enable = false) (hx : x ≠ 0) :
    (s.classOf n = 7 → s.sendProfile n x y = s.failAtRest n .overheat) ∧
      (s.classOf n ≠ 7 → s.enableCheck n false = .granted → s.sendProfile n x y = s.turnOn n y) ∧
      (s.classOf n ≠ 7 → s.enableCheck n false ≠ .granted → s.sendProfile n x y = s.refuseEnable n (s.enableCheck n false)) := by
  have hoff : ¬(s.channel n).enable = true := Bool.eq_false_iff.mp henable
  refine ⟨fun hclass => ?_, fun hclass hcheck => ?_, fun hclass hcheck => ?_⟩
  · rw [State.sendProfile, if_neg hoff, if_neg hx, if_pos hclass]
  · rw [State.sendProfile, if_neg hoff, if_neg hx, if_neg hclass, hcheck]
  · rw [State.sendProfile, if_neg hoff, if_neg hx, if_neg hclass]
    generalize s.enableCheck n false = check at hcheck
    cases check with
    | granted => exact absurd rfl hcheck
    | openGuard => rfl
    | failure cause => rfl

theorem State.profileOutput_first {x : Int} (henable : (s.channel n).enable = false) (hx : x ≠ 0) (hclass : s.classOf n ≠ 7)
    (hcheck : s.enableCheck n false = .granted) : s.profileOutput n x = limiter (s.classOf n) x 0 := by
  have hoff : ¬(s.channel n).enable = true := Bool.eq_false_iff.mp henable
  simp only [State.profileOutput, if_neg hoff, hcheck]
  exact if_neg fun h => h.elim hx hclass

/-- A ramp update with the enable on (R83, R89, R94). -/
theorem State.driveUpdate_ramp {x : Int} (hs : s.stageIs u.nest p i .profile) (hquiet : s.quiet u.nest)
    (hact : (s.channel u.nest).activity = .profiling c) (henable : (s.channel u.nest).enable = true) (hclass : s.classOf u.nest ≠ 7)
    (hend : c.endPending = false) (hcapture : c.stepCapture = .none) (hstep : p.steps[c.stepIndex]? = some step) (hramp : c.phase = .ramp)
    (hcount : c.rampCount < step.rampUpdates) (hlimit : (s.torqueAt u).natAbs ≤ effectiveLimit (s.classOf u.nest) step.torqueLimit)
    (hx : rampValue c.rampStart step.target (c.rampCount + 1) step.rampUpdates = x) : s.driveUpdate u =
      { s with
        channels := s.channels.set u.nest
          { s.channel u.nest with
            setPoint := limiter (s.classOf u.nest) x (s.channel u.nest).setPoint
            activity := .profiling { c with rampCount := c.rampCount + 1, computed := x, torqueRun := 0 } }
        dossiers := s.dossiers.set u.nest ((s.dossier u.nest).peaked (s.torqueAt u)) } := by
  obtain ⟨hzero, hunit, hstop⟩ := hquiet
  have hwork : (s.peaked u.nest (s.torqueAt u)).profileUpdate u.nest p (s.torqueAt u) c = _ :=
    (State.profileUpdate_enabled (s := s.peaked u.nest (s.torqueAt u)) hend hstep (.inl hramp) henable hclass hlimit).trans
      ((congrArg _ (by rw [ProfileCounters.phased_ramp hcount])).trans
        ((State.profileStep_ramp (c := { c with torqueRun := 0 }) hramp hcapture hx).trans
          ((congrArg _ (State.profileOutput_enabled henable)).trans (State.sendProfile_enabled henable))))
  rw [State.driveUpdate_profiling hs hzero hstop hact, hwork]
  exact State.lookForSlot_of_idle hunit

/-- A ramp update with the enable off is step 6 of R87 on the advanced counters. -/
theorem State.profileUpdate_ramp_disabled {x : Int} (henable : (s.channel n).enable = false) (hend : c.endPending = false)
    (hcapture : c.stepCapture = .none) (hstep : p.steps[c.stepIndex]? = some step) (hramp : c.phase = .ramp)
    (hcount : c.rampCount < step.rampUpdates) (hx : rampValue c.rampStart step.target (c.rampCount + 1) step.rampUpdates = x) :
    s.profileUpdate n p torque c = (s.setActivity n (.profiling (c.ramped x))).sendProfile n x (s.profileOutput n x) := by
  rw [State.profileUpdate_disabled hend hstep (.inl hramp) henable, ProfileCounters.phased_ramp hcount]
  exact State.profileStep_ramp hramp hcapture hx

/-! ### The completion update (R94) -/

/-- The completion update in motion: a controlled stop that moves the set-point. -/
theorem State.completeProfile_far (henable : (s.channel n).enable = true) (hfar : 3 < (s.channel n).setPoint.natAbs) :
    s.completeProfile n = { s with
      channels := s.channels.set n
        { s.channel n with
          setPoint := if 0 < (s.channel n).setPoint then (s.channel n).setPoint - 3 else (s.channel n).setPoint + 3
          stopping := true } } := by
  have hchannel : (s.modChannel n Channel.controlledStop).channel n = { s.channel n with stopping := (s.channel n).enable } :=
    State.channel_modChannel_same ..
  rw [State.completeProfile, if_pos henable, State.stopUpdate_of_far (by rw [hchannel]; exact hfar) (by rw [hchannel]; exact henable), hchannel,
    henable]
  simp only [State.modChannel, PerNest.mod, PerNest.set_set]

/-- The completion update at rest ends the stage, the last of the list. -/
theorem State.completeProfile_rest (hs : s.stageIs n p i .profile) (hact : (s.channel n).activity = .profiling c) (hlast : i + 1 = p.stages.length)
    (hrest : (s.channel n).enable = true ∧ (s.channel n).setPoint.natAbs ≤ 3 ∨ (s.channel n).enable = false ∧ (s.channel n).setPoint = 0) :
    ∃ t, (s.peaked n torque).completeProfile n = t ∧ t.captureUnit n = s.captureUnit n ∧ (t.dossier n).stageIndex = none ∧
      (t.channel n).activity = .idle ∧ (t.channel n).enable = false ∧ (t.channel n).setPoint = 0 ∧
      ((t.dossier n).runIn.map RunInRecord.given = (s.dossier n).runIn.map fun r => some (r.given.getD ⟨.pass, .none⟩)) ∧
      s.sameElsewhere t n := by
  rcases hrest with ⟨henable, hx⟩ | ⟨henable, hx⟩
  · have hchannel : (s.modChannel n Channel.controlledStop).channel n = { s.channel n with stopping := (s.channel n).enable } :=
      State.channel_modChannel_same ..
    obtain ⟨t, hwork, hunit, hindex, hidle, henable', hset, -, hrunIn, -, helse⟩ :=
      State.stopUpdate_profile_last (s := s.modChannel n Channel.controlledStop) (torque := torque) (by rw [hchannel]; exact hact)
        (by rw [hchannel]; exact hx) hs hlast
    refine ⟨t, (if_pos henable).trans hwork, hunit, hindex, hidle, henable', hset, ?_, (State.modChannel_sameElsewhere s n _).trans helse⟩
    rw [hrunIn, Option.map_map]
    rfl
  · have hover := State.endDriveStage_last (hs.peaked torque) hlast
    obtain ⟨hidle, henable', hset, -⟩ := hover.channel
    refine ⟨_, if_neg (Bool.eq_false_iff.mp henable), hover.unit n, hover.stageIndex, hidle, henable'.trans henable, hset.trans hx, ?_,
      (State.peaked_sameElsewhere s n torque).trans hover.sameElsewhere⟩
    rw [hover.runIn, Dossier.runIn_closeStage_last _ rfl, State.dossier_peaked]
    show Option.map _ (Option.map _ (Option.map _ (s.dossier n).runIn)) = _
    rw [Option.map_map, Option.map_map]
    rfl

/-- Settles O43: the ramp in motion, the first enable, and the completion. -/
theorem rampUpdatesReachTheTarget : Obligations.RampUpdatesReachTheTarget := by
  refine ⟨?moving, ?first, ?complete⟩
  case moving =>
    intro u p i c step s hs hquiet hact henable hclass hend hcapture hstep hramp hcount hlo hhi hslo hshi hlimit
    have hbounds := rampValue_bounds (s0 := c.rampStart) (goal := step.target) (lo := -3000) (hi := 3000) (k := c.rampCount + 1)
      (m := step.rampUpdates) (by omega) hcount ⟨hslo, hshi⟩ ⟨hlo, hhi⟩
    have hsix (h6 : s.classOf u.nest = 6) {x : Int} (hx : 2000 < x ∨ x < -2000) := h6 ▸ limiter_six (y := (s.channel u.nest).setPoint) hx
    refine ⟨_, _, (rampValue_eq ..).symm, fun hlast => ?_, fun hwithin => ?_, fun h6 hx hy hy' => ?_, fun h6 hx hy hy' => ?_,
      fun h6 hx hy => ?_, fun h6 hx hy => ?_, congrArg Host.Outcome.next
        (State.driveUpdate_ramp hs hquiet hact henable (by omega) hend hcapture hstep hramp hcount hlimit rfl)⟩
    · rw [← rampValue_eq, hlast]
      exact rampValue_last (by omega)
    · exact limiter_of_within hbounds fun h6 => hwithin.resolve_left (by omega)
    · rw [hsix h6 (.inl hx), if_neg (by omega), if_pos (by omega)]
    · rw [hsix h6 (.inr hx), if_neg (by omega), if_neg (by omega)]
    · rw [hsix h6 hx, if_pos (by omega), moveToward, if_neg (by omega)]
      omega
    · rw [hsix h6 hx, if_pos (by omega), moveToward, if_pos (by omega)]
      omega
  case first =>
    intro u p i c step x s hs hquiet hact henable hset hend hcapture hstep hramp hcount hx hlo hhi
    obtain ⟨hzero, hunit, hstop⟩ := hquiet
    have hupdate : s.driveUpdate u = (((s.peaked u.nest (s.torqueAt u)).setActivity u.nest (.profiling (c.ramped x))).sendProfile u.nest x
        ((s.peaked u.nest (s.torqueAt u)).profileOutput u.nest x)).lookForSlot u.nest := by
      rw [State.driveUpdate_profiling hs hzero hstop hact,
        State.profileUpdate_ramp_disabled (s := s.peaked u.nest (s.torqueAt u)) henable hend hcapture hstep hramp hcount
          ((rampValue_eq ..).trans hx.symm)]
    have henable' : (((s.peaked u.nest (s.torqueAt u)).setActivity u.nest (.profiling (c.ramped x))).channel u.nest).enable = false := by
      rw [State.channel_setActivity]
      exact henable
    have hset' : (((s.peaked u.nest (s.torqueAt u)).setActivity u.nest (.profiling (c.ramped x))).channel u.nest).setPoint = 0 := by
      rw [State.channel_setActivity]
      exact hset
    have hstage := (hs.peaked (s.torqueAt u)).setActivity (.profiling (c.ramped x))
    refine ⟨?zero, fun hne hallowed hclass => ?on, fun hne hlast => ⟨fun hclass => ?hot, fun hclass hlist => ?refused⟩⟩
    case zero =>
      rintro rfl
      refine congrArg Host.Outcome.next (hupdate.trans ?_)
      rw [State.sendProfile_zero (s := s.peaked u.nest (s.torqueAt u)) henable]
      exact State.lookForSlot_of_idle hunit
    all_goals obtain ⟨hhot, hgranted, hrefuse⟩ := State.sendProfile_asks (s := (s.peaked u.nest (s.torqueAt u)).setActivity u.nest
      (.profiling (c.ramped x))) (y := (s.peaked u.nest (s.torqueAt u)).profileOutput u.nest x) henable' hne
    case on =>
      have hcheck : s.enableCheck u.nest false = .granted := State.enableCheck_granted hallowed nofun
      refine congrArg Host.Outcome.next (hupdate.trans ?_)
      rw [hgranted hclass hcheck, State.profileOutput_first (s := s.peaked u.nest (s.torqueAt u)) henable hne hclass hcheck,
        limiter_from_rest ⟨hlo, hhi⟩,
        State.turnOn_of_noZero (s := (s.peaked u.nest (s.torqueAt u)).setActivity u.nest (.profiling (c.ramped x))) hzero]
      rw [State.lookForSlot_of_idle ?unit]
      case unit => exact hunit
      simp only [State.setActivity, State.modChannel, PerNest.mod, PerNest.get_set_same, PerNest.set_set]
      rfl
    case hot =>
      refine ⟨_, congrArg Host.Outcome.next (hupdate.trans ?_), (State.failAtRest_last hstage rfl hlast henable' hset').of_setActivity.of_peaked⟩
      rw [hhot hclass]
      exact State.lookForSlot_of_idle (State.unit_failAtRest_last hstage hlast hunit)
    case refused =>
      have hheld : False ↔ false = true ∧ s.classOf u.nest = 7 := by simp
      refine ⟨_, rfl, ?_⟩
      by_cases hcheck : s.enableCheck u.nest false = .granted
      · exact State.enableRefused_of_granted hheld hcheck
      · obtain ⟨hidle, hrefused⟩ := State.refuseEnable_last hstage rfl hlast henable' hset' hunit hlist hheld rfl hcheck
        show s.enableRefused (s.driveUpdate u) u.nest False
        rw [hupdate, hrefuse hclass hcheck, State.lookForSlot_of_idle hidle]
        exact hrefused.of_setActivity.of_peaked
  case complete =>
    rintro u p i c x s hs hquiet hact hend rfl
    obtain ⟨hzero, hunit, hstop⟩ := hquiet
    have hupdate : s.driveUpdate u = ((s.peaked u.nest (s.torqueAt u)).completeProfile u.nest).lookForSlot u.nest := by
      rw [State.driveUpdate_profiling hs hzero hstop hact, State.profileUpdate, hend, if_pos rfl]
    refine ⟨fun henable hfar => ?_, fun hrest hlast => ?_⟩
    · refine congrArg Host.Outcome.next (hupdate.trans ?_)
      rw [State.completeProfile_far (s := s.peaked u.nest (s.torqueAt u)) henable hfar]
      exact State.lookForSlot_of_idle hunit
    · obtain ⟨t, hwork, hunit', hindex, hidle, henable, hset, hrunIn, helse⟩ :=
        State.completeProfile_rest (torque := s.torqueAt u) hs hact hlast hrest
      refine ⟨t, congrArg Host.Outcome.next (hupdate.trans ?_), hindex, hidle, henable, hset, hrunIn, helse⟩
      rw [hwork]
      exact State.lookForSlot_of_idle (hunit'.trans hunit)

end

end Sys2Proof.Machine
end

section
/-! PROOFS. The encoder, the mark edge and the index pulse. -/

namespace Sys2Proof.Machine

section
variable {s t : State} {n : Nest} {p : Plan} {i : Nat} {r : RefCounters} {d : Direction} {cause : Cause}

/-! ### A legal change (R67, R74, R76, R77) -/

theorem State.samplePoint_of_idle (h : s.captureUnit n = .idle) : s.samplePoint n d = s := by simp only [State.samplePoint, h]

/-- The channel after a legal change of the quadrature inputs. -/
def Channel.counted (ch : Channel) (d : Direction) : Channel :=
  { ch with angle := stepAngle ch.angle d, activity := ch.activity.travelled d }

/-- With no capture in progress a legal change counts and checks the travel. -/
theorem State.countChange_of_idle (h : s.captureUnit n = .idle) :
    s.countChange n d = (s.modChannel n fun ch => ch.counted d).checkTravel n := by
  have hcount : s.modChannel n (fun ch => { ch with angle := stepAngle (s.channel n).angle d, activity := ch.activity.travelled d }) =
      s.modChannel n fun ch => ch.counted d := rfl
  unfold State.countChange
  extract_lets angle counted
  rw [State.samplePoint_of_idle (s := counted) h, ite_self]
  exact congrArg (fun v : State => v.checkTravel n) hcount

theorem State.checkTravel_of_below (h : ∀ p, s.planOf n = some p → travelLimitReached p (s.channel n).activity = false) : s.checkTravel n = s := by
  unfold State.checkTravel
  extract_lets ch
  refine if_neg ?_
  rcases hp : s.planOf n with - | p
  · simp
  · rw [Option.any_some, h p hp]
    simp

/-- A travel limit reached in motion gives REF_FAIL and requests a controlled stop. -/
theorem State.checkTravel_of_reached (hstop : (s.channel n).stopping = false) (hp : s.planOf n = some p)
    (h : travelLimitReached p (s.channel n).activity = true) : s.checkTravel n = (s.failRunIn n .refFail).stageStop n := by
  unfold State.checkTravel
  extract_lets ch
  refine if_pos ?_
  rw [hp, Option.any_some, h, hstop]
  rfl

/-- A run-in failure with the enable on and no profile: a controlled stop requested, the channel otherwise as it was (R25, R63). -/
theorem State.failRunIn_stageStop (hs : s.stageIs n p i .reference) (henable : (s.channel n).enable = true) (href : (s.channel n).activity.isRef r) :
    s.runInFailed ((s.failRunIn n cause).stageStop n) n cause ∧ s.laterSkipped ((s.failRunIn n cause).stageStop n) n p i ∧
      ((s.failRunIn n cause).stageStop n).channel n = { s.channel n with stopping := true } ∧
      s.sameElsewhere ((s.failRunIn n cause).stageStop n) n := by
  obtain ⟨htesting, hp, hindex, hst⟩ := hs
  obtain ⟨skipped, captures, activity, slots, unit, h, -, -, hskipped⟩ := State.failRunIn_eq s n cause
  have hactivity := State.activity_failRunIn (s := s) (n := n) (cause := cause) href.not_profiling
  have hmark : (s.channel n).activity.markFailed = (s.channel n).activity := by
    rcases href with ha | ha | ha <;> rw [ha] <;> rfl
  have hchannel : (s.failRunIn n cause).channel n = s.channel n := by
    rw [h, State.channel, PerNest.get_set_same] at hactivity ⊢
    have : activity = (s.channel n).activity := hactivity.trans hmark
    rw [this]
  have hon : ((s.failRunIn n cause).channel n).enable = true := by rw [hchannel]; exact henable
  have hstop : (s.failRunIn n cause).stageStop n = (s.failRunIn n cause).modChannel n Channel.controlledStop := if_pos hon
  have hd : ((s.failRunIn n cause).stageStop n).dossier n =
      { s.dossier n with runIn := (s.dossier n).runInGiven (failed cause), skipped := skipped, captures := captures } := by
    rw [hstop, State.dossier_modChannel, h, State.dossier, PerNest.get_set_same]
  have hposition : (s.dossier n).position = i := by rw [Dossier.position, hindex]; rfl
  refine ⟨State.runInFailed_of_given ((congrArg Dossier.runIn hd).trans rfl), fun j => ?_, ?_, ?_⟩
  · rw [hd, ← hposition]
    exact hskipped p hp j
  · rw [hstop, State.channel_modChannel_same, hchannel]
    exact congrArg (fun stopping => { s.channel n with stopping := stopping }) henable
  · rw [hstop]
    exact (State.failRunIn_sameElsewhere s n cause).trans (State.modChannel_sameElsewhere _ n _)

/-- A legal change that reaches a travel limit (R74, R76, R77). -/
theorem State.countChange_reaches {a : Activity} (hs : s.stageIs n p i .reference) (hquiet : s.quiet n) (henable : (s.channel n).enable = true)
    (ha : (s.channel n).activity.travelled d = a) (href : a.isRef r) (hreached : travelLimitReached p a = true) :
    s.runInFailed (s.countChange n d) n .refFail ∧ s.laterSkipped (s.countChange n d) n p i ∧
      (s.countChange n d).channel n = { s.channel n with angle := stepAngle (s.channel n).angle d, stopping := true, activity := a } ∧
      s.sameElsewhere (s.countChange n d) n := by
  obtain ⟨hzero, hunit, hstop⟩ := hquiet
  have hchannel : (s.modChannel n fun ch => ch.counted d).channel n =
      { s.channel n with angle := stepAngle (s.channel n).angle d, activity := a } := by
    rw [State.channel_modChannel_same, Channel.counted, ha]
  rw [State.countChange_of_idle hunit, State.checkTravel_of_reached (s := s.modChannel n fun ch => ch.counted d) (p := p) (by rw [hchannel]; exact hstop) hs.2.1 (by rw [hchannel]; exact hreached)]
  have hstage : (s.modChannel n fun ch => ch.counted d).stageIs n p i .reference := hs
  obtain ⟨hfail, hskipped, hch, helse⟩ := State.failRunIn_stageStop (cause := .refFail) hstage (by rw [hchannel]; exact henable)
    (by rw [hchannel]; exact href)
  rw [hchannel] at hch
  exact ⟨hfail, hskipped, hch, (State.modChannel_sameElsewhere s n _).trans helse⟩

/-- Settles O45: the limit of each part of the search. -/
theorem referenceLimitsFailTheStage : Obligations.ReferenceLimitsFailTheStage := by
  intro n p i r s hs hquiet henable
  refine ⟨fun hact hrev htravel => ?_, fun hact hrev htravel => ?_, fun hact htravel => ⟨fun hrev => ?_, fun hrev => ?_⟩⟩
  · refine ⟨_, rfl, State.countChange_reaches hs hquiet henable (d := .forward) ?_ (.inl rfl) (by simp [travelLimitReached])⟩
    rw [hact]
    simp [Activity.travelled, RefCounters.travelled, hrev, htravel]
  · refine ⟨_, rfl, State.countChange_reaches hs hquiet henable (d := .reverse) ?_ (.inr (.inl rfl)) (by simp [travelLimitReached, hrev])⟩
    rw [hact]
    simp [Activity.travelled, RefCounters.travelled, hrev, htravel]
  · refine ⟨_, rfl, State.countChange_reaches hs hquiet henable (d := .forward) ?_ (.inr (.inr rfl)) (by simp [travelLimitReached])⟩
    rw [hact]
    simp [Activity.travelled, RefCounters.travelled, hrev, htravel]
  · refine ⟨_, rfl, State.countChange_reaches hs hquiet henable (d := .reverse) ?_ (.inr (.inr rfl)) (by simp [travelLimitReached])⟩
    rw [hact]
    simp [Activity.travelled, RefCounters.travelled, hrev, htravel]

/-! ### A legal change below the limits (R67) -/

/-- A legal change that no REFERENCE stage counts. -/
theorem State.countChange_uncounted (hunit : s.captureUnit n = .idle) (h : ∀ r, ¬(s.channel n).activity.isRef r) :
    s.countChange n d = { s with channels := s.channels.set n { s.channel n with angle := stepAngle (s.channel n).angle d } } := by
  have hact : (s.channel n).activity.travelled d = (s.channel n).activity := by
    cases ha : (s.channel n).activity with
    | searching r => exact absurd (.inl ha) (h r)
    | reversing r => exact absurd (.inr (.inl ha)) (h r)
    | creeping r => exact absurd (.inr (.inr ha)) (h r)
    | _ => rfl
  have hlimit (p : Plan) : travelLimitReached p (s.channel n).activity = false := by
    cases ha : (s.channel n).activity with
    | searching r => exact absurd (.inl ha) (h r)
    | reversing r => exact absurd (.inr (.inl ha)) (h r)
    | creeping r => exact absurd (.inr (.inr ha)) (h r)
    | _ => rfl
  have hchannel : (s.modChannel n fun ch => ch.counted d).channel n = { s.channel n with angle := stepAngle (s.channel n).angle d } := by
    rw [State.channel_modChannel_same, Channel.counted, hact]
  rw [State.countChange_of_idle hunit, State.checkTravel_of_below fun p _ => by rw [hchannel]; exact hlimit p]
  show { s with channels := s.channels.set n ((s.channel n).counted d) } = _
  rw [Channel.counted, hact]

/-- A legal change of a forward search below its limit. -/
theorem State.countChange_searching {travel : Int} (hunit : s.captureUnit n = .idle) (hact : (s.channel n).activity = .searching r)
    (htravel : (r.travelled d) = { r with travel := travel }) (hlt : travel < 12288) :
    s.countChange n d = { s with
      channels := s.channels.set n
        { s.channel n with angle := stepAngle (s.channel n).angle d, activity := .searching { r with travel := travel } } } := by
  have hactivity : (s.channel n).activity.travelled d = .searching { r with travel := travel } := by
    rw [hact]
    exact congrArg Activity.searching htravel
  have hchannel : (s.modChannel n fun ch => ch.counted d).channel n =
      { s.channel n with angle := stepAngle (s.channel n).angle d, activity := .searching { r with travel := travel } } := by
    rw [State.channel_modChannel_same, Channel.counted, hactivity]
  rw [State.countChange_of_idle hunit, State.checkTravel_of_below fun p _ => by
    rw [hchannel]
    exact decide_eq_false (Int.not_le.mpr hlt)]
  show { s with channels := s.channels.set n ((s.channel n).counted d) } = _
  rw [Channel.counted, hactivity]

/-! ### Mark edges and index pulses (R68, R74 to R77) -/

theorem angleDistance_le_iff {a b : BitVec 12} : ¬2 < angleDistance a b ↔ (a - b).toNat ≤ 2 ∨ (b - a).toNat ≤ 2 := by
  unfold angleDistance
  omega

theorem State.controlledStop_of_enabled (henable : (s.channel n).enable = true) :
    s.modChannel n Channel.controlledStop = { s with channels := s.channels.set n { s.channel n with stopping := true } } :=
  congrArg (fun stopping => { s with channels := s.channels.set n { s.channel n with stopping := stopping } }) henable

theorem State.recordReference_of_enabled (henable : (s.channel n).enable = true) :
    s.recordReference n = { s with
      channels := s.channels.set n { s.channel n with reference := some (s.channel n).angle, stopping := true } } := by
  have hon : ((s.modChannel n fun ch => { ch with reference := some ch.angle }).channel n).enable = true := by
    rw [State.channel_modChannel_same]
    exact henable
  rw [State.recordReference, State.stageStop, if_pos hon, State.controlledStop_of_enabled hon, State.channel_modChannel_same]
  simp only [State.modChannel, PerNest.mod, PerNest.set_set]

/-- A pulse of the creep in motion (R75 to R77). -/
theorem State.creepPulse_of_enabled (henable : (s.channel n).enable = true) :
    (p.indexCount = 0 → s.creepPulse n p r = { s with
      channels := s.channels.set n { s.channel n with reference := some (s.channel n).angle, stopping := true } }) ∧
    (r.pulses + 1 < p.indexCount → s.creepPulse n p r = { s with
      channels := s.channels.set n { s.channel n with activity := .creeping { r with pulses := r.pulses + 1 } } }) ∧
    (r.pulses + 1 = p.indexCount → s.creepPulse n p r = { s with
      channels := s.channels.set n
        { s.channel n with
          activity := .creeping { r with pulses := r.pulses + 1 }, angle := 0, reference := some 0, stopping := true } }) := by
  refine ⟨fun hk => (if_pos hk).trans (State.recordReference_of_enabled henable), fun hk => ?_, fun hk => ?_⟩
  · have hne : p.indexCount ≠ 0 := by omega
    have hlt : ¬p.indexCount ≤ r.pulses + 1 := by omega
    rw [State.creepPulse, if_neg hne]
    exact if_neg hlt
  · have hne : p.indexCount ≠ 0 := by omega
    have hle : p.indexCount ≤ r.pulses + 1 := by omega
    have hchannel : ((s.setActivity n (.creeping { r with pulses := r.pulses + 1 })).modChannel n fun ch => { ch with angle := 0 }).channel n =
        { s.channel n with activity := .creeping { r with pulses := r.pulses + 1 }, angle := 0 } := by
      rw [State.channel_modChannel_same, State.channel_setActivity]
    have hrecord : s.creepPulse n p r =
        ((s.setActivity n (.creeping { r with pulses := r.pulses + 1 })).modChannel n fun ch => { ch with angle := 0 }).recordReference n := by
      rw [State.creepPulse, if_neg hne]
      exact if_pos hle
    rw [hrecord, State.recordReference_of_enabled (by rw [hchannel]; exact henable), hchannel]
    simp only [State.setActivity, State.modChannel, PerNest.mod, PerNest.set_set]

/-- Without a reference a pulse counts only in the creep. -/
theorem State.indexPulse_outside_creep (href : (s.channel n).reference = none) (hact : ∀ r, (s.channel n).activity ≠ .creeping r) :
    s.indexPulse n = s := by
  unfold State.indexPulse
  rw [href]
  show (if (s.channel n).stopping = true then s else _) = s
  split
  · rfl
  · split
    · next r _ hr => exact absurd hr (hact r)
    · rfl

theorem State.indexPulse_of_creep (href : (s.channel n).reference = none) (hstop : (s.channel n).stopping = false)
    (hp : s.planOf n = some p) (hact : (s.channel n).activity = .creeping r) : s.indexPulse n = s.creepPulse n p r := by
  simp [State.indexPulse, href, hstop, hp, hact]

theorem State.indexPulse_of_present {a : BitVec 12} (href : (s.channel n).reference = some a) :
    s.indexPulse n = if 2 < angleDistance (s.channel n).angle a then s.encoderFault n else s := by simp only [State.indexPulse, href]

/-- A mark edge with no controlled stop in progress (R74 to R76). -/
theorem State.markEdge_of_running (hp : s.planOf n = some p) (hstop : (s.channel n).stopping = false) :
    ((s.channel n).activity = .searching r → p.refMode = .a → s.markEdge n = s.beginCreep n p r) ∧
    ((s.channel n).activity = .searching r → p.refMode = .b → s.markEdge n = s.setActivity n (.reversing r)) ∧
    ((s.channel n).activity = .reversing r → s.markEdge n = if (s.channel n).setPoint < 0 then s.beginCreep n p r else s) ∧
    ((∀ r, (s.channel n).activity ≠ .searching r ∧ (s.channel n).activity ≠ .reversing r) → s.markEdge n = s) := by
  refine ⟨fun hact hmode => ?_, fun hact hmode => ?_, fun hact => ?_, fun hact => ?_⟩
  · simp [State.markEdge, hstop, hp, hact, hmode]
  · simp [State.markEdge, hstop, hp, hact, hmode]
  · simp [State.markEdge, hstop, hp, hact]
  · unfold State.markEdge
    rw [if_neg (by rw [hstop]; decide)]
    split
    · next r _ hr => exact absurd hr (hact r).1
    · next r _ hr => exact absurd hr (hact r).2
    · rfl

/-- Settles O47: the mark edge in each activity, the pulse against a reference, and the pulses of the creep. -/
theorem markEdgesAndIndexPulsesAct : Obligations.MarkEdgesAndIndexPulsesAct := by
  refine ⟨fun n p s hp hstop => ?mark, fun n s => ⟨fun a href => ?present, fun href hact => ?absent, fun p r hp href hstop henable hact => ?creep⟩⟩
  case mark =>
    refine ⟨fun r hact => ?searching, fun r hact => ?reversing, fun hact => congrArg Host.Outcome.next ?other⟩
    case other => exact (State.markEdge_of_running (r := RefCounters.fresh) hp hstop).2.2.2 hact
    all_goals obtain ⟨hcreep, hreverse, hturned, -⟩ := State.markEdge_of_running (r := r) hp hstop
    case searching => exact ⟨fun hmode => congrArg Host.Outcome.next (hcreep hact hmode), fun hmode => congrArg Host.Outcome.next (hreverse hact hmode)⟩
    case reversing =>
      exact ⟨fun hx => congrArg Host.Outcome.next ((hturned hact).trans (if_pos hx)),
        fun hx => congrArg Host.Outcome.next ((hturned hact).trans (if_neg (Int.not_lt.mpr hx)))⟩
  case present =>
    have hpulse := State.indexPulse_of_present href
    exact ⟨fun hnear => congrArg Host.Outcome.next (hpulse.trans (if_neg (angleDistance_le_iff.mpr hnear))),
      fun hfar => congrArg Host.Outcome.next (hpulse.trans (if_pos (by unfold angleDistance; omega)))⟩
  case absent => exact congrArg Host.Outcome.next (State.indexPulse_outside_creep href hact)
  case creep =>
    have hpulse := State.indexPulse_of_creep href hstop hp hact
    obtain ⟨hnone, hearly, hlast⟩ := State.creepPulse_of_enabled (s := s) (n := n) (p := p) (r := r) henable
    exact ⟨fun hk => congrArg Host.Outcome.next (hpulse.trans (hnone hk)), fun hk => congrArg Host.Outcome.next (hpulse.trans (hearly hk)),
      fun hk => congrArg Host.Outcome.next (hpulse.trans (hlast hk))⟩

end

end Sys2Proof.Machine
end

section
/-! PROOFS. What the end of a stage and the beginning of the next leave alone; the drive fault, the encoder fault, the permit's expiry. -/

namespace Sys2Proof.Machine

section
variable {s t u : State} {n : Nest} {p : Plan} {i : Nat} {cause : Cause}

/-! ### The frame of the stage engine (R22 to R25, R59) -/

/-- What the stage engine of a nest keeps, whatever stages end and begin: the other nest's dossier and channel, the drive of its own, a
reference that is ABSENT, the faults and the drive-fault levels, pending attention causes, a FAIL in the run-in record. -/
structure StageWalk (s t : State) (n : Nest) : Prop where
  dossier : t.dossier n.other = s.dossier n.other
  channel : t.channel n.other = s.channel n.other
  enable : (t.channel n).enable = (s.channel n).enable
  setPoint : (t.channel n).setPoint = (s.channel n).setPoint
  stopping : (t.channel n).stopping = (s.channel n).stopping
  angle : (t.channel n).angle = (s.channel n).angle
  reference : (s.channel n).reference = none → (t.channel n).reference = none
  faults : t.interlock.faults = s.interlock.faults
  driveFault : t.interlock.driveFault = s.interlock.driveFault
  pending : ∀ k, s.bench.isPending k = true → t.bench.isPending k = true
  failure : ∀ r g, (s.dossier n).runIn = some r → r.given = some g → g.result = .fail →
    ∃ r', (t.dossier n).runIn = some r' ∧ r'.given = some g

theorem StageWalk.refl (s : State) (n : Nest) : StageWalk s s n :=
  ⟨rfl, rfl, rfl, rfl, rfl, rfl, id, rfl, rfl, fun _ => id, fun r _ hr hg _ => ⟨r, hr, hg⟩⟩

theorem StageWalk.trans (h : StageWalk s t n) (k : StageWalk t u n) : StageWalk s u n :=
  ⟨k.dossier.trans h.dossier, k.channel.trans h.channel, k.enable.trans h.enable, k.setPoint.trans h.setPoint, k.stopping.trans h.stopping,
    k.angle.trans h.angle, fun hr => k.reference (h.reference hr), k.faults.trans h.faults, k.driveFault.trans h.driveFault,
    fun c hc => k.pending c (h.pending c hc), fun r g hr hg hfail => by
      obtain ⟨r', hr', hg'⟩ := h.failure r g hr hg hfail
      exact k.failure r' g hr' hg' hfail⟩

/-- Whether a change of a run-in record keeps a FAIL. -/
def keepsFail (f : RunInRecord → RunInRecord) : Prop := ∀ r g, r.given = some g → g.result = .fail → (f r).given = some g

/-- A change of the nest's dossier that keeps a FAIL in the run-in record. -/
theorem State.modDossier_walk {f : Dossier → Dossier} (g : RunInRecord → RunInRecord) (hg : keepsFail g)
    (hf : (f (s.dossier n)).runIn = (s.dossier n).runIn.map g) : StageWalk s (s.modDossier n f) n where
  dossier := PerNest.get_set_other ..
  channel := rfl
  enable := rfl
  setPoint := rfl
  stopping := rfl
  angle := rfl
  reference := id
  faults := rfl
  driveFault := rfl
  pending _ := id
  failure r x hr hx hfail := by
    rw [State.dossier_modDossier_same, hf, hr]
    exact ⟨g r, rfl, hg r x hx hfail⟩

/-- A change of the nest's dossier that leaves the run-in record as it is. -/
theorem State.modDossier_walk_of_runIn {f : Dossier → Dossier} (hf : (f (s.dossier n)).runIn = (s.dossier n).runIn) :
    StageWalk s (s.modDossier n f) n :=
  State.modDossier_walk id (fun _ _ h _ => h) (hf.trans (congrFun Option.map_id _).symm)

theorem keepsFail_giveResult (x : Given) : keepsFail fun r => { r with given := giveResult r.given x } := by
  intro r g hg hfail
  show giveResult r.given x = some g
  rw [hg, giveResult_of_fail hfail]

theorem State.giveRunIn_walk (x : Given) : StageWalk s (s.giveRunIn n x) n := State.modDossier_walk _ (keepsFail_giveResult x) rfl

/-- A change of the nest's activity, engagement and reference that gives no reference. -/
theorem State.modChannel_walk {f : Channel → Channel} (h : ∀ ch, (f ch).enable = ch.enable ∧ (f ch).setPoint = ch.setPoint ∧
    (f ch).stopping = ch.stopping ∧ (f ch).angle = ch.angle ∧ (ch.reference = none → (f ch).reference = none)) :
    StageWalk s (s.modChannel n f) n := by
  obtain ⟨henable, hset, hstop, hangle, href⟩ := h (s.channel n)
  refine ⟨rfl, PerNest.get_set_other .., ?_, ?_, ?_, ?_, ?_, rfl, rfl, fun _ => id, fun r _ hr hg _ => ⟨r, hr, hg⟩⟩
  all_goals rw [State.channel_modChannel_same]
  · exact henable
  · exact hset
  · exact hstop
  · exact hangle
  · exact href

theorem State.setActivity_walk (a : Activity) : StageWalk s (s.setActivity n a) n :=
  State.modChannel_walk fun _ => ⟨rfl, rfl, rfl, rfl, id⟩

theorem State.failRunIn_walk (cause : Cause) : StageWalk s (s.failRunIn n cause) n := by
  obtain ⟨skipped, captures, activity, slots, unit, h, -⟩ := State.failRunIn_eq s n cause
  rw [h]
  refine ⟨PerNest.get_set_other .., PerNest.get_set_other .., ?_, ?_, ?_, ?_, ?_, rfl, rfl, fun _ => id, fun r g hr hg hfail => ?_⟩
  · rw [State.channel, PerNest.get_set_same]
  · rw [State.channel, PerNest.get_set_same]
  · rw [State.channel, PerNest.get_set_same]
  · rw [State.channel, PerNest.get_set_same]
  · exact fun href => (congrArg Channel.reference (PerNest.get_set_same ..)).trans href
  rw [State.dossier, PerNest.get_set_same]
  refine ⟨{ r with given := giveResult r.given (failed cause) }, ?_, keepsFail_giveResult _ r g hg hfail⟩
  show (s.dossier n).runInGiven (failed cause) = _
  rw [Dossier.runInGiven, hr, Option.map_some]

/-- A change of neither dossiers, channels, fault lists, drive-fault levels nor attention causes. -/
theorem StageWalk.of_parts (hd : t.dossiers = s.dossiers) (hc : t.channels = s.channels) (hf : t.interlock.faults = s.interlock.faults)
    (hdf : t.interlock.driveFault = s.interlock.driveFault) (hb : ∀ k, s.bench.isPending k = true → t.bench.isPending k = true) :
    StageWalk s t n := by
  have hd' (m : Nest) : t.dossier m = s.dossier m := congrArg (PerNest.get · m) hd
  have hc' (m : Nest) : t.channel m = s.channel m := congrArg (PerNest.get · m) hc
  refine ⟨hd' _, hc' _, by rw [hc'], by rw [hc'], by rw [hc'], by rw [hc'], by rw [hc']; exact id, hf, hdf, hb, fun r g hr hg _ => ⟨r, ?_, hg⟩⟩
  rw [hd', hr]

theorem State.arbitrate_walk : StageWalk s s.arbitrate n := by
  obtain ⟨a, cs, h⟩ := State.arbitrate_frame s
  rw [h]
  exact StageWalk.of_parts rfl rfl rfl rfl fun _ => id

theorem State.requestAir_walk {m : Nest} {c : Chamber} (set : LeakSetIx) : StageWalk s (s.requestAir m c set) n := by
  unfold State.requestAir State.endZeroOnLeavingIdle
  split
  · exact StageWalk.of_parts rfl rfl rfl rfl fun _ => id
  · exact StageWalk.of_parts rfl rfl rfl rfl fun _ => id

theorem State.beginLeak_walk (mask : ChamberSet) (set : LeakSetIx) : StageWalk s (s.beginLeak n mask set) n := by
  have hclear (v : State) (c : Chamber) (b : Bool) : StageWalk v (if b then v.modCircuit n c fun k => { k with resultGiven := false } else v) n := by
    cases b
    · exact StageWalk.refl v n
    · exact StageWalk.of_parts rfl rfl rfl rfl fun _ => id
  unfold State.beginLeak
  extract_lets m clear cleared next prepared
  have hprepared : StageWalk s prepared n :=
    (hclear s .c0 _).trans <| (hclear _ .c1 _).trans <| StageWalk.of_parts rfl rfl rfl rfl fun _ => id
  refine hprepared.trans (StageWalk.trans ?_ State.arbitrate_walk)
  split <;> exact State.requestAir_walk set

/-- An entry to JUDGED. -/
theorem State.enterJudged_walk : StageWalk s (s.enterJudged n) n := by
  have hpending (k : AttentionCause) (hk : s.bench.isPending k = true) : (s.enterJudged n).bench.isPending k = true := by
    unfold State.enterJudged
    extract_lets judged raised
    have hraised : raised.bench.isPending k = true := isPending_raise_of _ k _ hk
    split
    · split
      · exact State.isPending_fileDossier hraised
      · exact hraised
    · exact hraised
  obtain ⟨st, number, pending, plans, reports, causes, -, h⟩ := State.enterJudged_eq s n
  rw [h] at hpending ⊢
  refine ⟨PerNest.get_set_other .., PerNest.get_set_other .., ?_, ?_, ?_, ?_, fun _ => ?_, rfl, rfl, hpending, fun r g hr hg _ => ⟨r, ?_, hg⟩⟩
  · rw [State.channel, PerNest.get_set_same]; rfl
  · rw [State.channel, PerNest.get_set_same]; rfl
  · rw [State.channel, PerNest.get_set_same]; rfl
  · rw [State.channel, PerNest.get_set_same]; rfl
  · rw [State.channel, PerNest.get_set_same]; rfl
  · rw [State.dossier, PerNest.get_set_same]
    exact hr

theorem State.checkTested_walk : StageWalk s (s.checkTested n) n := by
  unfold State.checkTested
  split
  · exact State.enterJudged_walk
  · exact StageWalk.refl s n

/-- A stage closed gives no result to a record that holds one. -/
theorem State.closeStage_walk (st : Stage) (later : List (Stage × Nat)) : StageWalk s (s.modDossier n fun d => d.closeStage st later) n := by
  have hskipped (d : Dossier) : (if st = .profile then d.skipUnrequested else d).runIn = d.runIn := by split <;> rfl
  by_cases hlast : (st.isDrive && !(later.any fun x => x.1.isDrive &&
      !(if st = .profile then (s.dossier n).skipUnrequested else s.dossier n).skipped.contains x.2)) = true
  · refine State.modDossier_walk (fun r => { r with given := some (r.given.getD passed) }) (fun r g hg _ => ?_) ?_
    · show some (r.given.getD passed) = some g
      rw [hg, Option.getD_some]
    · unfold Dossier.closeStage
      extract_lets skipped
      rw [if_pos hlast]
      exact congrArg (Option.map _) (hskipped _)
  · refine State.modDossier_walk_of_runIn ?_
    unfold Dossier.closeStage
    extract_lets skipped
    rw [if_neg hlast]
    exact hskipped _

theorem State.beginStage_walk (st : Stage) : StageWalk s (s.beginStage n p st).1 n := by
  cases st with
  | leak mask set =>
    rw [State.beginStage]
    split
    · exact StageWalk.refl s n
    · exact State.beginLeak_walk mask set
  | engage =>
    have hbegun : StageWalk s ((s.modChannel n fun ch => { ch with engaged := false }).modDossier n fun d =>
        { d with runIn := d.runIn.map fun r => { r with attemptUsed := 0 } }) n :=
      (State.modChannel_walk (f := fun ch => { ch with engaged := false }) fun _ => ⟨rfl, rfl, rfl, rfl, id⟩).trans
        (State.modDossier_walk (fun r => { r with attemptUsed := 0 }) (fun _ _ h _ => h) rfl)
    rw [State.beginStage]
    split
    · exact hbegun.trans (State.setActivity_walk _)
    · exact hbegun.trans (State.failRunIn_walk _)
  | reference => exact State.modChannel_walk fun _ => ⟨rfl, rfl, rfl, rfl, fun _ => rfl⟩
  | profile =>
    rw [State.beginStage]
    split
    · exact State.giveRunIn_walk _
    · split
      · exact State.setActivity_walk _
      · exact StageWalk.refl s n

theorem State.walkStages_walk (later : List (Stage × Nat)) : StageWalk s (s.walkStages n p later) n := by
  induction later generalizing s with
  | nil => exact (State.modDossier_walk_of_runIn rfl).trans State.checkTested_walk
  | cons x later ih =>
    rw [State.walkStages]
    split
    · exact ih
    · extract_lets r
      have hbegun : StageWalk s r.1 n := (State.modDossier_walk_of_runIn rfl).trans (State.beginStage_walk x.1)
      split
      · exact hbegun.trans ((State.closeStage_walk x.1 later).trans ih)
      · exact hbegun

theorem State.stageEnded_walk : StageWalk s (s.stageEnded n) n := by
  unfold State.stageEnded
  split
  · split
    · split
      · exact (State.closeStage_walk _ _).trans (State.walkStages_walk _)
      · exact StageWalk.refl s n
    · exact StageWalk.refl s n
  · exact StageWalk.refl s n

theorem State.endDriveStage_walk : StageWalk s (s.endDriveStage n) n := (State.setActivity_walk .idle).trans State.stageEnded_walk

theorem State.failAtRest_walk (cause : Cause) : StageWalk s (s.failAtRest n cause) n :=
  (State.failRunIn_walk cause).trans State.endDriveStage_walk

theorem State.checkStopping_walk : StageWalk s (s.checkStopping n) n := by
  unfold State.checkStopping
  split
  · refine (State.modDossier_walk (fun r => { r with given := some (r.given.getD (notMeasured .aborted)) }) (fun r g hg _ => ?_) rfl).trans
      State.enterJudged_walk
    show some (r.given.getD _) = some g
    rw [hg, Option.getD_some]
  · exact StageWalk.refl s n

/-! ### A failure that stands (R97) -/

/-- A run-in failure stands while a FAIL is kept. -/
theorem State.runInFailed.kept (h : s.runInFailed t n cause) (hkeep : ∀ r g, (t.dossier n).runIn = some r → r.given = some g →
    g.result = .fail → ∃ r', (u.dossier n).runIn = some r' ∧ r'.given = some g) : s.runInFailed u n cause := by
  intro r hr
  obtain ⟨r', ht, hopen, hkept⟩ := h r hr
  by_cases hfail : ∃ g, r.given = some g ∧ g.result = .fail
  · obtain ⟨g, hg, hfail⟩ := hfail
    obtain ⟨r'', hu, hg'⟩ := hkeep r' g ht (hkept g hg hfail) hfail
    refine ⟨r'', hu, fun hno => ?_, fun x hx _ => ?_⟩
    · rcases hno with hnone | ⟨x, hx, hnot⟩
      · exact nomatch hnone.symm.trans hg
      · exact absurd (Option.some.inj (hx.symm.trans hg) ▸ hfail) hnot
    · rw [← hx, hg]
      exact hg'
  · have hgo : r.given = none ∨ ∃ g, r.given = some g ∧ g.result ≠ .fail := by
      rcases hg : r.given with - | g
      · exact .inl rfl
      · exact .inr ⟨g, rfl, fun hf => hfail ⟨g, hg, hf⟩⟩
    obtain ⟨r'', hu, hg'⟩ := hkeep r' _ ht (hopen hgo) rfl
    exact ⟨r'', hu, fun _ => hg', fun g hg hf => absurd ⟨g, hg, hf⟩ hfail⟩

theorem State.runIn_failRunIn (s : State) (n : Nest) (cause : Cause) :
    ((s.failRunIn n cause).dossier n).runIn = (s.dossier n).runInGiven (failed cause) := by
  obtain ⟨skipped, captures, activity, slots, unit, h, -⟩ := State.failRunIn_eq s n cause
  rw [h, State.dossier, PerNest.get_set_same]

/-! ### A fault report (R175) -/

section
variable {f : FaultCause}

/-- A report as it acts on the fault lists and the attention causes. -/
structure FaultReported (s t : State) (n : Nest) (f : FaultCause) : Prop where
  dossiers : t.dossiers = s.dossiers
  channels : t.channels = s.channels
  circuits : t.circuits = s.circuits
  driveFault : t.interlock.driveFault = s.interlock.driveFault
  other : t.faultList n.other = s.faultList n.other
  held : f ∈ (s.faultList n).causes → t.faultList n = s.faultList n
  room : f ∉ (s.faultList n).causes → (s.faultList n).causes.length < 4 →
    t.faultList n = ⟨(s.faultList n).causes ++ [f], (s.faultList n).more⟩ ∧ t.bench.isPending (.nestFault n) = true
  full : f ∉ (s.faultList n).causes → 4 ≤ (s.faultList n).causes.length →
    t.faultList n = ⟨(s.faultList n).causes, true⟩ ∧ ((s.faultList n).more = false → t.bench.isPending (.nestFault n) = true)

theorem State.reportFault_reported (s : State) (n : Nest) (f : FaultCause) : FaultReported s (s.reportFault n f) n f := by
  have hraise (l : FaultList) : ((s.setFaultList n l).raise (.nestFault n)).faultList n.other = s.faultList n.other := PerNest.get_set_other ..
  rcases reportFault_cases s n f with ⟨h, hwhy⟩ | ⟨hnew, hroom, h⟩ | ⟨hnew, hfull, hmore, h⟩
  · rw [h]
    refine ⟨rfl, rfl, rfl, rfl, rfl, fun _ => rfl, fun hnew hroom => ?_, fun hnew hfull => ?_⟩
    · exact (hwhy.elim hnew fun hf => absurd hroom (Nat.not_lt.mpr hf.1)).elim
    · have hmore := (hwhy.resolve_left hnew).2
      refine ⟨?_, fun hno => absurd (hno.symm.trans hmore) (by decide)⟩
      rw [← hmore]
  · rw [h]
    exact ⟨rfl, rfl, rfl, rfl, hraise _, fun hmem => absurd hmem hnew,
      fun _ _ => ⟨State.faultList_setFaultList_same .., isPending_raise ..⟩, fun _ hfull => absurd hroom (Nat.not_lt.mpr hfull)⟩
  · rw [h]
    exact ⟨rfl, rfl, rfl, rfl, hraise _, fun hmem => absurd hmem hnew, fun _ hroom => absurd hroom (Nat.not_lt.mpr hfull),
      fun _ _ => ⟨State.faultList_setFaultList_same .., fun _ => isPending_raise ..⟩⟩

/-- A report between two walks of the stage engine: the lists as the report leaves them. -/
theorem FaultReported.of_walks {v w : State} (h : StageWalk s t n) (hreport : FaultReported t v n f) (k : StageWalk v w n) :
    w.faultList n.other = s.faultList n.other ∧ (f ∈ (s.faultList n).causes → w.faultList n = s.faultList n) ∧
      (f ∉ (s.faultList n).causes → (s.faultList n).causes.length < 4 →
        w.faultList n = ⟨(s.faultList n).causes ++ [f], (s.faultList n).more⟩ ∧ w.bench.isPending (.nestFault n) = true) ∧
      (f ∉ (s.faultList n).causes → 4 ≤ (s.faultList n).causes.length →
        w.faultList n = ⟨(s.faultList n).causes, true⟩ ∧ ((s.faultList n).more = false → w.bench.isPending (.nestFault n) = true)) := by
  have hbefore (m : Nest) : t.faultList m = s.faultList m := congrArg (PerNest.get · m) h.faults
  have hafter (m : Nest) : w.faultList m = v.faultList m := congrArg (PerNest.get · m) k.faults
  obtain ⟨-, -, -, -, hother, hheld, hroom, hfull⟩ := hreport
  rw [hbefore] at hother hheld hroom hfull
  rw [hafter, hafter]
  refine ⟨hother, fun hmem => hheld hmem, fun hnew hlt => ?_, fun hnew hle => ?_⟩
  · obtain ⟨hlist, hpending⟩ := hroom hnew hlt
    exact ⟨hlist, k.pending _ hpending⟩
  · obtain ⟨hlist, hpending⟩ := hfull hnew hle
    exact ⟨hlist, fun hmore => k.pending _ (hpending hmore)⟩

/-- A report changes nothing that a failure's record or the drive of a nest holds. -/
theorem FaultReported.channel_eq (h : FaultReported s t n f) (m : Nest) : t.channel m = s.channel m := congrArg (PerNest.get · m) h.channels

theorem FaultReported.dossier_eq (h : FaultReported s t n f) (m : Nest) : t.dossier m = s.dossier m := congrArg (PerNest.get · m) h.dossiers

end

/-! ### The drive-fault input (R171) -/

/-- Settles O24: the level alone as the input clears; as it becomes active, the drive at rest, the report, and the failure of a stage in
progress with whatever stages follow it. -/
theorem driveFaultActsOnItsNest : Obligations.DriveFaultActsOnItsNest := by
  refine fun n s => ⟨rfl, ?_⟩
  have hexec : exec (.driveFaultActivate n) s = .next (s.driveFaultActivate n) := rfl
  rw [hexec]
  unfold State.driveFaultActivate
  extract_lets stopped ended
  have hchannel : stopped.channel n = { s.channel n with setPoint := 0, enable := false, stopping := false } := State.channel_immediateStop _ n
  have hother : stopped.channel n.other = s.channel n.other := PerNest.get_set_other ..
  have hwalk : StageWalk stopped ended n := by
    simp only [ended]
    split
    · exact State.failAtRest_walk _
    · exact StageWalk.refl _ n
  have hreport := State.reportFault_reported ended n .driveFault
  have hcheck : StageWalk (ended.reportFault n .driveFault) ((ended.reportFault n .driveFault).checkStopping n) n := State.checkStopping_walk
  obtain ⟨hlistOther, hheld, hroom, hfull⟩ := hreport.of_walks hwalk hcheck
  refine ⟨_, rfl, ?_, ?_, ?_, ?_, ?_, ?_, hlistOther, hheld, hroom, hfull, fun htesting hact => ?_⟩
  · exact hcheck.driveFault.trans (hreport.driveFault.trans hwalk.driveFault)
  · rw [hcheck.enable, hreport.channel_eq, hwalk.enable, hchannel]
  · rw [hcheck.setPoint, hreport.channel_eq, hwalk.setPoint, hchannel]
  · rw [hcheck.stopping, hreport.channel_eq, hwalk.stopping, hchannel]
  · rw [hcheck.dossier, hreport.dossier_eq, hwalk.dossier]
    rfl
  · rw [hcheck.channel, hreport.channel_eq, hwalk.channel, hother]
  · have hstage : stopped.driveStageInProgress n = true := by
      have hact' : (stopped.channel n).activity ≠ .idle := by rw [hchannel]; exact hact
      have htesting' : (stopped.dossier n).state = .testing := htesting
      simp [State.driveStageInProgress, htesting', hact']
    have hended : ended = (stopped.failRunIn n .driveFault).endDriveStage n := if_pos hstage
    have hgiven : ((stopped.failRunIn n .driveFault).dossier n).runIn = (s.dossier n).runInGiven (failed .driveFault) :=
      State.runIn_failRunIn stopped n .driveFault
    have hrest : StageWalk (stopped.failRunIn n .driveFault) ended n := hended ▸ State.endDriveStage_walk
    refine ((State.runInFailed_of_given (s := s) hgiven).kept hrest.failure).kept fun r g hr => hcheck.failure r g ?_
    rw [hreport.dossier_eq]
    exact hr

/-! ### An encoder fault (R68) -/

theorem State.referenceLost_of_idle (h : s.captureUnit n = .idle) : s.referenceLost n = s := by simp only [State.referenceLost, h]

/-- What an encoder fault leaves before the failure of a stage: the reference ABSENT and the fault reported (R68). -/
def State.faultNoted (s : State) (n : Nest) : State := (s.modChannel n fun ch => { ch with reference := none }).reportFault n .encoderFault

theorem State.encoderFault_of_idle (h : s.captureUnit n = .idle) : s.encoderFault n =
    if (s.faultNoted n).driveStageInProgress n then ((s.faultNoted n).failRunIn n .encoderFault).stageStop n else s.faultNoted n := by
  unfold State.encoderFault
  rw [State.referenceLost_of_idle (s := s.modChannel n fun ch => { ch with reference := none }) h]
  rfl

theorem State.dossier_faultNoted (s : State) (n m : Nest) : (s.faultNoted n).dossier m = s.dossier m :=
  (State.reportFault_reported _ n .encoderFault).dossier_eq m

theorem State.channel_faultNoted (s : State) (n : Nest) : (s.faultNoted n).channel n = { s.channel n with reference := none } :=
  ((State.reportFault_reported _ n .encoderFault).channel_eq n).trans (State.channel_modChannel_same ..)

/-- An encoder fault, whatever the stage engine does after it: the reference, the angle, the other nest and the fault list. -/
theorem State.faultNoted_walk (h : StageWalk (s.faultNoted n) t n) :
    (t.channel n).reference = none ∧ (t.channel n).angle = (s.channel n).angle ∧ t.dossier n.other = s.dossier n.other ∧
      t.channel n.other = s.channel n.other ∧
      (FaultCause.encoderFault ∈ (s.faultList n).causes → t.faultList n = s.faultList n) ∧
      (FaultCause.encoderFault ∉ (s.faultList n).causes → (s.faultList n).causes.length < 4 →
        t.faultList n = ⟨(s.faultList n).causes ++ [.encoderFault], (s.faultList n).more⟩ ∧ t.bench.isPending (.nestFault n) = true) := by
  have hchannel := State.channel_faultNoted s n
  have hreport := State.reportFault_reported (s.modChannel n fun ch => { ch with reference := none }) n .encoderFault
  obtain ⟨-, hheld, hroom, -⟩ := hreport.of_walks (StageWalk.refl _ n) h
  refine ⟨h.reference (by rw [hchannel]), h.angle.trans (by rw [hchannel]), h.dossier.trans (State.dossier_faultNoted s n n.other), ?_, hheld, hroom⟩
  exact h.channel.trans ((hreport.channel_eq n.other).trans (PerNest.get_set_other ..))

theorem State.driveStageInProgress_iff : s.driveStageInProgress n = true ↔ (s.dossier n).state = .testing ∧ (s.channel n).activity ≠ .idle := by
  rw [State.driveStageInProgress, Bool.and_eq_true, beq_iff_eq, bne_iff_ne]

/-- A failure with the enable on requests a controlled stop and moves no set-point (R63). -/
theorem State.failRunIn_stop_of_enabled (henable : (s.channel n).enable = true) :
    (((s.failRunIn n cause).stageStop n).channel n).stopping = true ∧ (((s.failRunIn n cause).stageStop n).channel n).enable = true ∧
      (((s.failRunIn n cause).stageStop n).channel n).setPoint = (s.channel n).setPoint ∧
      (s.failRunIn n cause).stageStop n = (s.failRunIn n cause).modChannel n Channel.controlledStop := by
  have hwalk : StageWalk s (s.failRunIn n cause) n := State.failRunIn_walk cause
  have hon : ((s.failRunIn n cause).channel n).enable = true := hwalk.enable.trans henable
  have hstop : (s.failRunIn n cause).stageStop n = (s.failRunIn n cause).modChannel n Channel.controlledStop := if_pos hon
  rw [hstop, State.channel_modChannel_same]
  exact ⟨hon, hon, hwalk.setPoint, rfl⟩

theorem State.circuits_failRunIn (s : State) (n : Nest) (cause : Cause) : (s.failRunIn n cause).circuits = s.circuits := by
  obtain ⟨skipped, captures, activity, slots, unit, h, -⟩ := State.failRunIn_eq s n cause
  rw [h]

/-- Settles O46: the legal changes below the limits, and the fault with the stage engine's walk behind it. -/
theorem encoderChangeCountsOrFaults : Obligations.EncoderChangeCountsOrFaults := by
  intro n s hunit
  refine ⟨fun hact => ?_, fun r hact hrev htravel => ?_, s.encoderFault n, rfl, ?_⟩
  · have hun (r : RefCounters) : ¬(s.channel n).activity.isRef r := fun h => h.elim (hact r).1 fun h => h.elim (hact r).2.1 (hact r).2.2
    exact ⟨congrArg Host.Outcome.next (State.countChange_uncounted hunit hun), congrArg Host.Outcome.next (State.countChange_uncounted hunit hun)⟩
  · refine ⟨congrArg Host.Outcome.next (State.countChange_searching hunit hact (d := .forward) ?_ (by omega)),
      congrArg Host.Outcome.next (State.countChange_searching hunit hact (d := .reverse) ?_ (by omega))⟩
    · simp [RefCounters.travelled, hrev]
    · simp [RefCounters.travelled, hrev]
  · have hchannel := State.channel_faultNoted s n
    have hdossier := State.dossier_faultNoted s n n
    have hcircuits : (s.faultNoted n).circuits = s.circuits := (State.reportFault_reported _ n .encoderFault).circuits
    have hstage : (s.faultNoted n).driveStageInProgress n = true ↔ (s.dossier n).state = .testing ∧ (s.channel n).activity ≠ .idle := by
      rw [State.driveStageInProgress_iff, hdossier, hchannel]
    rw [State.encoderFault_of_idle hunit]
    by_cases hin : (s.dossier n).state = .testing ∧ (s.channel n).activity ≠ .idle
    · rw [if_pos (hstage.mpr hin)]
      have hquiet : ¬((s.dossier n).state ≠ .testing ∨ (s.channel n).activity = .idle) := fun h => h.elim (fun h => h hin.1) hin.2
      have hfail : StageWalk (s.faultNoted n) ((s.faultNoted n).failRunIn n .encoderFault) n := State.failRunIn_walk _
      by_cases henable : (s.channel n).enable = true
      · obtain ⟨hstop, hon, hset, heq⟩ := State.failRunIn_stop_of_enabled (s := s.faultNoted n) (n := n) (cause := .encoderFault)
          (by rw [hchannel]; exact henable)
        rw [hchannel] at hset
        obtain ⟨href, hangle, hother, hchannel', hheld, hroom⟩ := State.faultNoted_walk hfail
        rw [heq] at hstop hon hset ⊢
        refine ⟨?_, ?_, hother, (PerNest.get_set_other ..).trans hchannel', hheld, hroom, fun h => absurd h hquiet, fun _ _ _ =>
          ⟨State.runInFailed_of_given ?_, hstop, hon, hset, (State.circuits_failRunIn ..).trans hcircuits⟩⟩
        · rw [State.channel_modChannel_same]
          exact href
        · rw [State.channel_modChannel_same]
          exact hangle
        · exact (State.runIn_failRunIn (s.faultNoted n) n .encoderFault).trans (by rw [hdossier])
      · have hoff : ¬(((s.faultNoted n).failRunIn n .encoderFault).channel n).enable = true := by
          rw [hfail.enable, hchannel]
          exact henable
        rw [State.stageStop, if_neg hoff]
        obtain ⟨href, hangle, hother, hchannel', hheld, hroom⟩ := State.faultNoted_walk (hfail.trans State.endDriveStage_walk)
        exact ⟨href, hangle, hother, hchannel', hheld, hroom, fun h => absurd h hquiet, fun _ _ h => absurd h henable⟩
    · rw [if_neg (mt hstage.mp hin)]
      obtain ⟨href, hangle, hother, hchannel', hheld, hroom⟩ := State.faultNoted_walk (StageWalk.refl (s.faultNoted n) n)
      exact ⟨href, hangle, hother, hchannel', hheld, hroom, fun _ => ⟨hchannel, hdossier, hcircuits⟩, fun ht ha => absurd ⟨ht, ha⟩ hin⟩

/-! ### The permit's expiry (R173) -/

/-- The lapse on one nest: its dossier, drive, capture and slots alone. -/
theorem State.lapseNest_local (s : State) (n : Nest) :
    (s.lapseNest n).interlock = s.interlock ∧ (s.lapseNest n).bench = s.bench ∧ (s.lapseNest n).circuits = s.circuits ∧
      (s.lapseNest n).arbiter = s.arbiter ∧ (s.lapseNest n).reports = s.reports ∧
      (s.lapseNest n).dossier n.other = s.dossier n.other ∧ (s.lapseNest n).channel n.other = s.channel n.other := by
  unfold State.lapseNest
  split
  · split
    · obtain ⟨skipped, captures, activity, slots, unit, h, -⟩ := State.failRunIn_eq s n .permitLapse
      rw [h]
      exact ⟨rfl, rfl, rfl, rfl, rfl, PerNest.get_set_other .., (PerNest.get_set_other ..).trans (PerNest.get_set_other ..)⟩
    · exact ⟨rfl, rfl, rfl, rfl, rfl, rfl, PerNest.get_set_other ..⟩
  · exact ⟨rfl, rfl, rfl, rfl, rfl, rfl, rfl⟩

/-- What the lapse does to a nest's drive and dossier. -/
structure Lapsed (s t : State) (n : Nest) : Prop where
  off : (s.channel n).enable = false → t.channel n = s.channel n ∧ t.dossier n = s.dossier n
  on : (s.channel n).enable = true →
    (t.channel n).enable = true ∧ (t.channel n).setPoint = (s.channel n).setPoint ∧ (t.channel n).stopping = true ∧
      (t.dossier n).state = (s.dossier n).state ∧
      (((s.dossier n).state ≠ .testing ∨ (s.channel n).activity = .idle) → t.dossier n = s.dossier n) ∧
      ((s.dossier n).state = .testing → (s.channel n).activity ≠ .idle → s.runInFailed t n .permitLapse)

theorem State.lapseNest_lapsed (s : State) (n : Nest) : Lapsed s (s.lapseNest n) n := by
  refine ⟨fun hoff => ?_, fun hon => ?_⟩
  · rw [State.lapseNest, if_neg (Bool.eq_false_iff.mp hoff)]
    exact ⟨rfl, rfl⟩
  · rw [State.lapseNest, if_pos hon]
    by_cases hin : s.driveStageInProgress n = true
    · obtain ⟨htesting, hact⟩ := State.driveStageInProgress_iff.mp hin
      rw [if_pos hin]
      have hwalk : StageWalk s (s.failRunIn n .permitLapse) n := State.failRunIn_walk _
      have hstate : ((s.failRunIn n .permitLapse).dossier n).state = (s.dossier n).state := by
        obtain ⟨skipped, captures, activity, slots, unit, h, -⟩ := State.failRunIn_eq s n .permitLapse
        rw [h, State.dossier, PerNest.get_set_same]
      have hchannel : ((s.failRunIn n .permitLapse).modChannel n Channel.controlledStop).channel n =
          ((s.failRunIn n .permitLapse).channel n).controlledStop := State.channel_modChannel_same ..
      rw [hchannel]
      exact ⟨hwalk.enable.trans hon, hwalk.setPoint, hwalk.enable.trans hon, hstate, fun h => (h.elim (fun h => h htesting) hact).elim,
        fun _ _ => State.runInFailed_of_given (State.runIn_failRunIn s n .permitLapse)⟩
    · rw [if_neg hin, State.channel_modChannel_same]
      exact ⟨hon, rfl, hon, rfl, fun _ => rfl, fun ht ha => absurd (State.driveStageInProgress_iff.mpr ⟨ht, ha⟩) hin⟩

/-- The lapse of one nest is the same before and after a change elsewhere. -/
theorem Lapsed.congr {v w : State} (h : Lapsed s t n) (hd : v.dossier n = s.dossier n) (hc : v.channel n = s.channel n)
    (hd' : w.dossier n = t.dossier n) (hc' : w.channel n = t.channel n) : Lapsed v w n := by
  obtain ⟨hoff, hon⟩ := h
  constructor
  · rw [hd, hc, hd', hc']
    exact hoff
  · rw [hd, hc, hd', hc']
    unfold State.runInFailed at hon ⊢
    rw [hd, hd']
    exact hon

/-- Settles O21: the timer, then each nest with its enable on or off. -/
theorem permitExpiryStopsEnabledDrives : Obligations.PermitExpiryStopsEnabledDrives := by
  intro s hlive
  have hexpiry : s.permitExpiry =
      ((s.modInterlock fun i => { i with permitLive := false, permitLeft := 0 }).lapseNest .n0).lapseNest .n1 := if_pos hlive
  obtain ⟨hi0, hb0, hc0, ha0, hr0, hd0, hch0⟩ := State.lapseNest_local (s.modInterlock fun i => { i with permitLive := false, permitLeft := 0 }) .n0
  obtain ⟨hi1, hb1, hc1, ha1, hr1, hd1, hch1⟩ :=
    State.lapseNest_local ((s.modInterlock fun i => { i with permitLive := false, permitLeft := 0 }).lapseNest .n0) .n1
  have hlapsed (n : Nest) : Lapsed s s.permitExpiry n := by
    rw [hexpiry]
    cases n with
    | n0 => exact (State.lapseNest_lapsed (s.modInterlock fun i => { i with permitLive := false, permitLeft := 0 }) .n0).congr rfl rfl hd1 hch1
    | n1 => exact (State.lapseNest_lapsed _ .n1).congr hd0.symm hch0.symm rfl rfl
  refine ⟨s.permitExpiry, rfl, ?_, ?_, ?_, ?_, ?_, fun n => ⟨(hlapsed n).off, (hlapsed n).on⟩⟩
  · rw [hexpiry, hi1, hi0]
    rfl
  · rw [hexpiry, hb1, hb0]
    rfl
  · rw [hexpiry, hc1, hc0]
    rfl
  · rw [hexpiry, ha1, ha0]
    rfl
  · rw [hexpiry, hr1, hr0]
    rfl

end

end Sys2Proof.Machine
end

section
/-! PROOFS. The capture unit: its slots, the end of a capture, the request of a dwell start. -/

namespace Sys2Proof.Machine

section
variable {s t : State} {n : Nest} {number : Nat} {why : CaptureEnd} {k : Capture} {b : BlockInProgress} {i : Fin 4} {cause : Cause}

/-! ### Slots (R119, R127) -/

theorem State.slot_modSlot (s : State) (i j : Fin 4) (f : Slot → Slot) : (s.modSlot i f).slot j = if j = i then f (s.slot i) else s.slot j := by
  split
  · next h => rw [h, State.slot_modSlot_same]
  · next h => exact State.slot_modSlot_ne s f h

theorem State.lowestFree_eq_some (hfree : (s.slot i).state = .free) (hlow : ∀ j, j < i → (s.slot j).state ≠ .free) : s.lowestFree = some i := by
  have hbelow (j : Fin 4) (hj : j < i) : ((s.slot j).state == .free) = false := beq_eq_false_iff_ne.mpr (hlow j hj)
  have hat : ((s.slot i).state == .free) = true := beq_iff_eq.mpr hfree
  unfold State.lowestFree allSlots
  fin_cases i
  · exact List.find?_cons_of_pos hat
  · rw [List.find?_cons_of_neg (by rw [hbelow 0 (by decide)]; decide)]
    exact List.find?_cons_of_pos hat
  · rw [List.find?_cons_of_neg (by rw [hbelow 0 (by decide)]; decide), List.find?_cons_of_neg (by rw [hbelow 1 (by decide)]; decide)]
    exact List.find?_cons_of_pos hat
  · rw [List.find?_cons_of_neg (by rw [hbelow 0 (by decide)]; decide), List.find?_cons_of_neg (by rw [hbelow 1 (by decide)]; decide),
      List.find?_cons_of_neg (by rw [hbelow 2 (by decide)]; decide)]
    exact List.find?_cons_of_pos hat

theorem State.lowestFree_eq_none (h : ∀ i, (s.slot i).state ≠ .free) : s.lowestFree = none :=
  List.find?_eq_none.mpr fun i _ hi => h i (beq_iff_eq.mp hi)

/-- A unit that waits takes the lowest FREE slot (R127). -/
theorem State.lookForSlot_takes (hunit : s.captureUnit n = .waitingSlot k) (hfree : (s.slot i).state = .free)
    (hlow : ∀ j, j < i → (s.slot j).state ≠ .free) : s.lookForSlot n = { s with
      slots := s.slots.set i ⟨.filling, false, some ⟨n, k.number, k.revolutions, k.side⟩, []⟩
      units := s.units.set n (.sampling k ⟨i, 0, k.windows.map fun _ => 0⟩) } := by
  simp only [State.lookForSlot, hunit, State.lowestFree_eq_some hfree hlow]
  rfl

theorem State.lookForSlot_waits (h : ∀ i, (s.slot i).state ≠ .free) : s.lookForSlot n = s := by
  unfold State.lookForSlot
  rw [State.lowestFree_eq_none h]
  split
  · next h => exact nomatch h
  · rfl

theorem State.lookForSlot_of_sampling (hunit : s.captureUnit n = .sampling k b) : s.lookForSlot n = s := by
  simp only [State.lookForSlot, hunit]

/-! ### The end of a capture (R130, R132, R146) -/

/-- A dossier with the capture records of a number changed. -/
def Dossier.recorded (d : Dossier) (number : Nat) (f : CaptureRecord → CaptureRecord) : Dossier :=
  { d with captures := d.captures.map fun r => if r.number = number then f r else r }

theorem State.modCaptureRecord_eq (s : State) (n : Nest) (number : Nat) (f : CaptureRecord → CaptureRecord) :
    s.modCaptureRecord n number f = { s with dossiers := s.dossiers.set n ((s.dossier n).recorded number f) } := rfl

theorem Dossier.recorded_self {d : Dossier} {f : CaptureRecord → CaptureRecord} (h : ∀ r ∈ d.captures, r.number = number → f r = r) :
    d.recorded number f = d := by
  have hmap : (d.captures.map fun r => if r.number = number then f r else r) = d.captures := by
    refine (List.map_congr_left (g := id) fun r hr => ?_).trans (List.map_id _)
    split
    · next hnum => exact h r hr hnum
    · rfl
  rw [Dossier.recorded, hmap]

theorem Dossier.recorded_recorded {d : Dossier} {f g : CaptureRecord → CaptureRecord} (hf : ∀ r, (f r).number = r.number) :
    (d.recorded number f).recorded number g = d.recorded number (g ∘ f) := by
  unfold Dossier.recorded
  simp only [List.map_map]
  refine congrArg (fun captures => { d with captures := captures }) (List.map_congr_left fun r _ => ?_)
  by_cases hr : r.number = number
  · simp [hr, hf]
  · simp [hr]

theorem Dossier.recorded_congr {d : Dossier} {f g : CaptureRecord → CaptureRecord} (h : ∀ r ∈ d.captures, r.number = number → f r = g r) :
    d.recorded number f = d.recorded number g := by
  refine congrArg (fun captures => { d with captures := captures }) (List.map_congr_left fun r hr => ?_)
  by_cases hnum : r.number = number
  · rw [if_pos hnum, if_pos hnum, h r hr hnum]
  · rw [if_neg hnum, if_neg hnum]

/-- A record that is not due is not judged. -/
theorem State.judgeCapture_of_not_due (h : ∀ r ∈ (s.dossier n).captures, r.number = number → r.due (s.captureUnit n) = false) :
    s.judgeCapture n number = s := by
  unfold State.judgeCapture
  split
  · rfl
  · rw [State.modCaptureRecord_eq, Dossier.recorded_self, State.dossier, PerNest.set_get]
    intro r hr hnum
    rw [h r hr hnum]
    rfl

/-- The end of a capture that leaves no record to judge. -/
theorem State.finishCapture_eq (hwhy : why ≠ .stopped)
    (hdue : ∀ r ∈ (s.dossier n).captures, r.number = number → (r.endWithoutBlock why).due .idle = false) :
    s.finishCapture n number why = { s with
      dossiers := s.dossiers.set n ((s.dossier n).recorded number fun r => r.endWithoutBlock why)
      channels := s.channels.set n { s.channel n with activity := (s.channel n).activity.captureEnded }
      units := s.units.set n .idle } := by
  unfold State.finishCapture
  extract_lets ended
  rw [if_neg hwhy]
  refine State.judgeCapture_of_not_due fun r hr hnum => ?_
  rw [State.modCaptureRecord_eq, State.dossier, PerNest.get_set_same] at hr
  obtain ⟨r₀, hr₀, rfl⟩ := List.mem_map.mp hr
  have hunit : ((ended.modChannel n fun ch => { ch with activity := ch.activity.captureEnded }).modCaptureRecord n number fun r =>
      r.endWithoutBlock why).captureUnit n = .idle := PerNest.get_set_same ..
  rw [hunit]
  by_cases hnum₀ : r₀.number = number
  · rw [if_pos hnum₀]
    exact hdue r₀ hr₀ hnum₀
  · rw [if_neg hnum₀] at hnum
    exact absurd hnum hnum₀

/-- A record that has completed no block receives the cause of the capture's end (R132). -/
theorem CaptureRecord.endWithoutBlock_pending {r : CaptureRecord} (hcause : why.cause = some cause) (hblocks : r.blocksRequested = 0)
    (hgiven : r.given = none) : r.endWithoutBlock why = { r with given := some ⟨.notMeasured, cause⟩ } := by
  simp only [CaptureRecord.endWithoutBlock, hcause, hgiven, hblocks]
  rfl

theorem CaptureRecord.due_of_given {r : CaptureRecord} {g : Given} (u : CaptureUnit) (h : r.given = some g) : r.due u = false := by
  simp [CaptureRecord.due, h]

/-- What the end of a capture that completed no block leaves in the nest. -/
def State.captureGone (s : State) (n : Nest) (number : Nat) (cause : Cause) : State :=
  { s with
    dossiers := s.dossiers.set n ((s.dossier n).recorded number fun r => { r with given := some ⟨.notMeasured, cause⟩ })
    channels := s.channels.set n { s.channel n with activity := (s.channel n).activity.captureEnded }
    units := s.units.set n .idle }

theorem State.finishCapture_pending (hcause : why.cause = some cause)
    (hrec : ∀ r ∈ (s.dossier n).captures, r.number = number → r.blocksRequested = 0 ∧ r.given = none) :
    s.finishCapture n number why = s.captureGone n number cause := by
  have hend (r : CaptureRecord) (hr : r ∈ (s.dossier n).captures) (hnum : r.number = number) :
      r.endWithoutBlock why = { r with given := some ⟨.notMeasured, cause⟩ } :=
    CaptureRecord.endWithoutBlock_pending hcause (hrec r hr hnum).1 (hrec r hr hnum).2
  have hwhy : why ≠ .stopped := by
    rintro rfl
    exact nomatch hcause
  rw [State.finishCapture_eq hwhy fun r hr hnum => CaptureRecord.due_of_given (g := ⟨.notMeasured, cause⟩) _ (by rw [hend r hr hnum]),
    Dossier.recorded_congr hend]
  rfl

theorem State.endCapture_waiting (hunit : s.captureUnit n = .waitingSlot k) (hcause : why.cause = some cause)
    (hrec : ∀ r ∈ (s.dossier n).captures, r.number = k.number → r.blocksRequested = 0 ∧ r.given = none) :
    s.endCapture n why = s.captureGone n k.number cause := by
  simp only [State.endCapture, hunit]
  exact State.finishCapture_pending hcause hrec

theorem State.endCapture_sampling (hunit : s.captureUnit n = .sampling k b) (hcause : why.cause = some cause)
    (hrec : ∀ r ∈ (s.dossier n).captures, r.number = k.number → r.blocksRequested = 0 ∧ r.given = none) :
    s.endCapture n why = { s.captureGone n k.number cause with slots := s.slots.set b.slot ⟨.free, false, none, []⟩ } := by
  simp only [State.endCapture, hunit]
  exact State.finishCapture_pending (s := s.modSlot b.slot Slot.freed) hcause hrec

/-! ### The request of a dwell start (R126, R127) -/

/-- The capture record as a request leaves it: load side, set-point, and without a reference the windows-unmeasured mark (R126, R134). -/
def CaptureRecord.requested (r : CaptureRecord) (side : LoadSide) (x : Int) (unreferenced : Bool) : CaptureRecord :=
  { r with side := some side, setPoint := some x, unmeasured := r.unmeasured || unreferenced }

/-- A request as the unit takes it, before it looks for a slot. -/
def State.captureRequested (s : State) (n : Nest) (number : Nat) (d : CaptureDef) (side : LoadSide) (x : Int) : State :=
  { s with
    dossiers := s.dossiers.set n ((s.dossier n).recorded number fun r => r.requested side x (s.channel n).reference.isNone)
    units := s.units.set n
      (.waitingSlot ⟨number, d.revolutions, d.blocks, d.windows, side, none, 0, 0, (s.channel n).reference.isSome⟩) }

theorem State.requestCapture_eq {p : Plan} {d : CaptureDef} {side : LoadSide} {x : Int} (hp : s.planOf n = some p)
    (hdef : p.captures[number]? = some d) : s.requestCapture n number side x = (s.captureRequested n number d side x).lookForSlot n := by
  have hd : s.captureDef n number = some d := by rw [State.captureDef, hp, Option.bind_some, hdef]
  simp only [State.requestCapture, hd, Option.not_isSome]
  rfl

end

end Sys2Proof.Machine
end

section
/-! PROOFS. The dwell of a profile. -/

namespace Sys2Proof.Machine

section
variable {s t : State} {n : Nest} {u : UpdateInput} {p : Plan} {i : Nat} {step : Step} {c c' : ProfileCounters} {cause : Cause} {torque : Int}

/-! ### The counters of a dwell update (R84, R85) -/

/-- The counters that a profile's work of an update begins from: its phase found, its torque run 0 (R83, R91). -/
def ProfileCounters.located (c : ProfileCounters) (step : Step) : ProfileCounters := { c.phased step with torqueRun := 0 }

theorem ProfileCounters.located_dwell (h : c.phase = .dwell) : c.located step = { c with torqueRun := 0 } := by
  have hph : c.phased step = c := if_neg fun hr => by rw [h] at hr; exact nomatch hr.1
  rw [ProfileCounters.located, hph]

theorem ProfileCounters.located_ramp_over (h : c.phase = .ramp) (hover : step.rampUpdates ≤ c.rampCount) :
    c.located step = { c with phase := .dwell, torqueRun := 0 } := by
  have hph : c.phased step = { c with phase := .dwell } := if_pos ⟨h, hover⟩
  rw [ProfileCounters.located, hph]

/-- A dwell update that is not held counts. -/
theorem ProfileCounters.advance_counts (hphase : c.phase = .dwell) (hcapture : c.stepCapture ≠ .active)
    (hstart : (c.atDwellStart && step.capture.isSome) = false) :
    c.advance step = { c with computed := step.target, dwellCount := c.dwellCount + 1 } := by
  simp only [ProfileCounters.advance, hphase, hstart, Bool.false_eq_true, if_false, if_neg hcapture]

/-- A held dwell update. -/
theorem ProfileCounters.advance_holds (hphase : c.phase = .dwell) (hcapture : c.stepCapture = .active) (hstart : c.atDwellStart = false) :
    c.advance step = { c with computed := step.target, holdCount := c.holdCount + 1 } := by
  simp only [ProfileCounters.advance, hphase, hstart, Bool.false_and, Bool.false_eq_true, if_false, if_pos hcapture]

/-- The dwell start of a step that names a capture is held. -/
theorem ProfileCounters.advance_requests (hphase : c.phase = .dwell) (hstart : c.atDwellStart = true) (hcapture : step.capture.isSome = true) :
    c.advance step = { c with computed := step.target, holdCount := c.holdCount + 1, stepCapture := .active } := by
  simp only [ProfileCounters.advance, hphase, hstart, hcapture, Bool.and_true, if_true]

theorem ProfileCounters.atDwellStart_iff (hphase : c.phase = .dwell) : c.atDwellStart = true ↔ c.dwellCount = 0 ∧ c.holdCount = 0 := by
  simp [ProfileCounters.atDwellStart, hphase]

theorem ProfileCounters.dwellEnded_iff (hphase : c.phase = .dwell) : c.dwellEnded step = true ↔ step.dwellUpdates ≤ c.dwellCount := by
  simp [ProfileCounters.dwellEnded, hphase]

/-! ### A dwell update with the enable on (R87, R89) -/

theorem State.profileStep_eq {x : Int} (hadvance : c.advance step = c') (hx : s.profileOutput n c'.computed = x) :
    s.profileStep n p step c = (s.takeStep n p step c c' x).sendProfile n c'.computed x := by
  subst hadvance hx
  rfl

/-- What an update of a profile in motion needs: its stage, no ZERO, no stop, class 0 to 5, a torque within the limit. -/
structure Dwelling (u : UpdateInput) (p : Plan) (i : Nat) (c : ProfileCounters) (step : Step) (s : State) : Prop where
  stage : s.stageIs u.nest p i .profile
  zero : s.interlock.zero = none
  stopping : (s.channel u.nest).stopping = false
  activity : (s.channel u.nest).activity = .profiling c
  enable : (s.channel u.nest).enable = true
  cls : s.classOf u.nest ≤ 5
  goesOn : c.endPending = false
  inForce : p.steps[c.stepIndex]? = some step
  target : -3000 ≤ step.target ∧ step.target ≤ 3000
  torque : (s.torqueAt u).natAbs ≤ step.torqueLimit

/-- A dwell update is step 5 of R87, the target sent, and the look for a slot. -/
theorem Dwelling.driveUpdate (h : Dwelling u p i c step s) (hon : c.phase = .ramp ∨ c.dwellCount < step.dwellUpdates)
    (hadvance : (c.located step).advance step = c') (hcomputed : c'.computed = step.target)
    (ht : (s.peaked u.nest (s.torqueAt u)).takeStep u.nest p step (c.located step) c' step.target = t)
    (henable : (t.channel u.nest).enable = true) :
    s.driveUpdate u =
      ({ t with channels := t.channels.set u.nest { t.channel u.nest with setPoint := step.target } } : State).lookForSlot u.nest := by
  have hlimit : (s.torqueAt u).natAbs ≤ effectiveLimit ((s.peaked u.nest (s.torqueAt u)).classOf u.nest) step.torqueLimit := by
    have hcls : (s.peaked u.nest (s.torqueAt u)).classOf u.nest ≠ 6 := fun hc => by
      have : s.classOf u.nest = 6 := hc
      have := h.cls
      omega
    rw [effectiveLimit, if_neg hcls]
    exact h.torque
  have hclass : (s.peaked u.nest (s.torqueAt u)).classOf u.nest ≠ 7 := fun hc => by
    have : s.classOf u.nest = 7 := hc
    have := h.cls
    omega
  have houtput : (s.peaked u.nest (s.torqueAt u)).profileOutput u.nest step.target = step.target := by
    rw [State.profileOutput_enabled (s := s.peaked u.nest (s.torqueAt u)) h.enable]
    exact limiter_of_within h.target fun hc => by
      have : s.classOf u.nest = 6 := hc
      have := h.cls
      omega
  have hwork : (s.peaked u.nest (s.torqueAt u)).profileUpdate u.nest p (s.torqueAt u) c =
      { t with channels := t.channels.set u.nest { t.channel u.nest with setPoint := step.target } } := by
    rw [State.profileUpdate_enabled (s := s.peaked u.nest (s.torqueAt u)) h.goesOn h.inForce hon h.enable hclass hlimit]
    refine (State.profileStep_eq (x := step.target) hadvance (by rw [hcomputed]; exact houtput)).trans ?_
    rw [ht, State.sendProfile, if_pos henable, State.send_of_enabled henable]
  rw [State.driveUpdate_profiling h.stage h.zero h.stopping h.activity, hwork]

/-! ### Step 5 of R87 in a dwell (R84 to R86) -/

/-- The end of a dwell (R86). -/
theorem State.takeStep_ends {x : Int} (hphase : c'.phase = .dwell) (hcapture : c'.stepCapture ≠ .active)
    (hstart : c.atDwellStart = true → step.capture = none) (hended : step.dwellUpdates ≤ c'.dwellCount) :
    s.takeStep n p step c c' x = (s.setActivity n (.profiling c')).dwellEnd n c' p := by
  have hnone : (if c.atDwellStart then (s.setActivity n (.profiling c')).dwellStart n step x else s.setActivity n (.profiling c')) =
      s.setActivity n (.profiling c') := by
    split
    · next h => rw [State.dwellStart, hstart h]
    · rfl
  simp only [State.takeStep]
  rw [hnone, if_neg fun h => hcapture h.1, if_pos ((ProfileCounters.dwellEnded_iff hphase).mpr hended)]

/-- The dwell start of a step that names a capture requests it (R84). -/
theorem State.takeStep_requests {x : Int} {number : Nat} (hphase : c'.phase = .dwell) (hstart : c.atDwellStart = true)
    (hcapture : step.capture = some number) (hhold : c'.holdCount < 1000) (hdwell : c'.dwellCount < step.dwellUpdates) :
    s.takeStep n p step c c' x = (s.setActivity n (.profiling c')).requestCapture n number step.side x := by
  have hended : ¬c'.dwellEnded step = true := fun h => Nat.not_le.mpr hdwell ((ProfileCounters.dwellEnded_iff hphase).mp h)
  simp only [State.takeStep]
  rw [if_pos hstart, if_neg fun h => Nat.not_le.mpr hhold h.2, if_neg hended, State.dwellStart, hcapture]

/-- A held update below the hold limit. -/
theorem State.takeStep_holds {x : Int} (hphase : c'.phase = .dwell) (hstart : c.atDwellStart = false) (hhold : c'.holdCount < 1000)
    (hdwell : c'.dwellCount < step.dwellUpdates) : s.takeStep n p step c c' x = s.setActivity n (.profiling c') := by
  have hended : ¬c'.dwellEnded step = true := fun h => Nat.not_le.mpr hdwell ((ProfileCounters.dwellEnded_iff hphase).mp h)
  simp only [State.takeStep]
  rw [if_neg (Bool.eq_false_iff.mp hstart), if_neg fun h => Nat.not_le.mpr hhold h.2, if_neg hended]

/-- The 1,000th held update (R85). -/
theorem State.takeStep_limit {x : Int} (hstart : c.atDwellStart = false) (hcapture : c'.stepCapture = .active) (hhold : 1000 ≤ c'.holdCount) :
    s.takeStep n p step c c' x = (s.setActivity n (.profiling c')).holdLimitReached n := by
  simp only [State.takeStep]
  rw [if_neg (Bool.eq_false_iff.mp hstart), if_pos ⟨hcapture, hhold⟩]

/-! ### The dwell updates of a profile in motion (R84 to R86) -/

/-- The dwell start of a step that names a capture (R84, R126). -/
theorem Dwelling.requests {number : Nat} {d : CaptureDef} (h : Dwelling u p i c step s)
    (hphase : c.phase = .dwell ∨ (c.phase = .ramp ∧ step.rampUpdates ≤ c.rampCount)) (hdwell : c.dwellCount = 0) (hhold : c.holdCount = 0)
    (hlong : 1 ≤ step.dwellUpdates) (hcapture : step.capture = some number) (hdef : p.captures[number]? = some d)
    (ht : (((s.peaked u.nest (s.torqueAt u)).setActivity u.nest (.profiling
      { c with phase := .dwell, stepCapture := .active, holdCount := 1, computed := step.target, torqueRun := 0 })).captureRequested
        u.nest number d step.side step.target).lookForSlot u.nest = t) (henable : (t.channel u.nest).enable = true) :
    s.driveUpdate u =
      ({ t with channels := t.channels.set u.nest { t.channel u.nest with setPoint := step.target } } : State).lookForSlot u.nest := by
  have hlocated : c.located step = { c with phase := .dwell, torqueRun := 0 } := by
    rcases hphase with hd | ⟨hr, hover⟩
    · rw [ProfileCounters.located_dwell hd, ← hd]
    · exact ProfileCounters.located_ramp_over hr hover
  have hstart : (c.located step).atDwellStart = true := by
    rw [hlocated]
    exact (ProfileCounters.atDwellStart_iff rfl).mpr ⟨hdwell, hhold⟩
  have hadvance : (c.located step).advance step =
      { c with phase := .dwell, stepCapture := .active, holdCount := 1, computed := step.target, torqueRun := 0 } := by
    rw [ProfileCounters.advance_requests (by rw [hlocated]) hstart (by rw [hcapture]; rfl), hlocated, hhold]
  refine h.driveUpdate (hphase.symm.imp (fun hr => hr.1) fun _ => by omega) hadvance rfl ?_ henable
  have hshort : c.dwellCount < step.dwellUpdates := by omega
  exact (State.takeStep_requests (by rfl) hstart hcapture (by exact Nat.one_lt_ofNat) (by exact hshort)).trans
    ((State.requestCapture_eq (by exact (h.stage.peaked (s.torqueAt u)).2.1) hdef).trans ht)

/-- A held update below the limit (R85). -/
theorem Dwelling.holds (h : Dwelling u p i c step s) (hphase : c.phase = .dwell) (hdwell : c.dwellCount < step.dwellUpdates)
    (hcapture : c.stepCapture = .active) (hhold : 0 < c.holdCount) (hlimit : c.holdCount < 999) :
    s.driveUpdate u = ({ s with
      dossiers := s.dossiers.set u.nest ((s.dossier u.nest).peaked (s.torqueAt u))
      channels := s.channels.set u.nest
        { s.channel u.nest with
          setPoint := step.target
          activity := .profiling { c with holdCount := c.holdCount + 1, computed := step.target, torqueRun := 0 } } } : State).lookForSlot
        u.nest := by
  have hlocated := ProfileCounters.located_dwell (step := step) hphase
  have hstart : (c.located step).atDwellStart = false := by
    rw [hlocated, Bool.eq_false_iff]
    exact fun hs => Nat.ne_of_gt hhold ((ProfileCounters.atDwellStart_iff hphase).mp hs).2
  have hadvance : (c.located step).advance step = { c with holdCount := c.holdCount + 1, computed := step.target, torqueRun := 0 } := by
    rw [ProfileCounters.advance_holds (by rw [hlocated]; exact hphase) (by rw [hlocated]; exact hcapture) hstart, hlocated]
  rw [h.driveUpdate (.inr hdwell) hadvance rfl (State.takeStep_holds hphase hstart (show c.holdCount + 1 < 1000 by omega) hdwell)
    (by rw [State.channel_setActivity]; exact h.enable), State.channel_setActivity]
  simp only [State.setActivity, State.modChannel, PerNest.mod, PerNest.set_set]
  rfl

/-- The 1,000th held update (R85): the capture has ended, the dwell count as it was. -/
theorem Dwelling.limit {v : State} (h : Dwelling u p i c step s) (hphase : c.phase = .dwell) (hdwell : c.dwellCount < step.dwellUpdates)
    (hcapture : c.stepCapture = .active) (hhold : c.holdCount = 999)
    (hend : ((s.peaked u.nest (s.torqueAt u)).setActivity u.nest (.profiling
      { c with holdCount := 1000, computed := step.target, torqueRun := 0 })).endCapture u.nest .holdLimit = v)
    (hchannel : v.channel u.nest = { s.channel u.nest with
      activity := .profiling { c with holdCount := 1000, computed := step.target, torqueRun := 0, stepCapture := .ended } })
    (hunit : v.captureUnit u.nest = .idle) :
    s.driveUpdate u = { v with
      channels := v.channels.set u.nest
        { s.channel u.nest with
          setPoint := step.target
          activity := .profiling { c with holdCount := 1000, computed := step.target, torqueRun := 0, stepCapture := .ended } } } := by
  have hlocated := ProfileCounters.located_dwell (step := step) hphase
  have hstart : (c.located step).atDwellStart = false := by
    rw [hlocated, Bool.eq_false_iff]
    exact fun hs => absurd ((ProfileCounters.atDwellStart_iff hphase).mp hs).2 (show c.holdCount ≠ 0 by omega)
  have hadvance : (c.located step).advance step = { c with holdCount := 1000, computed := step.target, torqueRun := 0 } := by
    rw [ProfileCounters.advance_holds (by rw [hlocated]; exact hphase) (by rw [hlocated]; exact hcapture) hstart, hlocated]
    show ({ c with computed := step.target, torqueRun := 0, holdCount := c.holdCount + 1 } : ProfileCounters) = _
    rw [hhold]
  have hended : (v.modChannel u.nest fun ch => { ch with activity := ch.activity.captureEnded }) = v := by
    show { v with channels := v.channels.set u.nest { v.channel u.nest with activity := (v.channel u.nest).activity.captureEnded } } = v
    have hsame : (v.channel u.nest).activity.captureEnded = (v.channel u.nest).activity := by
      rw [hchannel]
      rfl
    rw [hsame, State.channels_set_activity]
  have hreached : ((s.peaked u.nest (s.torqueAt u)).setActivity u.nest (.profiling
      { c with holdCount := 1000, computed := step.target, torqueRun := 0 })).holdLimitReached u.nest = v := by
    rw [State.holdLimitReached, hend, hended]
  rw [h.driveUpdate (.inr hdwell) hadvance rfl ((State.takeStep_limit hstart (by exact hcapture) (by exact Nat.le_refl 1000)).trans hreached)
    (by rw [hchannel]; exact h.enable), hchannel]
  exact State.lookForSlot_of_idle hunit

/-- The last dwell update of a step with no capture in progress (R86). -/
theorem Dwelling.ends (h : Dwelling u p i c step s) (hphase : c.phase = .dwell) (hdwell : c.dwellCount < step.dwellUpdates)
    (hunit : s.captureUnit u.nest = .idle) (hcapture : c.stepCapture ≠ .active)
    (hstart : step.capture = none ∨ 0 < c.dwellCount ∨ 0 < c.holdCount) (hlast : c.dwellCount + 1 = step.dwellUpdates) :
    s.driveUpdate u = { s with
      channels := s.channels.set u.nest
        { s.channel u.nest with
          setPoint := step.target
          activity := .profiling { c with
            dwellCount := step.dwellUpdates
            computed := step.target
            torqueRun := 0
            endPending := decide (c.stepIndex + 1 = p.steps.length ∧ p.cycles ≤ c.cycle) } }
      dossiers := s.dossiers.set u.nest
        { s.dossier u.nest with
          runIn := (s.dossier u.nest).runIn.map fun r =>
            { r with peakTorque := max r.peakTorque (s.torqueAt u).natAbs, stepsCompleted := r.stepsCompleted + 1 } } } := by
  have hlocated := ProfileCounters.located_dwell (step := step) hphase
  have hnostart (hs : (c.located step).atDwellStart = true) : step.capture = none := by
    rw [hlocated] at hs
    obtain ⟨hd, hh⟩ := (ProfileCounters.atDwellStart_iff hphase).mp hs
    exact hstart.resolve_right fun hor => hor.elim (Nat.ne_of_gt · hd) (Nat.ne_of_gt · hh)
  have hand : ((c.located step).atDwellStart && step.capture.isSome) = false := by
    rw [Bool.and_eq_false_imp]
    intro hs
    rw [hnostart hs]
    rfl
  have hadvance : (c.located step).advance step = { c with dwellCount := step.dwellUpdates, computed := step.target, torqueRun := 0 } := by
    rw [ProfileCounters.advance_counts (by rw [hlocated]; exact hphase) (by rw [hlocated]; exact hcapture) hand, hlocated]
    show ({ c with computed := step.target, torqueRun := 0, dwellCount := c.dwellCount + 1 } : ProfileCounters) = _
    rw [hlast]
  have hindex : c.stepIndex < p.steps.length := (List.getElem?_eq_some_iff.mp h.inForce).1
  have hpending : ({ c with dwellCount := step.dwellUpdates, computed := step.target, torqueRun := 0 } : ProfileCounters).isLast p =
      decide (c.stepIndex + 1 = p.steps.length ∧ p.cycles ≤ c.cycle) := by
    rw [Bool.eq_iff_iff, decide_eq_true_iff, ProfileCounters.isLast, Bool.and_eq_true, decide_eq_true_iff, decide_eq_true_iff]
    exact and_congr_left' ⟨fun hle => Nat.le_antisymm (Nat.succ_le_of_lt hindex) hle, fun heq => Nat.le_of_eq heq.symm⟩
  rw [h.driveUpdate (.inr hdwell) hadvance rfl (State.takeStep_ends hphase hcapture hnostart (Nat.le_refl _)) ?enable,
    State.lookForSlot_of_idle ?unit]
  case enable =>
    rw [State.dwellEnd, State.channel_setActivity, State.channel_modDossier, State.channel_setActivity]
    exact h.enable
  case unit => exact hunit
  rw [State.dwellEnd, hpending]
  simp only [State.peaked, State.setActivity, State.modChannel, State.modDossier, State.dossier, State.channel, PerNest.mod, PerNest.get_set_same,
    PerNest.set_set, Dossier.peaked, Option.map_map]
  rfl

end

end Sys2Proof.Machine
end

section
/-! PROOFS. A failure and a stop while a capture is in progress. -/

namespace Sys2Proof.Machine

section
variable {s t : State} {n : Nest} {u : UpdateInput} {p : Plan} {i : Nat} {step : Step} {c c' : ProfileCounters} {cause : Cause} {torque : Int}
  {k : Capture} {b : BlockInProgress}

/-! ### A run-in failure while a block is in progress (R25, R95) -/

/-- With no PROFILE stage later a failure skips positions alone. -/
theorem Dossier.skipLater_of_no_profile {d : Dossier} (h : ∀ j, d.position < j → p.stages[j]? ≠ some .profile) :
    ∃ skipped, d.skipLater p = { d with skipped := skipped } := by
  unfold Dossier.skipLater
  extract_lets later marks marked
  refine ⟨_, if_neg fun hany => ?_⟩
  obtain ⟨x, hx, hprofile⟩ := List.any_eq_true.mp hany
  obtain ⟨j, hj⟩ := List.mem_iff_getElem?.mp (show x ∈ p.stages.zipIdx.drop (d.position + 1) from hx)
  rw [List.getElem?_drop, List.getElem?_zipIdx, Option.map_eq_some_iff] at hj
  obtain ⟨st, hst, rfl⟩ := hj
  exact h _ (by omega) (hst.trans (congrArg some (of_decide_eq_true hprofile)))

theorem Activity.captureEnded_profiling (h : c.stepCapture = .active) :
    (Activity.profiling c).captureEnded = .profiling { c with stepCapture := .ended } := by
  rw [Activity.captureEnded, if_pos h]

/-- A run-in failure of a profile whose capture has completed no block: the capture withdrawn, its record SKIPPED. -/
theorem State.failRunIn_sampling (hp : s.planOf n = some p) (hindex : (s.dossier n).stageIndex = some i)
    (hlast : ∀ j : Nat, i < j → p.stages[j]? ≠ some .profile) (hact : (s.channel n).activity = .profiling c) (hcapture : c.stepCapture = .active)
    (hunit : s.captureUnit n = .sampling k b)
    (hrec : ∀ r ∈ (s.dossier n).captures, r.number = k.number → r.blocksRequested = 0 ∧ r.given = none) :
    ∃ skipped, s.failRunIn n cause = { s with
      dossiers := s.dossiers.set n
        { (s.dossier n).recorded k.number fun r => { r with given := some ⟨.notMeasured, .skipped⟩ } with
          runIn := (s.dossier n).runInGiven (failed cause), skipped := skipped }
      channels := s.channels.set n { s.channel n with activity := .profiling { c with stepCapture := .ended } }
      slots := s.slots.set b.slot ⟨.free, false, none, []⟩
      units := s.units.set n .idle } := by
  unfold State.failRunIn
  extract_lets given marked
  have hgiven : given = { s with
      dossiers := s.dossiers.set n { s.dossier n with runIn := (s.dossier n).runInGiven (failed cause) } } := rfl
  have hd : given.dossier n = { s.dossier n with runIn := (s.dossier n).runInGiven (failed cause) } := PerNest.get_set_same ..
  have hplan : given.planOf n = some p := by
    rw [State.planOf, hd]
    exact hp
  have hposition : (given.dossier n).position = i := by
    rw [hd]
    show ((s.dossier n).stageIndex.orElse fun _ => (s.dossier n).lastBegun).getD 0 = i
    rw [hindex]
    rfl
  obtain ⟨skipped, hskip⟩ := Dossier.skipLater_of_no_profile (d := given.dossier n) (p := p) (by rw [hposition]; exact hlast)
  have hmarked : marked = { s with
      dossiers := s.dossiers.set n { s.dossier n with runIn := (s.dossier n).runInGiven (failed cause), skipped := skipped } } := by
    have hstep : marked = { given with dossiers := given.dossiers.set n ((given.dossier n).skipLater p) } := by
      simp only [marked, hplan]
      rfl
    rw [hstep, hskip, hd, hgiven, PerNest.set_set]
  refine ⟨skipped, ?_⟩
  rw [hmarked]
  have hmark : (Activity.profiling c).markFailed = .profiling c := rfl
  generalize hv : (({ s with
      dossiers := s.dossiers.set n { s.dossier n with runIn := (s.dossier n).runInGiven (failed cause), skipped := skipped } } :
        State).modChannel n fun ch => { ch with activity := ch.activity.markFailed }) = v
  have hvch : v.channel n = { s.channel n with activity := .profiling c } := by
    rw [← hv, State.channel_modChannel_same, ← hmark, ← hact]
    rfl
  have hvd : v.dossier n = { s.dossier n with runIn := (s.dossier n).runInGiven (failed cause), skipped := skipped } := by
    rw [← hv]
    exact PerNest.get_set_same ..
  have hvu : v.captureUnit n = .sampling k b := by
    rw [← hv]
    exact hunit
  have hvact : (v.channel n).activity = .profiling c := by rw [hvch]
  have hwithdraw : v.withdrawCapture n = v.endCapture n .withdrawn := by
    simp only [State.withdrawCapture, hvact, if_pos hcapture]
  rw [hwithdraw, State.endCapture_sampling hvu (cause := .skipped) rfl (by rw [hvd]; exact hrec), State.captureGone, hvd, hvch]
  subst hv
  simp only [State.modChannel, PerNest.mod, PerNest.set_set, Activity.captureEnded_profiling hcapture]
  rfl

/-- The OVERHEAT of a profile in motion while a block is in progress (R66, R95). -/
theorem State.driveUpdate_overheat_sampling (hs : s.stageIs u.nest p i .profile) (hzero : s.interlock.zero = none)
    (hstop : (s.channel u.nest).stopping = false) (hact : (s.channel u.nest).activity = .profiling c)
    (henable : (s.channel u.nest).enable = true) (hfar : 3 < (s.channel u.nest).setPoint.natAbs) (hend : c.endPending = false)
    (hstep : p.steps[c.stepIndex]? = some step) (hphase : c.phase = .dwell) (hdwell : c.dwellCount < step.dwellUpdates)
    (hcapture : c.stepCapture = .active) (hunit : s.captureUnit u.nest = .sampling k b) (hclass : s.classOf u.nest = 7)
    (hlast : ∀ j : Nat, i < j → p.stages[j]? ≠ some .profile)
    (hrec : ∀ r ∈ (s.dossier u.nest).captures, r.number = k.number → r.blocksRequested = 0 ∧ r.given = none) :
    s.runInFailed (s.driveUpdate u) u.nest .overheat ∧ (s.driveUpdate u).captureUnit u.nest = .idle ∧
      (s.driveUpdate u).slots = s.slots.set b.slot ⟨.free, false, none, []⟩ ∧
      ((s.driveUpdate u).dossier u.nest).captures =
        ((s.dossier u.nest).recorded k.number fun r => { r with given := some ⟨.notMeasured, .skipped⟩ }).captures := by
  have hphased : c.phased step = c := if_neg fun h => by rw [hphase] at h; exact nomatch h.1
  have hsame : (s.peaked u.nest (s.torqueAt u)).setActivity u.nest (.profiling c) = s.peaked u.nest (s.torqueAt u) := State.setActivity_self hact
  obtain ⟨skipped, hfail⟩ := State.failRunIn_sampling (s := s.peaked u.nest (s.torqueAt u)) (cause := .overheat) (hs.peaked (s.torqueAt u)).2.1
    (hs.peaked (s.torqueAt u)).2.2.1 hlast hact hcapture hunit (by rw [State.dossier_peaked]; exact hrec)
  have hchannel : (((s.peaked u.nest (s.torqueAt u)).failRunIn u.nest .overheat).modChannel u.nest Channel.controlledStop).channel u.nest =
      { s.channel u.nest with activity := .profiling { c with stepCapture := .ended }, stopping := (s.channel u.nest).enable } := by
    rw [State.channel_modChannel_same, hfail, State.channel, PerNest.get_set_same]
    rfl
  have hwork : (s.peaked u.nest (s.torqueAt u)).profileUpdate u.nest p (s.torqueAt u) c =
      (s.peaked u.nest (s.torqueAt u)).failMoving u.nest .overheat := by
    rw [State.profileUpdate_overheat (s := s.peaked u.nest (s.torqueAt u)) hend hstep (.inr hdwell) henable hclass, hphased, hsame]
  have hmoving := State.stopUpdate_of_far (s := ((s.peaked u.nest (s.torqueAt u)).failRunIn u.nest .overheat).modChannel u.nest
    Channel.controlledStop) (n := u.nest) (by rw [hchannel]; exact hfar) (by rw [hchannel]; exact henable)
  have hgone : ((s.peaked u.nest (s.torqueAt u)).failMoving u.nest .overheat).captureUnit u.nest = .idle := by
    rw [State.failMoving, hmoving, hfail]
    exact PerNest.get_set_same ..
  rw [State.driveUpdate_profiling hs hzero hstop hact, hwork, State.lookForSlot_of_idle hgone]
  refine ⟨?_, hgone, ?_, ?_⟩
  all_goals rw [State.failMoving, hmoving]
  · refine State.runInFailed.of_peaked (torque := s.torqueAt u) (State.runInFailed_of_given ?_)
    exact State.runIn_failRunIn (s.peaked u.nest (s.torqueAt u)) u.nest .overheat
  · rw [hfail]
    rfl
  · show (((s.peaked u.nest (s.torqueAt u)).failRunIn u.nest .overheat).dossier u.nest).captures = _
    rw [hfail, State.dossier, PerNest.get_set_same, State.dossier_peaked]
    rfl

/-! ### A stop of the nest while a block is in progress (R96, R120, R132) -/

/-- A slot that holds nothing is given back as it is. -/
theorem State.slot_giveBackJobs_free {j : Fin 4} (js : List Job) (h : s.slot j = ⟨.free, false, none, []⟩) :
    (s.giveBackJobs js).slot j = ⟨.free, false, none, []⟩ := by
  induction js generalizing s with
  | nil => exact h
  | cons x rest ih =>
    refine ih ?_
    unfold State.giveBackSlot
    split
    · next hmark =>
      show ((s.modSlot x.slot fun t => { t with state := .pinned, pinMark := false }).slot j) = _
      rw [State.slot_modSlot]
      split
      · next hj => rw [← hj, h] at hmark; exact nomatch hmark
      · exact h
    · rw [State.slot_modSlot]
      split
      · rfl
      · exact h

/-- An entry to STOPPING frees the slot of the block in progress. -/
theorem State.slot_enterStopping (hunit : s.captureUnit n = .sampling k b) : (s.enterStopping n cause).slot b.slot = ⟨.free, false, none, []⟩ := by
  unfold State.enterStopping
  extract_lets stopping ended
  obtain ⟨leaks, k0, k1, a, -, -, -, -, habort⟩ := State.abortLeak_eq ended n
  have hfreed : ended.slot b.slot = ⟨.free, false, none, []⟩ := by
    have hu : (stopping.modChannel n fun ch => { ch with activity := .idle }).captureUnit n = .sampling k b := hunit
    have hended : ended = ((stopping.modChannel n fun ch => { ch with activity := .idle }).modSlot b.slot Slot.freed).setUnit n .idle := by
      simp only [ended, State.endCapture, hu, State.finishCapture, if_true]
    rw [hended, State.slot_setUnit, State.slot_modSlot_same]
    rfl
  have haborted : (ended.abortLeak n).slot b.slot = ⟨.free, false, none, []⟩ := by
    rw [habort]
    exact hfreed
  unfold State.dropJobs
  extract_lets dropped queued
  exact State.slot_giveBackJobs_free dropped haborted

theorem State.slot_arbitrate (s : State) (j : Fin 4) : s.arbitrate.slot j = s.slot j := by
  obtain ⟨a, cs, h⟩ := State.arbitrate_frame s
  rw [h]
  rfl

theorem State.captures_enterStopping (s : State) (n : Nest) (cause : Cause) :
    ((s.enterStopping n cause).dossier n).captures = (s.dossier n).captures := by
  obtain ⟨leaks, k0, k1, a, slots, discard, causes, -, -, -, -, h⟩ := State.enterStopping_eq s n cause
  rw [h, State.dossier, PerNest.get_set_same]

theorem State.captureUnit_enterStopping (s : State) (n : Nest) (cause : Cause) : (s.enterStopping n cause).captureUnit n = .idle := by
  obtain ⟨leaks, k0, k1, a, slots, discard, causes, -, -, -, -, h⟩ := State.enterStopping_eq s n cause
  rw [h]
  exact PerNest.get_set_same ..

theorem State.captureUnit_arbitrate (s : State) (n : Nest) : s.arbitrate.captureUnit n = s.captureUnit n := by
  obtain ⟨a, cs, h⟩ := State.arbitrate_frame s
  rw [h]
  rfl

/-- A guard opening while a block is in progress. -/
theorem State.guardOpened_sampling (hst : (s.dossier n).state = .testing) (hunit : s.captureUnit n = .sampling k b) :
    (s.guardOpened n).captureUnit n = .idle ∧ (s.guardOpened n).slot b.slot = ⟨.free, false, none, []⟩ ∧
      (((s.guardOpened n).dossier n).state = .stopping → ((s.guardOpened n).dossier n).captures = (s.dossier n).captures) ∧
      (((s.guardOpened n).dossier n).state ≠ .stopping → ((s.guardOpened n).dossier n).captures =
        (s.dossier n).captures.map fun r => { r with given := some (r.given.getD ⟨.notMeasured, .aborted⟩) }) := by
  have hst' : ((s.setGuard n true).dossier n).state = .testing := hst
  have hopened : s.guardOpened n = (((s.setGuard n true).stopNest n .guard).arbitrate).checkStopping n := if_pos (.inl hst)
  have hunit' : (((s.setGuard n true).stopNest n .guard).arbitrate).captureUnit n = .idle := by
    rw [State.captureUnit_arbitrate, State.stopNest_of_testing hst', State.captureUnit_modChannel, State.captureUnit_enterStopping]
  have hslot : (((s.setGuard n true).stopNest n .guard).arbitrate).slot b.slot = ⟨.free, false, none, []⟩ := by
    rw [State.slot_arbitrate, State.stopNest_of_testing hst', State.slot_modChannel]
    exact State.slot_enterStopping (s := s.setGuard n true) hunit
  have hcaptures : ((((s.setGuard n true).stopNest n .guard).arbitrate).dossier n).captures = (s.dossier n).captures := by
    rw [State.dossier_arbitrate, State.stopNest_of_testing hst', State.dossier_modChannel, State.captures_enterStopping]
    rfl
  have hstate : ((((s.setGuard n true).stopNest n .guard).arbitrate).dossier n).state = .stopping := by
    rw [State.dossier_arbitrate, State.stopNest_of_testing hst', State.dossier_modChannel, State.dossier_enterStopping]
  rw [hopened]
  generalize ((s.setGuard n true).stopNest n .guard).arbitrate = v at hunit' hslot hcaptures hstate
  rcases State.checkStopping_cases v n with h | ⟨-, ⟨st, number, pending, hjudged, hd⟩, ds, plans, reports, causes, h⟩
  · rw [h]
    exact ⟨hunit', hslot, fun _ => hcaptures, fun hno => absurd hstate hno⟩
  · have hdossier := (congrArg (PerNest.get · n) hd).trans (PerNest.get_set_same ..)
    have hunit'' : (v.checkStopping n).captureUnit n = .idle := by
      rw [h]
      exact hunit'
    have hslot' : (v.checkStopping n).slot b.slot = ⟨.free, false, none, []⟩ := by
      rw [h]
      exact hslot
    refine ⟨hunit'', hslot', fun hstop => ?_, fun _ => ?_⟩
    · rw [State.dossier, hdossier] at hstop
      rcases hjudged with rfl | rfl <;> exact nomatch hstop
    · rw [State.dossier, hdossier, ← hcaptures]
      rfl

/-! ### A request and its set-point (R84, R126, R127) -/

/-- The look for a slot changes slots and unit alone. -/
theorem State.lookForSlot_eq (s : State) (n : Nest) : ∃ slots units, s.lookForSlot n = { s with slots := slots, units := units } ∧
    ∀ channels, ({ s with channels := channels } : State).lookForSlot n = { s with channels := channels, slots := slots, units := units } := by
  unfold State.lookForSlot
  split
  · next k j hunit hfree =>
    refine ⟨_, _, rfl, fun channels => ?_⟩
    have hu : ({ s with channels := channels } : State).captureUnit n = .waitingSlot k := hunit
    have hf : ({ s with channels := channels } : State).lowestFree = some j := hfree
    rw [hu, hf]
    rfl
  · next hno =>
    refine ⟨s.slots, s.units, rfl, fun channels => ?_⟩
    split
    · next k j hunit hfree => exact (hno k j hunit hfree).elim
    · rfl

/-- A unit that has looked for a slot finds none by looking again. -/
theorem State.lookForSlot_lookForSlot (s : State) (n : Nest) : (s.lookForSlot n).lookForSlot n = s.lookForSlot n := by
  rcases hunit : s.captureUnit n with - | k | ⟨k, b⟩
  · rw [State.lookForSlot_of_idle hunit, State.lookForSlot_of_idle hunit]
  · rcases hfree : s.lowestFree with - | j
    · have hsame : s.lookForSlot n = s := by simp only [State.lookForSlot, hunit, hfree]
      rw [hsame, hsame]
    · refine State.lookForSlot_of_sampling (k := k) (b := ⟨j, 0, k.windows.map fun _ => 0⟩) ?_
      simp only [State.lookForSlot, hunit, hfree]
      exact PerNest.get_set_same ..
  · rw [State.lookForSlot_of_sampling hunit, State.lookForSlot_of_sampling hunit]

/-- A request with its set-point sent, before the look for a slot, as one change of the nest. -/
def State.requestSent (s : State) (n : Nest) (torque : Int) (a : Activity) (number : Nat) (d : CaptureDef) (side : LoadSide) (x : Int) : State :=
  { s with
    channels := s.channels.set n { s.channel n with setPoint := x, activity := a }
    units := s.units.set n
      (.waitingSlot ⟨number, d.revolutions, d.blocks, d.windows, side, none, 0, 0, (s.channel n).reference.isSome⟩)
    dossiers := s.dossiers.set n
      (((s.dossier n).peaked torque).recorded number fun r => r.requested side x (s.channel n).reference.isNone) }

theorem State.channel_captureRequested (s : State) (n : Nest) (torque : Int) (a : Activity) (number : Nat) (d : CaptureDef) (side : LoadSide)
    (x : Int) : (((s.peaked n torque).setActivity n a).captureRequested n number d side x).channel n = { s.channel n with activity := a } :=
  State.channel_setActivity (s.peaked n torque) n a

theorem State.captureRequested_sent (s : State) (n : Nest) (torque : Int) (a : Activity) (number : Nat) (d : CaptureDef) (side : LoadSide) (x : Int) :
    ({ ((s.peaked n torque).setActivity n a).captureRequested n number d side x with
      channels := (((s.peaked n torque).setActivity n a).captureRequested n number d side x).channels.set n
        { s.channel n with activity := a, setPoint := x } } : State) = s.requestSent n torque a number d side x := by
  have href : (((s.peaked n torque).setActivity n a).channel n).reference = (s.channel n).reference := by rw [State.channel_setActivity]; rfl
  rw [State.captureRequested, href]
  simp only [State.peaked, State.setActivity, State.modChannel, State.modDossier, State.dossier, PerNest.mod, PerNest.get_set_same,
    PerNest.set_set]
  rfl

/-- The dwell start of a step that names a capture: the request, its set-point, and the look for a slot. -/
theorem Dwelling.requests_slot {number : Nat} {d : CaptureDef} (h : Dwelling u p i c step s)
    (hphase : c.phase = .dwell ∨ (c.phase = .ramp ∧ step.rampUpdates ≤ c.rampCount)) (hdwell : c.dwellCount = 0) (hhold : c.holdCount = 0)
    (hlong : 1 ≤ step.dwellUpdates) (hcapture : step.capture = some number) (hdef : p.captures[number]? = some d) :
    s.driveUpdate u = (s.requestSent u.nest (s.torqueAt u) (.profiling
      { c with phase := .dwell, stepCapture := .active, holdCount := 1, computed := step.target, torqueRun := 0 })
        number d step.side step.target).lookForSlot u.nest := by
  have hchannel := State.channel_captureRequested s u.nest (s.torqueAt u) (.profiling
    { c with phase := .dwell, stepCapture := .active, holdCount := 1, computed := step.target, torqueRun := 0 }) number d step.side step.target
  have hsent := State.captureRequested_sent s u.nest (s.torqueAt u) (.profiling
    { c with phase := .dwell, stepCapture := .active, holdCount := 1, computed := step.target, torqueRun := 0 }) number d step.side step.target
  generalize hv : ((s.peaked u.nest (s.torqueAt u)).setActivity u.nest (.profiling
    { c with phase := .dwell, stepCapture := .active, holdCount := 1, computed := step.target, torqueRun := 0 })).captureRequested
      u.nest number d step.side step.target = v at hchannel hsent
  obtain ⟨slots, units, hlook, hlook'⟩ := State.lookForSlot_eq v u.nest
  have hch : (v.lookForSlot u.nest).channel u.nest = v.channel u.nest := by rw [hlook]; rfl
  rw [h.requests hphase hdwell hhold hlong hcapture hdef (congrArg (fun w : State => w.lookForSlot u.nest) hv)
    (by rw [hch, hchannel]; exact h.enable), hch, hchannel, ← hsent, hlook]
  have hsame := hlook' (v.channels.set u.nest { s.channel u.nest with
    activity := .profiling { c with phase := .dwell, stepCapture := .active, holdCount := 1, computed := step.target, torqueRun := 0 }
    setPoint := step.target })
  refine Eq.trans ?_ (State.lookForSlot_lookForSlot _ u.nest)
  rw [hsame]

/-- Settles O44: the ends of a dwell and of a hold, the request and the look for a slot, a failure and a stop during a capture. -/
theorem dwellEndsAndHoldLimit : Obligations.DwellEndsAndHoldLimit := by
  refine ⟨fun u p i c step s hs hzero hstop hact henable hclass hend hstep hlo hhi hlimit => ?_,
    fun u p i c step k b s hs hzero hstop hact henable hfar hend hstep hphase hdwell hcapture hunit hclass hlast hrec =>
      ⟨_, rfl, State.driveUpdate_overheat_sampling hs hzero hstop hact henable hfar hend hstep hphase hdwell hcapture hunit hclass hlast hrec⟩,
    fun n k b s hst hunit => ⟨_, rfl, State.guardOpened_sampling hst hunit⟩⟩
  have hdwelling : Dwelling u p i c step s := ⟨hs, hzero, hstop, hact, henable, hclass, hend, hstep, ⟨hlo, hhi⟩, hlimit⟩
  refine ⟨fun hphase hdwell hunit hcapture hstart hlast => congrArg Host.Outcome.next
    (hdwelling.ends hphase hdwell hunit hcapture hstart hlast), ?requests, ?waits, ?limit⟩
  case requests =>
    rintro number d m ch ds hphase hdwell hhold hlong hcapture hdef hunit - rfl rfl rfl
    have hupdate := hdwelling.requests_slot hphase hdwell hhold hlong hcapture hdef
    refine ⟨fun hnone => congrArg Host.Outcome.next (hupdate.trans (State.lookForSlot_waits hnone)),
      fun j hfree hlow => congrArg Host.Outcome.next (hupdate.trans ?_)⟩
    refine (State.lookForSlot_takes (by exact PerNest.get_set_same ..) (by exact hfree) (by exact hlow)).trans ?_
    simp only [State.requestSent, PerNest.set_set]
    rfl
  case waits =>
    intro k j hphase hdwell hunit hcapture hhold hlt hfree hlow
    refine congrArg Host.Outcome.next ((hdwelling.holds hphase hdwell hcapture hhold hlt).trans ?_)
    exact State.lookForSlot_takes (by exact hunit) (by exact hfree) (by exact hlow)
  case limit =>
    intro k hphase hdwell hcapture hhold hrec
    have hch := State.channel_setActivity (s.peaked u.nest (s.torqueAt u)) u.nest
      (.profiling { c with holdCount := 1000, computed := step.target, torqueRun := 0 })
    have hd : ((s.peaked u.nest (s.torqueAt u)).setActivity u.nest
      (.profiling { c with holdCount := 1000, computed := step.target, torqueRun := 0 })).dossier u.nest =
        (s.dossier u.nest).peaked (s.torqueAt u) := State.dossier_peaked ..
    have hended := Activity.captureEnded_profiling (c := { c with holdCount := 1000, computed := step.target, torqueRun := 0 }) hcapture
    refine ⟨fun hunit => congrArg Host.Outcome.next ((hdwelling.limit hphase hdwell hcapture hhold
      (State.endCapture_waiting hunit (cause := .noSlot) rfl (by rw [hd]; exact hrec)) ?_ (PerNest.get_set_same ..)).trans ?_),
      fun b hunit => congrArg Host.Outcome.next ((hdwelling.limit hphase hdwell hcapture hhold
      (State.endCapture_sampling hunit (cause := .noSlot) rfl (by rw [hd]; exact hrec)) ?_ (PerNest.get_set_same ..)).trans ?_)⟩
    case refine_1 | refine_3 =>
      refine (PerNest.get_set_same ..).trans ?_
      rw [hch, hended]
      rfl
    all_goals
      rw [State.captureGone, hd, hch, hended]
      simp only [State.peaked, State.setActivity, State.modChannel, State.modDossier, PerNest.mod, PerNest.set_set]
      rfl

end

end Sys2Proof.Machine
end

section
/-! PROOFS. The sample points of a capture. -/

namespace Sys2Proof.Machine

section
variable {s t : State} {n : Nest} {p : Plan} {i : Nat} {pr : ProfileCounters} {c k : Capture} {b : BlockInProgress} {d : Direction}
  {a : BitVec 12} {x : Int}

/-! ### A legal change during a capture (R67, R128) -/

/-- The nest with its angle counter changed. -/
def State.angled (s : State) (n : Nest) (a : BitVec 12) : State := { s with channels := s.channels.set n { s.channel n with angle := a } }

theorem State.channel_angled (s : State) (n : Nest) (a : BitVec 12) : (s.angled n a).channel n = { s.channel n with angle := a } :=
  PerNest.get_set_same ..

/-- At a multiple of 16 a change of the angle is a sample point of the profile's capture. -/
theorem State.countChange_samples {pr' : ProfileCounters} (hact : (s.channel n).activity = .profiling pr) (ha : stepAngle (s.channel n).angle d = a)
    (h16 : a.toNat % 16 = 0) (hsample : (s.angled n a).samplePoint n d = t) (ht : (t.channel n).activity = .profiling pr') :
    s.countChange n d = t := by
  have hcounted : (s.modChannel n fun ch => { ch with angle := stepAngle (s.channel n).angle d, activity := ch.activity.travelled d }) =
      s.angled n a := by
    show { s with channels := s.channels.set n { s.channel n with
      angle := stepAngle (s.channel n).angle d, activity := (s.channel n).activity.travelled d } } = _
    have htravel : (s.channel n).activity.travelled d = (s.channel n).activity := by rw [hact]; rfl
    rw [htravel, ha]
    rfl
  unfold State.countChange
  extract_lets angle counted
  have hangle : angle = a := ha
  have hcounted' : counted = s.angled n a := hcounted
  rw [hangle, if_pos h16, hcounted', hsample]
  exact State.checkTravel_of_below fun p _ => by rw [ht]; rfl

/-! ### A sample is written (R128, R131, R133) -/

/-- The block in progress with a sample at an angle taken. -/
def BlockInProgress.sampled (b : BlockInProgress) (c : Capture) (angle : Nat) (x : Int) : BlockInProgress :=
  { b with
    clipped := if isClipped x then b.clipped + 1 else b.clipped
    peaks := if c.windowsValid then applyPeaks c.windows b.peaks angle x else b.peaks }

/-- The slot of the block with a sample written. -/
def Slot.written (sl : Slot) (x : Int) : Slot := { sl with samples := sl.samples ++ [x] }

theorem State.samplePoint_with (hunit : s.captureUnit n = .sampling c b) (hdir : c.direction = none ∨ c.direction = some d) :
    s.samplePoint n d = s.writeSample n { c with direction := some d } b := by
  rcases hdir with hnone | hsome
  · simp only [State.samplePoint, hunit, hnone]
  · have hc : { c with direction := some d } = c := by rw [← hsome]
    simp only [State.samplePoint, hunit, hsome, if_true, hc]

theorem State.samplePoint_against {d' : Direction} (hunit : s.captureUnit n = .sampling c b) (hdir : c.direction = some d') (hne : d' ≠ d) :
    s.samplePoint n d = s.restartBlock n c b := by
  simp only [State.samplePoint, hunit, hdir, if_neg (Ne.symm hne)]

theorem State.slot_written (s : State) (j : Fin 4) (x : Int) :
    (s.modSlot j fun sl => { sl with samples := sl.samples ++ [x] }).slot j = (s.slot j).written x := State.slot_modSlot_same ..

/-- A sample that does not complete the block. -/
theorem State.writeSample_goes_on (hx : s.vibration.get n = x) (hfew : (s.slot b.slot).samples.length + 1 < 256 * c.revolutions) :
    s.writeSample n c b = { s with
      slots := s.slots.set b.slot ((s.slot b.slot).written x)
      units := s.units.set n (.sampling c (b.sampled c (s.channel n).angle.toNat x)) } := by
  subst hx
  unfold State.writeSample
  extract_lets x angle b' written
  have hlen : ¬blockLength c.revolutions ≤ (written.slot b.slot).samples.length := by
    rw [State.slot_written, Slot.written, List.length_append, List.length_singleton, blockLength]
    omega
  rw [if_neg hlen]
  rfl

/-- A sample that completes the block. -/
theorem State.writeSample_completes (hx : s.vibration.get n = x) (hfull : (s.slot b.slot).samples.length + 1 = 256 * c.revolutions) :
    s.writeSample n c b = ({ s with slots := s.slots.set b.slot ((s.slot b.slot).written x) } : State).completeBlock n c
      (b.sampled c (s.channel n).angle.toNat x) := by
  subst hx
  unfold State.writeSample
  extract_lets x angle b' written
  have hlen : blockLength c.revolutions ≤ (written.slot b.slot).samples.length := by
    rw [State.slot_written, Slot.written, List.length_append, List.length_singleton, blockLength]
    omega
  rw [if_pos hlen]
  rfl

/-- The peaks of a sampled block, window by window (R133). -/
theorem BlockInProgress.peaks_sampled {angle : Nat} (hlen : c.windows.length = b.peaks.length) (hdistinct : ∀ w ∈ c.windows, w.start ≠ w.stop)
    (hvalid : c.windowsValid = true) : (b.sampled c angle x).peaks.length = b.peaks.length ∧
      ∀ (j : Nat) w y, c.windows[j]? = some w → b.peaks[j]? = some y → (b.sampled c angle x).peaks[j]? =
        some (if (w.start < w.stop ∧ w.start ≤ angle ∧ angle < w.stop) ∨ (w.stop < w.start ∧ (w.start ≤ angle ∨ angle < w.stop))
          then max y x.natAbs else y) := by
  have hpeaks : (b.sampled c angle x).peaks = applyPeaks c.windows b.peaks angle x := if_pos hvalid
  rw [hpeaks, applyPeaks]
  refine ⟨by rw [List.length_map, List.length_zip, hlen, Nat.min_self], fun j w y hw hy => ?_⟩
  have hzip : (c.windows.zip b.peaks)[j]? = some (w, y) := List.getElem?_zip_eq_some.mpr ⟨hw, hy⟩
  have hne := hdistinct w (List.mem_of_getElem? hw)
  rw [List.getElem?_map, hzip, Option.map_some]
  refine congrArg some (if_congr ?_ rfl rfl)
  show w.holdsAngle angle = true ↔ _
  unfold ImpactWindow.holdsAngle
  split
  · rw [Bool.and_eq_true, decide_eq_true_iff, decide_eq_true_iff]
    omega
  · rw [Bool.or_eq_true, decide_eq_true_iff, decide_eq_true_iff]
    omega

theorem isClipped_iff : isClipped x = true ↔ x = -32768 ∨ x = 32767 := by
  rw [isClipped, Bool.or_eq_true, beq_iff_eq, beq_iff_eq]

/-! ### The completion of a block (R128, R130, R136) -/

/-- The job of a completed block. -/
def Capture.job (c : Capture) (n : Nest) (b : BlockInProgress) : Job :=
  ⟨b.slot, n, c.number, c.revolutions, c.side, if c.windowsValid then some b.peaks else none⟩

/-- A completed block in its slot, queued, its record raised, the unit to look for a further slot. -/
def State.blockQueued (s : State) (n : Nest) (c : Capture) (b : BlockInProgress) (full : Slot) : State :=
  { s with
    slots := s.slots.set b.slot full
    engine := { s.engine with queue := s.engine.queue ++ [c.job n b] }
    dossiers := s.dossiers.set n ((s.dossier n).recorded c.number fun r => r.blockCompleted b.clipped)
    units := s.units.set n (.waitingSlot { c with blocksDone := c.blocksDone + 1 }) }

theorem State.completeBlock_eq {written : Slot} : ({ s with slots := s.slots.set b.slot written } : State).completeBlock n c b =
    (if c.blocks ≤ c.blocksDone + 1 then (s.blockQueued n c b { written with state := .ready }).endCapture n .blocksDone
      else (s.blockQueued n c b { written with state := .ready }).lookForSlot n).takeJob := by
  have hslot : ({ s with slots := s.slots.set b.slot written } : State).slots[b.slot] = written := Vector.getElem_set_self ..
  have hqueued : ((((({ s with slots := s.slots.set b.slot written } : State).modSlot b.slot fun sl => { sl with state := .ready }).modEngine
      fun e => { e with queue := e.queue ++ [c.job n b] }).modCaptureRecord n c.number fun r => r.blockCompleted b.clipped).setUnit n
        (.waitingSlot { c with blocksDone := c.blocksDone + 1 })) = s.blockQueued n c b { written with state := .ready } := by
    rw [State.modSlot, hslot]
    simp only [State.modEngine, State.modCaptureRecord_eq, State.setUnit, Vector.set_set, State.blockQueued]
    rfl
  rw [← hqueued]
  rfl

theorem State.slot_blockQueued {full : Slot} (j : Fin 4) : (s.blockQueued n c b full).slot j = if j = b.slot then full else s.slot j := by
  show (s.modSlot b.slot fun _ => full).slot j = _
  exact State.slot_modSlot ..

theorem State.takeJob_of_busy (h : s.engine.current ≠ none) : s.takeJob = s := by
  unfold State.takeJob
  split
  · next hnone _ => exact absurd hnone h
  · rfl

theorem State.takeJob_takes {j : Job} {rest : List Job} (hnone : s.engine.current = none) (hqueue : s.engine.queue = j :: rest) :
    s.takeJob = { s with
      engine := ⟨rest, some j, false⟩
      slots := s.slots.set j.slot { s.slot j.slot with state := .analysing } } := by
  simp only [State.takeJob, hnone, hqueue]
  rfl

/-- The last block of a capture: the capture has ended, its record waits for its jobs (R130, R146). -/
theorem State.endCapture_blockQueued {full : Slot} (hact : (s.channel n).activity = .profiling pr)
    (hrec : ∀ r ∈ (s.dossier n).captures, r.number = c.number → r.blocksAnalysed ≤ r.blocksRequested) :
    (s.blockQueued n c b full).endCapture n .blocksDone = { s.blockQueued n c b full with
      channels := s.channels.set n { s.channel n with activity := .profiling pr.captureDone }
      units := s.units.set n .idle } := by
  have hunit : (s.blockQueued n c b full).captureUnit n = .waitingSlot { c with blocksDone := c.blocksDone + 1 } := PerNest.get_set_same ..
  have hd : (s.blockQueued n c b full).dossier n = (s.dossier n).recorded c.number fun r => r.blockCompleted b.clipped := PerNest.get_set_same ..
  have hdue : ∀ r ∈ ((s.blockQueued n c b full).dossier n).captures, r.number = c.number →
      (r.endWithoutBlock .blocksDone).due .idle = false := by
    rw [hd]
    intro r hr hnum
    obtain ⟨r₀, hr₀, rfl⟩ := List.mem_map.mp hr
    have hnum₀ : r₀.number = c.number := by
      by_contra hne
      rw [if_neg hne] at hnum
      exact hne hnum
    have hle := hrec r₀ hr₀ hnum₀
    rw [if_pos hnum₀]
    have hnot : (r₀.blocksAnalysed == r₀.blocksRequested + 1) = false := beq_eq_false_iff_ne.mpr (by omega)
    simp [CaptureRecord.endWithoutBlock, CaptureEnd.cause, CaptureRecord.due, CaptureRecord.blockCompleted, hnot]
  simp only [State.endCapture, hunit]
  have hsame := Dossier.recorded_self (d := (s.blockQueued n c b full).dossier n) (number := c.number)
    (f := fun r => r.endWithoutBlock .blocksDone) fun _ _ _ => rfl
  rw [State.finishCapture_eq (by decide) hdue, hsame, State.dossier, PerNest.set_get]
  have hch : (s.blockQueued n c b full).channel n = s.channel n := rfl
  rw [hch, hact]
  simp only [State.blockQueued, PerNest.set_set]
  rfl

/-! ### A sample point against the capture's direction (R129, R132) -/

theorem State.restartBlock_empty (h : (s.slot b.slot).samples = []) : s.restartBlock n c b = s := if_pos h

theorem State.restartBlock_again (h : (s.slot b.slot).samples ≠ []) (hfew : c.restarts < 2) : s.restartBlock n c b = { s with
    slots := s.slots.set b.slot { s.slot b.slot with samples := [] }
    units := s.units.set n (.sampling { c with restarts := c.restarts + 1 } ⟨b.slot, 0, c.windows.map fun _ => 0⟩)
    dossiers := s.dossiers.set n ((s.dossier n).recorded c.number fun r => { r with restarts := r.restarts + 1 }) } := by
  have hnot : ¬3 ≤ c.restarts + 1 := by omega
  refine (if_neg h).trans ((if_neg hnot).trans ?_)
  rfl

/-- The third restart ends the capture. -/
theorem State.restartBlock_third (h : (s.slot b.slot).samples ≠ []) (hthird : c.restarts = 2) (hact : (s.channel n).activity = .profiling pr)
    (hrec : ∀ r ∈ (s.dossier n).captures, r.number = c.number → r.blocksRequested = 0 ∧ r.given = none) :
    s.restartBlock n c b = { s with
      channels := s.channels.set n { s.channel n with activity := .profiling pr.captureDone }
      slots := s.slots.set b.slot ⟨.free, false, none, []⟩
      units := s.units.set n .idle
      dossiers := s.dossiers.set n
        ((s.dossier n).recorded c.number fun r => { r with restarts := r.restarts + 1, given := some ⟨.notMeasured, .unsteady⟩ }) } := by
  have hthree : 3 ≤ c.restarts + 1 := by omega
  refine (if_neg h).trans ((if_pos hthree).trans ?_)
  generalize hv : ((s.modCaptureRecord n c.number fun r => { r with restarts := r.restarts + 1 }).setUnit n
    (.sampling { c with restarts := c.restarts + 1 } b)) = v
  have hunit : v.captureUnit n = .sampling { c with restarts := c.restarts + 1 } b := by
    rw [← hv]
    exact PerNest.get_set_same ..
  have hd : v.dossier n = (s.dossier n).recorded c.number fun r => { r with restarts := r.restarts + 1 } := by
    rw [← hv]
    exact PerNest.get_set_same ..
  have hch : v.channel n = s.channel n := by
    rw [← hv]
    rfl
  have hpending : ∀ r ∈ (v.dossier n).captures, r.number = c.number → r.blocksRequested = 0 ∧ r.given = none := by
    rw [hd]
    intro r hr hnum
    obtain ⟨r₀, hr₀, rfl⟩ := List.mem_map.mp hr
    by_cases hnum₀ : r₀.number = c.number
    · rw [if_pos hnum₀]
      exact hrec r₀ hr₀ hnum₀
    · rw [if_neg hnum₀] at hnum
      exact absurd hnum hnum₀
  have htwice := Dossier.recorded_recorded (d := s.dossier n) (number := c.number) (f := fun r => { r with restarts := r.restarts + 1 })
    (g := fun r => { r with given := some ⟨.notMeasured, .unsteady⟩ }) fun _ => rfl
  rw [State.endCapture_sampling hunit (cause := .unsteady) rfl hpending, State.captureGone, hd, hch, hact, htwice]
  subst hv
  simp only [State.modCaptureRecord_eq, State.setUnit, PerNest.set_set]
  rfl

/-! ### The sample point's cases, for a state whose angle has been counted -/

/-- The slot of a block that its last sample completes. -/
def Slot.completed (sl : Slot) (x : Int) : Slot := { sl.written x with state := .ready }

theorem State.samplePoint_goes_on (hunit : s.captureUnit n = .sampling c b) (hdir : c.direction = none ∨ c.direction = some d)
    (hangle : (s.channel n).angle = a) (hx : s.vibration.get n = x) (hfew : (s.slot b.slot).samples.length + 1 < 256 * c.revolutions) :
    s.samplePoint n d = { s with
      slots := s.slots.set b.slot ((s.slot b.slot).written x)
      units := s.units.set n (.sampling { c with direction := some d } (b.sampled c a.toNat x)) } := by
  subst hangle
  rw [State.samplePoint_with hunit hdir, State.writeSample_goes_on (c := { c with direction := some d }) hx hfew]
  rfl

theorem State.samplePoint_completes (hunit : s.captureUnit n = .sampling c b) (hdir : c.direction = none ∨ c.direction = some d)
    (hangle : (s.channel n).angle = a) (hx : s.vibration.get n = x) (hfull : (s.slot b.slot).samples.length + 1 = 256 * c.revolutions)
    (ht : s.blockQueued n { c with direction := some d } (b.sampled c a.toNat x) ((s.slot b.slot).completed x) = t) :
    s.samplePoint n d = (if c.blocks ≤ c.blocksDone + 1 then t.endCapture n .blocksDone else t.lookForSlot n).takeJob := by
  subst hangle ht
  rw [State.samplePoint_with hunit hdir, State.writeSample_completes (c := { c with direction := some d }) hx hfull]
  exact State.completeBlock_eq (b := b.sampled c (s.channel n).angle.toNat x)

/-- No slot is FREE for the further block: the unit waits. -/
theorem State.lookForSlot_blockQueued_waits {full : Slot} (hfull : full.state = .ready)
    (hnone : ∀ i, i ≠ b.slot → (s.slot i).state ≠ .free) : (s.blockQueued n c b full).lookForSlot n = s.blockQueued n c b full := by
  refine State.lookForSlot_waits fun i => ?_
  rw [State.slot_blockQueued]
  split
  · rw [hfull]
    decide
  · next hne => exact hnone i hne

/-- The further block takes the lowest FREE slot (R135). -/
theorem State.lookForSlot_blockQueued_takes {full : Slot} {i : Fin 4} (hfull : full.state = .ready) (hfree : (s.slot i).state = .free)
    (hne : i ≠ b.slot) (hlow : ∀ j, j < i → j ≠ b.slot → (s.slot j).state ≠ .free) :
    (s.blockQueued n c b full).lookForSlot n = { s.blockQueued n c b full with
      slots := (s.slots.set b.slot full).set i ⟨.filling, false, some ⟨n, c.number, c.revolutions, c.side⟩, []⟩
      units := s.units.set n (.sampling { c with blocksDone := c.blocksDone + 1 } ⟨i, 0, c.windows.map fun _ => 0⟩) } := by
  have hunit : (s.blockQueued n c b full).captureUnit n = .waitingSlot { c with blocksDone := c.blocksDone + 1 } := PerNest.get_set_same ..
  have hslot : ((s.blockQueued n c b full).slot i).state = .free := by
    rw [State.slot_blockQueued, if_neg hne]
    exact hfree
  have hlower : ∀ j, j < i → ((s.blockQueued n c b full).slot j).state ≠ .free := by
    intro j hj
    rw [State.slot_blockQueued]
    split
    · rw [hfull]
      decide
    · next hjne => exact hlow j hj hjne
  rw [State.lookForSlot_takes hunit hslot hlower]
  simp only [State.blockQueued, PerNest.set_set]

/-- The sole job in an idle engine: the engine has taken it (R136). -/
theorem State.takeJob_sole {j : Job} {full : Slot} {slots : Vector Slot 4} (hnone : s.engine.current = none) (hqueue : s.engine.queue = [j])
    (hslots : s.slots = slots.set j.slot full) : s.takeJob = { s with
      engine := ⟨[], some j, false⟩
      slots := slots.set j.slot { full with state := .analysing } } := by
  have hslot : s.slot j.slot = full := by
    rw [State.slot, hslots]
    exact Vector.getElem_set_self ..
  rw [State.takeJob_takes hnone hqueue, hslot, hslots, Vector.set_set]

/-! ### An encoder fault during a capture (R68, R131) -/

theorem State.referenceLost_sampling (hunit : s.captureUnit n = .sampling c b) : s.referenceLost n = { s with
    units := s.units.set n (.sampling { c with windowsValid := false } { b with peaks := b.peaks.map fun _ => 0 })
    dossiers := s.dossiers.set n ((s.dossier n).recorded c.number fun r => { r with unmeasured := true }) } := by
  simp only [State.referenceLost, hunit]
  rfl

/-- An encoder fault during a capture, its report apart: the reference cleared, the record marked windows-unmeasured. -/
def State.captureFaulted (s : State) (n : Nest) (c : Capture) (b : BlockInProgress) : State := { s with
  channels := s.channels.set n { s.channel n with reference := none }
  units := s.units.set n (.sampling { c with windowsValid := false } { b with peaks := b.peaks.map fun _ => 0 })
  dossiers := s.dossiers.set n ((s.dossier n).recorded c.number fun r => { r with unmeasured := true }) }

theorem State.encoderFault_sampling (hunit : s.captureUnit n = .sampling c b) (htest : (s.dossier n).state = .testing)
    (hact : (s.channel n).activity ≠ .idle) :
    ∃ i w, s.encoderFault n = (({ s.captureFaulted n c b with interlock := i, bench := w } : State).failRunIn n .encoderFault).stageStop n := by
  obtain ⟨i, w, hreport⟩ := (s.captureFaulted n c b).reportFault_frame n .encoderFault
  refine ⟨i, w, ?_⟩
  have hlost : (s.modChannel n fun ch => { ch with reference := none }).referenceLost n = s.captureFaulted n c b :=
    State.referenceLost_sampling (s := s.modChannel n fun ch => { ch with reference := none }) hunit
  have hstage : State.driveStageInProgress { s.captureFaulted n c b with interlock := i, bench := w } n = true := by
    refine State.driveStageInProgress_iff.mpr ⟨?_, ?_⟩
    · refine (congrArg Dossier.state (PerNest.get_set_same ..)).trans htest
    · intro h
      exact hact ((congrArg Channel.activity (PerNest.get_set_same s.channels n { s.channel n with reference := none })).symm.trans h)
  unfold State.encoderFault
  extract_lets v
  have hv : v = { s.captureFaulted n c b with interlock := i, bench := w } := (congrArg (fun u => State.reportFault u n .encoderFault) hlost).trans hreport
  rw [hv, if_pos hstage]

/-- An encoder fault of a capture without a block: withdrawn with the run-in failure, its record SKIPPED and windows-unmeasured. -/
theorem State.encoderFault_withdraws (hs : s.stageIs n p i .profile) (hlast : ∀ j : Nat, i < j → p.stages[j]? ≠ some .profile)
    (hunit : s.captureUnit n = .sampling c b) (hact : (s.channel n).activity = .profiling pr) (hcapture : pr.stepCapture = .active)
    (henable : (s.channel n).enable = true)
    (hrec : ∀ r ∈ (s.dossier n).captures, r.number = c.number → r.blocksRequested = 0 ∧ r.given = none) :
    s.runInFailed (s.encoderFault n) n .encoderFault ∧
      (s.encoderFault n).channel n =
        { s.channel n with reference := none, stopping := true, activity := .profiling { pr with stepCapture := .ended } } ∧
      (s.encoderFault n).captureUnit n = .idle ∧ (s.encoderFault n).slots = s.slots.set b.slot ⟨.free, false, none, []⟩ ∧
      ((s.encoderFault n).dossier n).captures =
        ((s.dossier n).recorded c.number fun r => { r with unmeasured := true, given := some ⟨.notMeasured, .skipped⟩ }).captures := by
  obtain ⟨htest, hplan, hindex, -⟩ := hs
  obtain ⟨il, w, hfault⟩ := State.encoderFault_sampling hunit htest (by rw [hact]; exact fun h => nomatch h)
  rw [hfault]
  generalize hv : ({ s.captureFaulted n c b with interlock := il, bench := w } : State) = v
  have hd : v.dossier n = (s.dossier n).recorded c.number fun r => { r with unmeasured := true } := by
    rw [← hv]
    exact PerNest.get_set_same ..
  have hch : v.channel n = { s.channel n with reference := none } := by
    rw [← hv]
    exact PerNest.get_set_same ..
  have hvu : v.captureUnit n = .sampling { c with windowsValid := false } { b with peaks := b.peaks.map fun _ => 0 } := by
    rw [← hv]
    exact PerNest.get_set_same ..
  have hvp : v.planOf n = some p := by
    rw [State.planOf, hd, ← hv]
    exact hplan
  have hvrec : ∀ r ∈ (v.dossier n).captures, r.number = c.number → r.blocksRequested = 0 ∧ r.given = none := by
    rw [hd]
    intro r hr hnum
    obtain ⟨r₀, hr₀, rfl⟩ := List.mem_map.mp hr
    by_cases hnum₀ : r₀.number = c.number
    · rw [if_pos hnum₀]
      exact hrec r₀ hr₀ hnum₀
    · rw [if_neg hnum₀] at hnum
      exact absurd hnum hnum₀
  obtain ⟨skipped, hfail⟩ := State.failRunIn_sampling (cause := .encoderFault) hvp (by rw [hd]; exact hindex) hlast (by rw [hch]; exact hact)
    hcapture hvu hvrec
  have hfch : (v.failRunIn n .encoderFault).channel n =
      { s.channel n with reference := none, activity := .profiling { pr with stepCapture := .ended } } := by
    rw [hfail, State.channel, PerNest.get_set_same, hch]
  have hstop : (v.failRunIn n .encoderFault).stageStop n = (v.failRunIn n .encoderFault).modChannel n Channel.controlledStop :=
    if_pos (by rw [hfch]; exact henable)
  have hfd : ((v.failRunIn n .encoderFault).dossier n).captures =
      ((v.dossier n).recorded c.number fun r => { r with given := some ⟨.notMeasured, .skipped⟩ }).captures := by
    rw [hfail, State.dossier, PerNest.get_set_same]
  have htwice := Dossier.recorded_recorded (d := s.dossier n) (number := c.number) (f := fun r => { r with unmeasured := true })
    (g := fun r => { r with given := some ⟨.notMeasured, .skipped⟩ }) fun _ => rfl
  rw [hstop]
  refine ⟨State.runInFailed_of_given ?_, ?_, ?_, ?_, hfd.trans ?_⟩
  · refine (State.runIn_failRunIn v n .encoderFault).trans ?_
    rw [hd]
    rfl
  · rw [State.channel_modChannel_same, hfch]
    exact congrArg (fun on => ({ s.channel n with
      reference := none, stopping := on, activity := .profiling { pr with stepCapture := .ended } } : Channel)) henable
  · rw [hfail]
    exact PerNest.get_set_same ..
  · rw [hfail, ← hv]
    rfl
  · rw [hd, htwice]
    rfl

end

/-- Settles O48: a sample point in the capture's direction writes the block, which goes on, is queued with a further slot or without, or ends
the capture; one against it restarts the block; an encoder fault withdraws the capture. -/
theorem samplePointWritesTheBlock : Obligations.SamplePointWritesTheBlock := by
  refine ⟨fun n d c b pr e a x s hunit hact he ha h16 hx => ?_, ?_⟩
  · have hangle : stepAngle (s.channel n).angle d = a := by
      subst ha
      cases d <;> rfl
    have hexec : exec (.encoderChange ⟨n, e⟩) s = .next (s.countChange n d) := by
      subst he
      cases d <;> rfl
    have hch : (s.angled n a).channel n = { s.channel n with angle := a } := s.channel_angled n a
    have hnext {t : State} {pr' : ProfileCounters} (hsample : (s.angled n a).samplePoint n d = t)
        (ht : (t.channel n).activity = .profiling pr') : exec (.encoderChange ⟨n, e⟩) s = .next t :=
      hexec.trans (congrArg _ (State.countChange_samples hact hangle h16 hsample ht))
    refine ⟨fun hdir hlen hdistinct => ?_, fun d' hdir hne => ⟨fun hempty => ?_, fun hsome hfew => ?_, fun hsome hthird hrec => ?_⟩⟩
    · refine ⟨b.sampled c a.toNat x, rfl, if_congr isClipped_iff rfl rfl, fun hinvalid => if_neg (by rw [hinvalid]; decide),
        BlockInProgress.peaks_sampled hlen hdistinct, fun hfew => ?_, fun job full ds hfull hjob hready hds => ?_⟩
      · refine hnext (pr' := pr) ?_ ?_
        · exact State.samplePoint_goes_on (s := s.angled n a) hunit hdir (by rw [hch]) hx hfew
        · exact (congrArg Channel.activity hch).trans hact
      · subst hjob hready hds
        generalize hv : (s.angled n a).blockQueued n { c with direction := some d } (b.sampled c a.toNat x) ((s.slot b.slot).completed x) = v
        have hpoint := State.samplePoint_completes (s := s.angled n a) hunit hdir (by rw [hch]) hx hfull hv
        refine ⟨fun hmore hnone hbusy => ?_, fun i hmore hfree hi hlow hbusy => ?_, fun hdone hrec => ⟨fun hbusy => ?_, fun hidle hempty => ?_⟩⟩
        · rw [if_neg (by omega), ← hv, State.lookForSlot_blockQueued_waits (s := s.angled n a) (b := b.sampled c a.toNat x) rfl hnone] at hpoint
          exact hnext (hpoint.trans (State.takeJob_of_busy (by exact hbusy))) ((congrArg Channel.activity hch).trans hact)
        · rw [if_neg (by omega), ← hv, State.lookForSlot_blockQueued_takes (s := s.angled n a) (b := b.sampled c a.toNat x) rfl hfree hi hlow] at hpoint
          exact hnext (hpoint.trans (State.takeJob_of_busy (by exact hbusy))) ((congrArg Channel.activity hch).trans hact)
        · rw [if_pos hdone, ← hv, State.endCapture_blockQueued (s := s.angled n a) (c := { c with direction := some d }) (by rw [hch]; exact hact) hrec, hch]
            at hpoint
          have hbusy' := hpoint.trans (State.takeJob_of_busy (by exact hbusy))
          refine (hnext hbusy' (congrArg Channel.activity (PerNest.get_set_same ..))).trans (congrArg Host.Outcome.next ?_)
          simp only [State.blockQueued, State.angled, PerNest.set_set]
          rfl
        · rw [if_pos hdone, ← hv, State.endCapture_blockQueued (s := s.angled n a) (c := { c with direction := some d }) (by rw [hch]; exact hact) hrec, hch]
            at hpoint
          have hsole := hpoint.trans (State.takeJob_sole (j := Capture.job { c with direction := some d } n (b.sampled c a.toNat x))
            (full := (s.slot b.slot).completed x) (slots := s.slots) (by exact hidle) (by exact congrArg (· ++ [_]) hempty) rfl)
          refine (hnext hsole (congrArg Channel.activity (PerNest.get_set_same ..))).trans (congrArg Host.Outcome.next ?_)
          simp only [State.blockQueued, State.angled, PerNest.set_set]
          rfl
    · have hsame := State.restartBlock_empty (s := s.angled n a) (n := n) (c := c) hempty
      exact hnext ((State.samplePoint_against (s := s.angled n a) hunit hdir hne).trans hsame) ((congrArg Channel.activity hch).trans hact)
    · have hagain := State.restartBlock_again (s := s.angled n a) (n := n) hsome hfew
      exact hnext ((State.samplePoint_against (s := s.angled n a) hunit hdir hne).trans hagain) ((congrArg Channel.activity hch).trans hact)
    · have hthree := State.restartBlock_third (s := s.angled n a) (n := n) hsome hthird (by rw [hch]; exact hact) hrec
      rw [hch] at hthree
      refine (hnext ((State.samplePoint_against (s := s.angled n a) hunit hdir hne).trans hthree) (congrArg Channel.activity (PerNest.get_set_same ..))).trans
        (congrArg Host.Outcome.next ?_)
      simp only [State.angled, PerNest.set_set]
      rfl
  · intro n p i c b pr s hs hlast hunit hact hcapture henable _ hrec
    exact ⟨_, rfl, State.encoderFault_withdraws hs hlast hunit hact hcapture henable hrec⟩

end Sys2Proof.Machine
end

section
/-! PROOFS. The completion of an analysis job: slot, engine and merge. -/

namespace Sys2Proof.Machine

section
variable {s t u : State} {n : Nest} {j : Job} {i : Fin 4} {d : CaptureDef} {r : CaptureRecord}

/-! ### The slot a job gives back (R120) -/

/-- What a slot that leaves READY or ANALYSING becomes. -/
def Slot.givenBack (sl : Slot) : Slot := if sl.pinMark then { sl with state := .pinned, pinMark := false } else ⟨.free, false, none, []⟩

/-- The machine with a job's slot given back and the engine idle. -/
def State.jobLeft (s : State) (i : Fin 4) : State := (s.giveBackSlot i).modEngine fun e => { e with current := none, discard := false }

theorem State.jobLeft_eq (s : State) (i : Fin 4) : ∃ causes, s.jobLeft i = { s with
    slots := s.slots.set i (s.slot i).givenBack
    engine := ⟨s.engine.queue, none, false⟩
    bench := { s.bench with causes := causes } } := by
  by_cases hmark : (s.slot i).pinMark = true
  · refine ⟨s.bench.causes ||| AttentionCause.bit .pinnedReady, ?_⟩
    rw [State.jobLeft, State.giveBackSlot, Slot.givenBack, if_pos hmark, if_pos hmark]
    rfl
  · refine ⟨s.bench.causes, ?_⟩
    rw [State.jobLeft, State.giveBackSlot, Slot.givenBack, if_neg hmark, if_neg hmark]
    rfl

theorem State.isPending_jobLeft (hmark : (s.slot i).pinMark = true) : (s.jobLeft i).bench.isPending .pinnedReady = true := by
  rw [State.jobLeft, State.giveBackSlot, if_pos hmark]
  exact isPending_raise _ _

theorem State.jobComplete_discarded (hcurrent : s.engine.current = some j) (hdiscard : s.engine.discard = true) :
    s.jobComplete = (s.jobLeft j.slot).takeJob := by
  simp only [State.jobComplete, hcurrent, hdiscard, if_true]
  rfl

theorem State.jobComplete_merged (hcurrent : s.engine.current = some j) (hdiscard : s.engine.discard = false) :
    s.jobComplete = (((s.mergeJob j).jobLeft j.slot).checkTested j.owner).takeJob := by
  simp only [State.jobComplete, hcurrent, hdiscard, Bool.false_eq_true, if_false]
  rfl

/-! ### The engine takes the next job (R136) -/

theorem State.takeJob_eq (s : State) : ∃ slots engine, s.takeJob = { s with slots := slots, engine := engine } := by
  unfold State.takeJob
  split
  · exact ⟨_, _, rfl⟩
  · exact ⟨s.slots, s.engine, rfl⟩

theorem State.takeJob_of_empty (hqueue : s.engine.queue = []) : s.takeJob = s := by
  unfold State.takeJob
  split
  · next hjob => exact absurd (hqueue.symm.trans hjob) (List.cons_ne_nil _ _).symm
  · rfl

/-- The slots and the engine after a job has given back its slot and the engine has taken the next one. -/
theorem State.takeJob_after {queue : List Job} {sl : Slot} (hengine : u.engine = ⟨queue, none, false⟩) (hslots : u.slots = s.slots.set i sl)
    (hothers : ∀ k ∈ queue, k.slot ≠ i) : u.takeJob.slot i = sl ∧
      (queue = [] → u.takeJob.engine = ⟨[], none, false⟩ ∧ ∀ i', i' ≠ i → u.takeJob.slot i' = s.slot i') ∧
      ∀ k rest, queue = k :: rest → u.takeJob.engine = ⟨rest, some k, false⟩ ∧
        u.takeJob.slot k.slot = { s.slot k.slot with state := .analysing } ∧
        ∀ i', i' ≠ i → i' ≠ k.slot → u.takeJob.slot i' = s.slot i' := by
  have hslot (i' : Fin 4) : u.slot i' = if i' = i then sl else s.slot i' := by
    rw [← State.slot_modSlot (s := s) (i := i) (f := fun _ => sl) (j := i'), State.slot, hslots]
    rfl
  cases queue with
  | nil =>
    rw [State.takeJob_of_empty (s := u) (by rw [hengine])]
    refine ⟨(hslot i).trans (if_pos rfl), fun _ => ⟨hengine, fun i' hi => (hslot i').trans (if_neg hi)⟩, fun k rest h => nomatch h⟩
  | cons k rest =>
    have hk := hothers k List.mem_cons_self
    have htaken : u.takeJob = { u with
        engine := ⟨rest, some k, false⟩, slots := u.slots.set k.slot { u.slot k.slot with state := .analysing } } :=
      State.takeJob_takes (by rw [hengine]) (by rw [hengine])
    have hafter (i' : Fin 4) : u.takeJob.slot i' = if i' = k.slot then { u.slot k.slot with state := .analysing } else u.slot i' := by
      rw [htaken, ← State.slot_modSlot (s := u) (i := k.slot) (f := fun sl => { sl with state := .analysing }) (j := i')]
      rfl
    refine ⟨?_, fun h => absurd h (List.cons_ne_nil _ _), fun k' rest' h => ?_⟩
    · rw [hafter, if_neg (Ne.symm hk), hslot, if_pos rfl]
    · obtain ⟨rfl, rfl⟩ := List.cons.inj h
      refine ⟨by rw [htaken], ?_, fun i' hi hik => ?_⟩
      · rw [hafter, if_pos rfl, hslot, if_neg hk]
      · rw [hafter, if_neg hik, hslot, if_neg hi]

/-! ### The merge of a block into its record (R145, R146) -/

/-- A record with a block merged, judged if that was the last one due. -/
def CaptureRecord.merged (r : CaptureRecord) (d : CaptureDef) (j : Job) (samples : List Int) (unit : CaptureUnit) : CaptureRecord :=
  let m := r.mergeBlock d j samples
  if m.due unit then { m with given := giveResult m.given (m.judgment d) } else m

theorem State.mergeJob_eq (hdef : s.captureDef j.owner j.number = some d) : s.mergeJob j = { s with
    dossiers := s.dossiers.set j.owner ((s.dossier j.owner).recorded j.number fun r =>
      r.merged d j (s.slot j.slot).samples (s.captureUnit j.owner)) } := by
  simp only [State.mergeJob, hdef]
  generalize hv : (s.modCaptureRecord j.owner j.number fun r => r.mergeBlock d j (s.slot j.slot).samples) = v
  have hd : v.dossier j.owner = (s.dossier j.owner).recorded j.number fun r => r.mergeBlock d j (s.slot j.slot).samples := by
    rw [← hv]
    exact PerNest.get_set_same ..
  have hplan : v.captureDef j.owner j.number = some d := by
    rw [State.captureDef, State.planOf, hd, ← hv]
    exact hdef
  have htwice := Dossier.recorded_recorded (d := s.dossier j.owner) (number := j.number)
    (f := fun r => r.mergeBlock d j (s.slot j.slot).samples)
    (g := fun r => if r.due (v.captureUnit j.owner) then { r with given := giveResult r.given (r.judgment d) } else r) fun _ => rfl
  simp only [State.judgeCapture, hplan]
  rw [State.modCaptureRecord_eq, hd, htwice, ← hv, State.modCaptureRecord_eq, PerNest.set_set]
  rfl

theorem State.mergeJob_frame (s : State) (j : Job) : ∃ captures, s.mergeJob j = { s with
    dossiers := s.dossiers.set j.owner { s.dossier j.owner with captures := captures } } := by
  cases hdef : s.captureDef j.owner j.number with
  | some d => exact ⟨_, State.mergeJob_eq hdef⟩
  | none =>
    refine ⟨(s.dossier j.owner).captures, ?_⟩
    have hsame : s.mergeJob j = s := by simp only [State.mergeJob, hdef]
    have hd : s.dossiers.set j.owner (s.dossier j.owner) = s.dossiers := PerNest.set_get ..
    exact hsame.trans (congrArg (fun ds => { s with dossiers := ds }) hd).symm

theorem mergeLines_length (revolutions : Nat) (side : LoadSide) (samples : List Int) (ls : List OrderLine) (es : List LineEntry) :
    (mergeLines revolutions side samples ls es).length = es.length := by
  induction ls generalizing es with
  | nil => rfl
  | cons l ls ih =>
    cases es with
    | nil => rfl
    | cons e es => exact congrArg Nat.succ (ih es)

theorem mergeLines_getElem? (revolutions : Nat) (side : LoadSide) (samples : List Int) {ls : List OrderLine} {es : List LineEntry} {k : Nat}
    {l : OrderLine} {e : LineEntry} (hl : ls[k]? = some l) (he : es[k]? = some e) :
    (mergeLines revolutions side samples ls es)[k]? = some (e.merge (l.limit side) (lineAmplitude revolutions l.q samples)) := by
  induction ls generalizing es k with
  | nil => exact nomatch hl
  | cons l' ls ih =>
    cases es with
    | nil => exact nomatch he
    | cons e' es =>
      cases k with
      | zero =>
        obtain rfl : l' = l := Option.some.inj hl
        obtain rfl : e' = e := Option.some.inj he
        rfl
      | succ k => exact ih hl he

theorem CaptureRecord.windows_mergeBlock_of_peaks {samples : List Int} {peaks : List Nat} (hpeaks : j.peaks = some peaks)
    (hmeasured : r.unmeasured = false) : (r.mergeBlock d j samples).windows = (r.windows.zip peaks).map fun x => max x.1 x.2 := by
  simp [CaptureRecord.mergeBlock, hpeaks, hmeasured]

theorem CaptureRecord.windows_mergeBlock_of_none {samples : List Int} (h : j.peaks = none ∨ r.unmeasured = true) :
    (r.mergeBlock d j samples).windows = r.windows := by
  rcases h with hnone | hunmeasured
  · simp [CaptureRecord.mergeBlock, hnone]
  · cases hpeaks : j.peaks with
    | none => simp [CaptureRecord.mergeBlock, hpeaks]
    | some peaks => simp [CaptureRecord.mergeBlock, hpeaks, hunmeasured]

theorem CaptureRecord.windows_mergeBlock_length {samples : List Int} (hpeaks : ∀ peaks, j.peaks = some peaks → peaks.length = r.windows.length) :
    (r.mergeBlock d j samples).windows.length = r.windows.length := by
  by_cases h : j.peaks = none ∨ r.unmeasured = true
  · rw [CaptureRecord.windows_mergeBlock_of_none h]
  · obtain ⟨hsome, hmeasured⟩ := not_or.mp h
    obtain ⟨peaks, hp⟩ := Option.ne_none_iff_exists'.mp hsome
    rw [CaptureRecord.windows_mergeBlock_of_peaks hp (Bool.eq_false_iff.mpr hmeasured), List.length_map, List.length_zip, hpeaks peaks hp,
      Nat.min_self]

/-- A window's maximum above its limit, window by window (R147). -/
theorem windowExceeded_iff {windows : List ImpactWindow} {peaks : List Nat} :
    windowExceeded windows peaks = true ↔ ∃ (k : Nat) (w : ImpactWindow) (x : Nat),
      windows[k]? = some w ∧ peaks[k]? = some x ∧ w.peakLimit < x := by
  rw [windowExceeded, List.any_eq_true]
  constructor
  · rintro ⟨⟨w, x⟩, hmem, hlimit⟩
    obtain ⟨k, hk⟩ := List.mem_iff_getElem?.mp hmem
    obtain ⟨hw, hx⟩ := List.getElem?_zip_eq_some.mp hk
    exact ⟨k, w, x, hw, hx, of_decide_eq_true hlimit⟩
  · rintro ⟨k, w, x, hw, hx, hlimit⟩
    exact ⟨(w, x), List.mem_iff_getElem?.mpr ⟨k, List.getElem?_zip_eq_some.mpr ⟨hw, hx⟩⟩, decide_eq_true hlimit⟩

theorem CaptureUnit.holds_iff {unit : CaptureUnit} {number : Nat} :
    unit.holds number = true ↔ ∃ c, (unit = .waitingSlot c ∨ ∃ b, unit = .sampling c b) ∧ c.number = number := by
  cases unit with
  | idle => exact ⟨nofun, fun ⟨_, h, _⟩ => h.elim nofun fun ⟨_, h⟩ => nomatch h⟩
  | waitingSlot c =>
    refine beq_iff_eq.trans ⟨fun h => ⟨c, .inl rfl, h⟩, fun ⟨c', h, hnum⟩ => ?_⟩
    obtain rfl : c = c' := h.elim CaptureUnit.waitingSlot.inj fun ⟨_, h⟩ => nomatch h
    exact hnum
  | sampling c b =>
    refine beq_iff_eq.trans ⟨fun h => ⟨c, .inr ⟨b, rfl⟩, h⟩, fun ⟨c', h, hnum⟩ => ?_⟩
    obtain rfl : c = c' := h.elim (fun h => nomatch h) fun ⟨_, h⟩ => (CaptureUnit.sampling.inj h).1
    exact hnum

/-- Merging leaves a record pending unless it is due (R146). -/
theorem CaptureRecord.merged_of_not_due {samples : List Int} {unit : CaptureUnit} (h : (r.mergeBlock d j samples).due unit = false) :
    r.merged d j samples unit = r.mergeBlock d j samples := if_neg (Bool.eq_false_iff.mp h)

theorem CaptureRecord.merged_of_due {samples : List Int} {unit : CaptureUnit} (h : (r.mergeBlock d j samples).due unit = true)
    (hpending : r.given = none) : r.merged d j samples unit =
      { r.mergeBlock d j samples with given := some ((r.mergeBlock d j samples).judgment d) } := by
  have hgiven : (r.mergeBlock d j samples).given = none := hpending
  refine (if_pos h).trans ?_
  rw [hgiven]
  rfl

/-- A merged record is due when that was the last requested block and no capture of its number is in progress. -/
theorem CaptureRecord.due_mergeBlock {samples : List Int} {unit : CaptureUnit} (hpending : r.given = none) :
    (r.mergeBlock d j samples).due unit = true ↔ r.blocksAnalysed + 1 = r.blocksRequested ∧ unit.holds r.number = false := by
  have hgiven : (r.mergeBlock d j samples).given = none := hpending
  have hanalysed : (r.mergeBlock d j samples).blocksAnalysed = r.blocksAnalysed + 1 := rfl
  have hrequested : (r.mergeBlock d j samples).blocksRequested = r.blocksRequested := rfl
  have hnumber : (r.mergeBlock d j samples).number = r.number := rfl
  simp [CaptureRecord.due, hgiven, hanalysed, hrequested, hnumber]

theorem CaptureRecord.merged_eq (r : CaptureRecord) (d : CaptureDef) (j : Job) (samples : List Int) (unit : CaptureUnit) :
    ∃ given, r.merged d j samples unit = { r.mergeBlock d j samples with given := given } := by
  unfold CaptureRecord.merged
  extract_lets m
  split
  · exact ⟨_, rfl⟩
  · exact ⟨m.given, rfl⟩

/-- The first check of R147 that fails gives the result. -/
theorem CaptureRecord.judgment_cases (r : CaptureRecord) (d : CaptureDef) :
    (r.overload = true → r.judgment d = failed .overload) ∧
      (r.overload = false → (∃ e ∈ r.lines, e.exceeded = true) → r.judgment d = failed .orderLimit) ∧
      (r.overload = false → (∀ e ∈ r.lines, e.exceeded = false) →
        (d.overallLimit < r.overallMax.getD 0 → r.judgment d = failed .overallLimit) ∧
        (r.overallMax.getD 0 ≤ d.overallLimit →
          (r.unmeasured = true ∨ windowExceeded d.windows r.windows = false → r.judgment d = passed) ∧
          (r.unmeasured = false → windowExceeded d.windows r.windows = true → r.judgment d = failed .windowLimit))) := by
  have hlines : (r.lines.any fun l => l.exceeded) = true ↔ ∃ e ∈ r.lines, e.exceeded = true := List.any_eq_true
  unfold CaptureRecord.judgment
  refine ⟨fun h => if_pos h, fun hno hsome => ?_, fun hno hnone => ?_⟩
  · rw [if_neg (Bool.eq_false_iff.mp hno), if_pos (hlines.mpr hsome)]
  · have hwithin : ¬(r.lines.any fun l => l.exceeded) = true := fun h => by
      obtain ⟨e, he, hex⟩ := hlines.mp h
      exact Bool.eq_false_iff.mp (hnone e he) hex
    rw [if_neg (Bool.eq_false_iff.mp hno), if_neg hwithin]
    refine ⟨fun hover => if_pos hover, fun hlevel => ?_⟩
    rw [if_neg (Nat.not_lt.mpr hlevel)]
    refine ⟨fun h => if_neg ?_, fun hmeasured hex => if_pos ?_⟩
    · rcases h with h | h <;> simp [h]
    · simp [hmeasured, hex]

/-! ### The completion as a whole (R138) -/

/-- The machine when a job has completed, before the engine takes the next one. -/
theorem State.jobComplete_left (hcurrent : s.engine.current = some j) : ∃ u : State, s.jobComplete = u.takeJob ∧ u.engine = ⟨s.engine.queue, none, false⟩ ∧
    u.slots = s.slots.set j.slot (s.slot j.slot).givenBack ∧ ((s.slot j.slot).pinMark = true → u.bench.isPending .pinnedReady = true) ∧
    (s.engine.discard = true → u.dossiers = s.dossiers ∧ u.reports = s.reports) := by
  cases hdiscard : s.engine.discard with
  | true =>
    obtain ⟨causes, h⟩ := s.jobLeft_eq j.slot
    exact ⟨s.jobLeft j.slot, State.jobComplete_discarded hcurrent hdiscard, by rw [h], by rw [h], State.isPending_jobLeft, fun _ => by
      rw [h]
      exact ⟨rfl, rfl⟩⟩
  | false =>
    obtain ⟨captures, hmerge⟩ := s.mergeJob_frame j
    obtain ⟨causes, h⟩ := (s.mergeJob j).jobLeft_eq j.slot
    obtain ⟨ds, plans, reports, causes', engaged, reference, htested, -⟩ := State.checkTested_eq ((s.mergeJob j).jobLeft j.slot) j.owner
    refine ⟨((s.mergeJob j).jobLeft j.slot).checkTested j.owner, State.jobComplete_merged hcurrent hdiscard, ?_, ?_, fun hmark => ?_, nofun⟩
    · rw [htested, h, hmerge]
    · rw [htested, h, hmerge]
      rfl
    · refine State.checkTested_walk.pending _ (State.isPending_jobLeft ?_)
      rw [hmerge]
      exact hmark

/-- The completion of a job while its owner's stage is in progress. -/
theorem State.dossiers_jobComplete (hcurrent : s.engine.current = some j) (hdiscard : s.engine.discard = false)
    (hdef : s.captureDef j.owner j.number = some d) (hstage : (s.dossier j.owner).stageIndex ≠ none) :
    s.jobComplete.dossiers = s.dossiers.set j.owner ((s.dossier j.owner).recorded j.number fun r =>
      r.merged d j (s.slot j.slot).samples (s.captureUnit j.owner)) := by
  have hmerge := State.mergeJob_eq hdef
  obtain ⟨causes, h⟩ := (s.mergeJob j).jobLeft_eq j.slot
  have hdossiers : ((s.mergeJob j).jobLeft j.slot).dossiers = s.dossiers.set j.owner ((s.dossier j.owner).recorded j.number fun r =>
      r.merged d j (s.slot j.slot).samples (s.captureUnit j.owner)) := by
    rw [h, hmerge]
  have hbusy : (((s.mergeJob j).jobLeft j.slot).dossier j.owner).stageIndex ≠ none := by
    rw [State.dossier, hdossiers, PerNest.get_set_same]
    exact hstage
  obtain ⟨slots, engine, htake⟩ := State.takeJob_eq (((s.mergeJob j).jobLeft j.slot).checkTested j.owner)
  rw [State.jobComplete_merged hcurrent hdiscard, htake, State.checkTested, if_neg fun h => hbusy h.2.1, hdossiers]

end

/-- Settles O54: the slot goes back, the engine takes the next job, and the block is merged into its record, which is judged when it is due. -/
theorem jobCompletionMergesTheBlock : Obligations.JobCompletionMergesTheBlock := by
  intro j s hcurrent hothers
  obtain ⟨u, hu, hengine, hslots, hpending, hdropped⟩ := State.jobComplete_left hcurrent
  obtain ⟨hslot, hempty, hnext⟩ := State.takeJob_after hengine hslots hothers
  obtain ⟨slots, engine, htake⟩ := u.takeJob_eq
  refine ⟨s.jobComplete, rfl, fun hmark => ?_, fun hmark => ⟨?_, ?_⟩, ?_, ?_, fun hdiscard => ?_, ?_⟩
  · rw [hu, hslot, Slot.givenBack, if_neg (Bool.eq_false_iff.mp hmark)]
  · rw [hu, hslot, Slot.givenBack, if_pos hmark]
  · rw [hu, htake]
    exact hpending hmark
  · rw [hu]
    exact hempty
  · rw [hu]
    exact hnext
  · rw [hu, htake]
    exact hdropped hdiscard
  · intro d r hdiscard hdef hr hnum _ hgiven hstage hlines hwindows hpeaks
    have hds := State.dossiers_jobComplete hcurrent hdiscard hdef hstage
    generalize s.captureUnit j.owner = unit at hds ⊢
    generalize (s.slot j.slot).samples = samples at hds ⊢
    have hd : s.jobComplete.dossier j.owner = (s.dossier j.owner).recorded j.number fun r => r.merged d j samples unit := by
      rw [State.dossier, hds, PerNest.get_set_same]
    obtain ⟨given, hmerged⟩ := r.merged_eq d j samples unit
    have hdue := CaptureRecord.due_mergeBlock (d := d) (j := j) (samples := samples) (unit := unit) hgiven
    have hquiet (h : ¬(r.blocksAnalysed + 1 = r.blocksRequested ∧ unit.holds r.number = false)) : (r.merged d j samples unit).given = none := by
      rw [CaptureRecord.merged_of_not_due (Bool.eq_false_iff.mpr (mt hdue.mp h))]
      exact hgiven
    refine ⟨r.merged d j samples unit, ?_, ?_, ?_, ?_, ?_, ?_, ?_, ?_, ?_, ?_, ?_, ?_, fun hmore => ?_, fun c hc hcnum => ?_,
      fun hlast hother => ?_⟩
    · rw [hd]
      exact List.mem_map.mpr ⟨r, hr, if_pos hnum⟩
    · rw [hmerged]
      exact hnum
    · rw [hd]
      rfl
    · rw [State.dossier, hds]
      exact PerNest.get_set_other ..
    · rw [hmerged]
      rfl
    · rw [hmerged]
      rfl
    · rw [hmerged]
      rfl
    · rw [hmerged]
      exact mergeLines_length ..
    · intro k l e m hl he hm
      subst hm
      rw [hmerged]
      refine (mergeLines_getElem? _ _ _ hl he).trans (congrArg some ?_)
      cases j.side <;> rfl
    · rw [hmerged]
      exact CaptureRecord.windows_mergeBlock_length (d := d) (samples := samples) fun peaks h => (hpeaks peaks h).trans hwindows.symm
    · intro peaks hp hmeasured k x y hx hy
      rw [hmerged]
      have hmax := CaptureRecord.windows_mergeBlock_of_peaks (d := d) (samples := samples) hp hmeasured
      show (r.mergeBlock d j samples).windows[k]? = _
      have hpair : (r.windows.zip peaks)[k]? = some (x, y) := List.getElem?_zip_eq_some.mpr ⟨hx, hy⟩
      rw [hmax, List.getElem?_map, hpair]
      rfl
    · intro h
      rw [hmerged]
      exact CaptureRecord.windows_mergeBlock_of_none (d := d) (samples := samples) h
    · exact hquiet fun h => by omega
    · exact hquiet fun h => Bool.eq_false_iff.mp h.2 (CaptureUnit.holds_iff.mpr ⟨c, hc, hcnum.trans hnum.symm⟩)
    · have hfree : unit.holds r.number = false := Bool.eq_false_iff.mpr fun h => by
        obtain ⟨c, hc, hcnum⟩ := CaptureUnit.holds_iff.mp h
        exact hother c hc (hcnum.trans hnum)
      rw [CaptureRecord.merged_of_due (hdue.mpr ⟨hlast, hfree⟩) hgiven]
      obtain ⟨hload, horder, hrest⟩ := (r.mergeBlock d j samples).judgment_cases d
      refine ⟨fun h => congrArg some (hload h), fun h he => congrArg some (horder h he), fun h he => ?_⟩
      obtain ⟨hover, hwithin⟩ := hrest h he
      refine ⟨fun hlimit => congrArg some (hover hlimit), fun hlimit => ?_⟩
      obtain ⟨hpass, hwindow⟩ := hwithin hlimit
      refine ⟨fun hu => congrArg some (hpass (.inl hu)), fun hu hex => congrArg some (hwindow hu (windowExceeded_iff.mpr hex)), fun hu hall =>
        congrArg some (hpass (.inr (Bool.eq_false_iff.mpr fun hex => ?_)))⟩
      obtain ⟨k, w, x, hw, hx, hpeak⟩ := windowExceeded_iff.mp hex
      exact absurd (hall k w x hw hx) (Nat.not_le.mpr hpeak)

end Sys2Proof.Machine
end

section
/-! PROOFS. The last analysis job of a dossier: its verdict and its filing. -/

namespace Sys2Proof.Machine

section
variable {s t v : State} {n : Nest} {p : Plan} {d : Dossier} {k : SectionResult} {g : Given} {before after : List Given}

/-! ### The verdict (R29) -/

theorem Dossier.firstResult_of_split (hresults : d.results.filterMap id = before ++ g :: after) (hg : g.result = k)
    (hbefore : ∀ x ∈ before, x.result ≠ k) : d.firstResult k = some g := by
  have hnone : before.find? (fun x => x.result = k) = none :=
    List.find?_eq_none.mpr fun x hx h => hbefore x hx (of_decide_eq_true h)
  rw [Dossier.firstResult, hresults, List.find?_append, hnone, Option.none_or,
    List.find?_cons_of_pos (p := fun g : Given => decide (g.result = k)) (decide_eq_true hg)]

theorem Dossier.firstResult_of_none (h : ∀ x ∈ d.results.filterMap id, x.result ≠ k) : d.firstResult k = none :=
  List.find?_eq_none.mpr fun x hx hk => h x hx (of_decide_eq_true hk)

theorem Dossier.judgment_of_fail (hstopped : d.stopped = false) (h : d.firstResult .fail = some g) : d.judgment = (.fail, some g.cause) := by
  simp [Dossier.judgment, hstopped, h]

theorem Dossier.judgment_of_notMeasured (hstopped : d.stopped = false) (hno : d.firstResult .fail = none)
    (h : d.firstResult .notMeasured = some g) : d.judgment = (.incomplete, some g.cause) := by
  simp [Dossier.judgment, hstopped, hno, h]

theorem Dossier.judgment_of_pass (hstopped : d.stopped = false) (hpass : ∀ x ∈ d.results.filterMap id, x.result = .pass) :
    d.judgment = (.pass, some .none) := by
  have hno (k : SectionResult) (hk : k ≠ .pass) : d.firstResult k = none :=
    Dossier.firstResult_of_none fun x hx h => hk (h.symm.trans (hpass x hx))
  simp [Dossier.judgment, hstopped, hno .fail (by decide), hno .notMeasured (by decide)]

/-! ### The entry to JUDGED and what follows it (R30, R31, R154) -/

/-- The nest judged, before a filing. -/
def State.verdictGiven (s : State) (n : Nest) : State :=
  ((s.modDossier n fun d => d.enterJudged s.reports.clock (s.classOf n)).modChannel n Channel.clearReference).raise (.judged n)

theorem State.dossier_verdictGiven (s : State) (n : Nest) : (s.verdictGiven n).dossier n = (s.dossier n).enterJudged s.reports.clock (s.classOf n) :=
  PerNest.get_set_same ..

theorem State.planOf_verdictGiven (s : State) (n : Nest) : (s.verdictGiven n).planOf n = s.planOf n := by
  rw [State.planOf, State.dossier_verdictGiven]
  rfl

/-- The judged dossier is filed by auto-file alone, and not in quarantine. -/
theorem State.enterJudged_of_plan (hp : s.planOf n = some p) : s.enterJudged n =
    if p.autoFile = true ∧ (s.dossier n).quarantine = false then (s.verdictGiven n).fileDossier n else s.verdictGiven n := by
  unfold State.enterJudged
  extract_lets judged w
  have hplan : w.planOf n = some p := (s.planOf_verdictGiven n).trans hp
  have hquarantine : (w.dossier n).quarantine = (s.dossier n).quarantine :=
    (congrArg Dossier.quarantine (s.dossier_verdictGiven n)).trans rfl
  simp only [hplan, hquarantine, Bool.and_eq_true, Bool.not_eq_true']
  rfl

/-- What the entry to JUDGED does, whether the dossier is filed, waits or stays. -/
structure VerdictEntered (s t : State) (n : Nest) : Prop where
  dossier : ∃ st number pending, t.dossier n = { (s.dossier n).enterJudged s.reports.clock (s.classOf n) with
    state := st, reportNumber := number, filingPending := pending }
  other : t.dossier n.other = s.dossier n.other
  channel : t.channel n = (s.channel n).clearReference
  pending : t.bench.isPending (.judged n) = true
  stays : ∀ p, s.planOf n = some p → p.autoFile = false ∨ (s.dossier n).quarantine = true →
    (t.dossier n).state = .judged ∧ (t.dossier n).filingPending = (s.dossier n).filingPending ∧ t.reports = s.reports
  filed : ∀ p, s.planOf n = some p → p.autoFile = true → (s.dossier n).quarantine = false → s.reports.reports.length < 16 →
    (t.dossier n).state = .filed ∧ (t.dossier n).reportNumber = some s.reports.nextNumber ∧
      t.reports.nextNumber = numberAfter s.reports.nextNumber ∧
      ∃ r, t.reports.reports = s.reports.reports ++ [r] ∧ r.number = some s.reports.nextNumber ∧ r.nest = n ∧
        r.verdict = (t.dossier n).verdict ∧ r.captures = (t.dossier n).captures
  waits : ∀ p, s.planOf n = some p → p.autoFile = true → (s.dossier n).quarantine = false → 16 ≤ s.reports.reports.length →
    (t.dossier n).state = .judged ∧ (t.dossier n).filingPending = true ∧
      t.reports = { s.reports with filingPending := s.reports.filingPending ++ [n] } ∧ t.bench.isPending .filingBlocked = true

theorem State.enterJudged_entered (s : State) (n : Nest) : VerdictEntered s (s.enterJudged n) n := by
  obtain ⟨st, number, pending, plans, reports, causes, -, h⟩ := State.enterJudged_eq s n
  have hd : (s.enterJudged n).dossier n = { (s.dossier n).enterJudged s.reports.clock (s.classOf n) with
      state := st, reportNumber := number, filingPending := pending } := by
    rw [h, State.dossier, PerNest.get_set_same]
  refine ⟨⟨st, number, pending, hd⟩, ?_, ?_, State.isPending_enterJudged s n, fun p hp hstay => ?_, fun p hp hauto hquarantine hroom => ?_,
    fun p hp hauto hquarantine hfull => ?_⟩
  · rw [h]
    exact PerNest.get_set_other ..
  · rw [h, State.channel, PerNest.get_set_same]
  · have hnot : ¬(p.autoFile = true ∧ (s.dossier n).quarantine = false) := fun ⟨hauto, hq⟩ =>
      hstay.elim (fun h => Bool.eq_false_iff.mp h hauto) fun h => Bool.eq_false_iff.mp hq h
    rw [State.enterJudged_of_plan hp, if_neg hnot, State.dossier_verdictGiven]
    exact ⟨rfl, rfl, rfl⟩
  · obtain ⟨plans', hfile⟩ := State.fileReport_eq (s.verdictGiven n) n
    rw [State.enterJudged_of_plan hp, if_pos ⟨hauto, hquarantine⟩, State.fileDossier_of_room (s := s.verdictGiven n) hroom, hfile]
    simp only [State.dossier, PerNest.get_set_same, true_and]
    exact ⟨rfl, rfl, _, rfl, rfl, rfl, rfl, rfl⟩
  · rw [State.enterJudged_of_plan hp, if_pos ⟨hauto, hquarantine⟩, State.fileDossier_of_full (s := s.verdictGiven n) hfull]
    simp only [State.dossier, PerNest.get_set_same, true_and]
    exact ⟨congrArg Dossier.state (s.dossier_verdictGiven n), rfl, isPending_raise (s.verdictGiven n) .filingBlocked⟩

end

/-- Settles O55: the last job's block is merged, then the dossier is judged by its results and filed, left waiting, or left judged. -/
theorem lastJobJudgesTheDossier : Obligations.LastJobJudgesTheDossier := by
  rintro j n p s hcurrent hdiscard rfl hqueue hst hstage hfree hp
  obtain ⟨captures, hmerge⟩ := s.mergeJob_frame j
  obtain ⟨causes, hleft⟩ := (s.mergeJob j).jobLeft_eq j.slot
  generalize hv : (s.mergeJob j).jobLeft j.slot = v at hleft
  have hvd : v.dossier j.owner = { s.dossier j.owner with captures := captures } := by
    rw [hleft, hmerge]
    exact PerNest.get_set_same ..
  have hvp : v.planOf j.owner = some p := by
    rw [State.planOf, hvd, hleft, hmerge]
    exact hp
  have hreports : v.reports = s.reports := by rw [hleft, hmerge]
  have hjobs : v.hasJob j.owner = false := by
    rw [hleft, hmerge]
    refine Bool.or_eq_false_iff.mpr ⟨List.any_eq_false.mpr fun k hk => ?_, rfl⟩
    exact fun h => hqueue k hk (of_decide_eq_true h)
  have htested : v.checkTested j.owner = v.enterJudged j.owner := if_pos ⟨by rw [hvd]; exact hst, by rw [hvd]; exact hstage, hjobs⟩
  obtain ⟨slots, engine, htake⟩ := State.takeJob_eq (v.enterJudged j.owner)
  have hresult : s.jobComplete = { v.enterJudged j.owner with slots := slots, engine := engine } := by
    rw [State.jobComplete_merged hcurrent hdiscard, hv, htested, htake]
  have hentered := v.enterJudged_entered j.owner
  generalize v.enterJudged j.owner = w at hresult hentered
  obtain ⟨⟨st, number, pending, hd⟩, hother, hchannel, hpending, hstays, hfiled, hwaits⟩ := hentered
  have hverdict : (w.dossier j.owner).verdict = some (w.dossier j.owner).judgment.1 := by rw [hd]; rfl
  have hcause : (w.dossier j.owner).verdictCause = (w.dossier j.owner).judgment.2 := by rw [hd]; rfl
  have hstopped : (w.dossier j.owner).stopped = (s.dossier j.owner).stopped := by rw [hd, hvd]; rfl
  have hjudged {verdict : Verdict} {cause : Option Cause} (h : (w.dossier j.owner).judgment = (verdict, cause)) :
      (w.dossier j.owner).verdict = some verdict ∧ (w.dossier j.owner).verdictCause = cause := by
    rw [hverdict, hcause, h]
    exact ⟨rfl, rfl⟩
  refine ⟨s.jobComplete, rfl, ?_⟩
  rw [hresult]
  refine ⟨fun hstop => hjudged ?_, fun hrun => ⟨?_, ?_, ?_⟩, ?_, ?_, fun verdict hfirst => ?_, fun hfirst => ?_, ?_, hpending, ?_, fun hstay => ?_,
    fun hauto hquarantine hroom => ?_, fun hauto hquarantine hfull => ?_⟩
  · have habort : (w.dossier j.owner).judgment = (.aborted, (w.dossier j.owner).stoppingCause) := if_pos (hstopped.trans hstop)
    rw [habort, hd, hvd]
    rfl
  · intro before g after hsplit hg hbefore
    exact hjudged (Dossier.judgment_of_fail (hstopped.trans hrun) (Dossier.firstResult_of_split hsplit hg hbefore))
  · intro before g after hsplit hg hbefore hno
    exact hjudged (Dossier.judgment_of_notMeasured (hstopped.trans hrun) (Dossier.firstResult_of_none hno)
      (Dossier.firstResult_of_split hsplit hg hbefore))
  · intro hpass
    exact hjudged (Dossier.judgment_of_pass (hstopped.trans hrun) hpass)
  · refine (congrArg Dossier.judgedTime hd).trans (congrArg some ?_)
    rw [hreports]
  · refine (congrArg Dossier.classAtJudgment hd).trans (congrArg some ?_)
    rw [hleft, hmerge]
    rfl
  · refine (congrArg Dossier.firstVerdict hd).trans (congrArg some ?_)
    rw [hvd]
    show (s.dossier j.owner).firstVerdict.getD _ = verdict
    rw [hfirst]
    rfl
  · refine (congrArg Dossier.firstVerdict hd).trans (Eq.trans ?_ (congrArg Dossier.verdict hd).symm)
    rw [hvd]
    exact congrArg (fun g => some (Option.getD g _)) hfirst
  · refine hchannel.trans ?_
    rw [hleft, hmerge]
    rfl
  · refine hother.trans ?_
    rw [hleft, hmerge]
    exact PerNest.get_set_other ..
  · obtain ⟨hstate, hpend, hrep⟩ := hstays p hvp (by rw [hvd]; exact hstay)
    exact ⟨hstate, hpend.trans (by rw [hvd]; exact hfree), hrep.trans hreports⟩
  · have h := hfiled p hvp hauto (by rw [hvd]; exact hquarantine) (by rw [hreports]; exact hroom)
    rw [hreports] at h
    exact h
  · have h := hwaits p hvp hauto (by rw [hvd]; exact hquarantine) (by rw [hreports]; exact hfull)
    rw [hreports] at h
    exact h

end Sys2Proof.Machine
end

section
/-! PROOFS. What follows a change of a leak circuit's state, and the samples that fill or idle. -/

namespace Sys2Proof.Machine

section
variable {s t u w : State} {n : Nest} {c d : Chamber} {l : LeakStage} {p : PressureInput} {x : Int} {k : Circuit} {g : Given}

/-! ### A circuit replaced -/

/-- The machine with a circuit and the arbiter replaced. -/
def State.circuitMoved (s : State) (n : Nest) (c : Chamber) (k : Circuit) (a : Arbiter) : State :=
  { s with circuits := s.circuits.set n ((s.circuits.get n).set c k), arbiter := a }

theorem State.circuit_circuitMoved {a : Arbiter} (m : Nest) (d : Chamber) :
    (s.circuitMoved n c k a).circuit m d = if m = n ∧ d = c then k else s.circuit m d :=
  State.circuit_modCircuit m c d fun _ => k

theorem State.circuit_circuitMoved_same {a : Arbiter} : (s.circuitMoved n c k a).circuit n c = k :=
  (State.circuit_circuitMoved n c).trans (if_pos ⟨rfl, rfl⟩)

theorem State.circuit_circuitMoved_other {a : Arbiter} : (s.circuitMoved n c k a).circuit n c.other = s.circuit n c.other :=
  (State.circuit_circuitMoved n c.other).trans (if_neg fun h => by cases c <;> exact nomatch h.2)

theorem State.modCircuit_circuitMoved {a : Arbiter} (f : Circuit → Circuit) :
    (s.circuitMoved n c k a).modCircuit n c f = s.circuitMoved n c (f k) a := by
  simp only [State.circuitMoved, State.modCircuit, PerNest.mod, PerNest.get_set_same, PerNest.set_set, PerChamber.set_set,
    PerChamber.get_set_same]

/-! ### What follows in the event of a change of state (R103, R107, R108, R118) -/

theorem State.requestNext_of_none (h : ∀ l, s.leakStage n = some l → l.next = none) : s.requestNext n = s := by
  unfold State.requestNext
  split
  · next m set c hl => exact nomatch h _ hl
  · rfl

theorem State.requestNext_requests {m : ChamberSet} {ix : LeakSetIx} (hl : s.leakStage n = some ⟨m, ix, some c⟩)
    (hwait : (s.circuit n c.other).state ≠ .waitingAir) (hfill : (s.circuit n c.other).state ≠ .filling) :
    s.requestNext n = (s.setLeakStage n (some ⟨m, ix, none⟩)).requestAir n c ix := by
  simp only [State.requestNext, hl, if_neg (not_or.mpr ⟨hwait, hfill⟩)]

theorem ChamberSet.forall_has {m : ChamberSet} {P : Chamber → Prop} :
    (∀ c, m.has c = true → P c) ↔ (m.c0 = true → P .c0) ∧ (m.c1 = true → P .c1) := by
  refine ⟨fun h => ⟨h .c0, h .c1⟩, fun ⟨h0, h1⟩ c => ?_⟩
  cases c with
  | c0 => exact h0
  | c1 => exact h1

theorem State.leakResultsDone_iff (hl : s.leakStage n = some l) :
    s.leakResultsDone n = true ↔ ∀ c, l.measured.has c = true → (s.circuit n c).resultGiven = true := by
  have hor (a b : Bool) : (!a || b) = true ↔ (a = true → b = true) := by cases a <;> simp
  rw [ChamberSet.forall_has]
  simp only [State.leakResultsDone, hl, Bool.and_eq_true, hor]

theorem State.leakResultsDone_of_open (hl : s.leakStage n = some l) (hm : l.measured.has c = true) (hopen : (s.circuit n c).resultGiven = false) :
    s.leakResultsDone n = false :=
  Bool.eq_false_iff.mpr fun h => Bool.eq_false_iff.mp hopen ((State.leakResultsDone_iff hl).mp h c hm)

/-- Both circuits of a nest, those in HOLDING sent to VENTING. -/
def State.holdingVented (s : State) (n : Nest) : State := (s.ventHolding n .c0).ventHolding n .c1

theorem State.circuit_ventHolding (d : Chamber) : (s.ventHolding n c).circuit n d =
    if d = c ∧ (s.circuit n d).state = .holding then (s.circuit n d).enter .venting else s.circuit n d := by
  unfold State.ventHolding
  by_cases hhold : (s.circuit n c).state = .holding
  · rw [if_pos hhold, State.circuit_modCircuit]
    by_cases hd : d = c
    · subst hd
      rw [if_pos ⟨rfl, rfl⟩, if_pos ⟨rfl, hhold⟩]
    · rw [if_neg fun h => hd h.2, if_neg fun h => hd h.1]
  · rw [if_neg hhold, if_neg]
    rintro ⟨rfl, h⟩
    exact hhold h

theorem State.circuit_holdingVented (d : Chamber) : (s.holdingVented n).circuit n d =
    if (s.circuit n d).state = .holding then (s.circuit n d).enter .venting else s.circuit n d := by
  rw [State.holdingVented, State.circuit_ventHolding, State.circuit_ventHolding]
  cases d with
  | c0 =>
    have hne : ¬Chamber.c0 = .c1 := by decide
    simp only [hne, false_and, if_false, true_and]
  | c1 =>
    have hne : ¬Chamber.c1 = .c0 := by decide
    simp only [hne, false_and, if_false, true_and]

theorem State.ventHolding_frame (s : State) (n : Nest) (c : Chamber) : ∃ cs, s.ventHolding n c = { s with circuits := cs } := by
  unfold State.ventHolding
  split
  · exact ⟨_, rfl⟩
  · exact ⟨s.circuits, rfl⟩

theorem State.holdingVented_frame (s : State) (n : Nest) : ∃ cs, s.holdingVented n = { s with circuits := cs } := by
  obtain ⟨cs, h⟩ := s.ventHolding_frame n .c0
  obtain ⟨cs', h'⟩ := (s.ventHolding n .c0).ventHolding_frame n .c1
  exact ⟨cs', h'.trans (by rw [h])⟩

theorem State.holdingVented_of_none (h : ∀ d, (s.circuit n d).state ≠ .holding) : s.holdingVented n = s := by
  have h0 : s.ventHolding n .c0 = s := if_neg (h .c0)
  have h1 : s.ventHolding n .c1 = s := if_neg (h .c1)
  rw [State.holdingVented, h0, h1]

theorem State.circuitsIdle_iff : s.circuitsIdle n = true ↔ ∀ c, (s.circuit n c).state = .idle := by
  rw [State.circuitsIdle, Bool.and_eq_true, beq_iff_eq, beq_iff_eq]
  exact ⟨fun ⟨h0, h1⟩ c => by cases c <;> assumption, fun h => ⟨h .c0, h .c1⟩⟩

theorem State.checkLeakStage_of_open (h : s.leakResultsDone n = false) : s.checkLeakStage n = s := if_neg (Bool.eq_false_iff.mp h)

/-- With a circuit that is not IDLE the LEAK stage goes on, and a STOPPING dossier stays. -/
theorem State.afterCircuit_of_busy (hw : (u.requestNext n).arbitrate = w) (hbusy : (w.circuit n c).state ≠ .idle) :
    u.afterCircuit n = if w.leakResultsDone n = true then w.holdingVented n else w := by
  have hkept : ((w.holdingVented n).circuit n c).state ≠ .idle := by
    rw [State.circuit_holdingVented]
    split
    · exact fun h => nomatch h
    · exact hbusy
  have hvented : (w.holdingVented n).circuitsIdle n = false := Bool.eq_false_iff.mpr fun h => hkept (State.circuitsIdle_iff.mp h c)
  have hidle : w.circuitsIdle n = false := Bool.eq_false_iff.mpr fun h => hbusy (State.circuitsIdle_iff.mp h c)
  rw [State.afterCircuit, hw]
  by_cases hdone : w.leakResultsDone n = true
  · have hcheck : w.checkLeakStage n = w.holdingVented n := (if_pos hdone).trans (if_neg (Bool.eq_false_iff.mp hvented))
    rw [hcheck, if_pos hdone]
    exact State.checkStopping_of_busy _ n fun h => Bool.eq_false_iff.mp hvented h.2.2
  · rw [State.checkLeakStage, if_neg hdone, if_neg hdone]
    exact State.checkStopping_of_busy _ n fun h => Bool.eq_false_iff.mp hidle h.2.2

/-- With a measured chamber that has no result nothing else follows in a TESTING dossier. -/
theorem State.afterCircuit_of_open (hw : (u.requestNext n).arbitrate = w) (hopen : w.leakResultsDone n = false)
    (hst : (w.dossier n).state ≠ .stopping) : u.afterCircuit n = w := by
  rw [State.afterCircuit, hw, State.checkLeakStage_of_open hopen]
  exact State.checkStopping_of_busy _ n fun h => hst h.1

/-! ### A pressure sample that is no sensor fault (R100, R165) -/

theorem pressureFault_eq_false (h : pressureInRange p) : pressureFault p.raw = false := by
  obtain ⟨hlow, hhigh⟩ := h
  simp [pressureFault, hlow, hhigh]

/-- The circuit of a sample with the sample taken. -/
def State.taken (s : State) (p : PressureInput) (fault : Bool) : Circuit := (s.circuit p.nest p.chamber).takeSample (s.pressureAt p) fault

theorem State.pressureSample_eq (hzero : s.interlock.zero = none) (hrange : pressureInRange p)
    (ht : (s.circuitMoved p.nest p.chamber (s.taken p false) s.arbiter).stateRule p.nest p.chamber (s.pressureAt p) = t) :
    s.pressureSample p = if (t.circuit p.nest p.chamber).state = (s.circuit p.nest p.chamber).state then t else t.afterCircuit p.nest := by
  subst ht
  simp only [State.pressureSample, State.zeroSample_of_none hzero, pressureFault_eq_false hrange, Bool.false_eq_true, if_false,
    State.circuitSample]
  rfl

/-- The sample changes nothing but its circuit where the state's rule does not act. -/
theorem State.pressureSample_stays (hzero : s.interlock.zero = none) (hrange : pressureInRange p)
    (ht : (s.circuitMoved p.nest p.chamber (s.taken p false) s.arbiter).stateRule p.nest p.chamber (s.pressureAt p) = t)
    (hstate : (t.circuit p.nest p.chamber).state = (s.circuit p.nest p.chamber).state) : s.pressureSample p = t :=
  (State.pressureSample_eq hzero hrange ht).trans (if_pos hstate)

theorem State.pressureSample_moves (hzero : s.interlock.zero = none) (hrange : pressureInRange p)
    (ht : (s.circuitMoved p.nest p.chamber (s.taken p false) s.arbiter).stateRule p.nest p.chamber (s.pressureAt p) = t)
    (hstate : (t.circuit p.nest p.chamber).state ≠ (s.circuit p.nest p.chamber).state) : s.pressureSample p = t.afterCircuit p.nest :=
  (State.pressureSample_eq hzero hrange ht).trans (if_neg hstate)

end

end Sys2Proof.Machine
end

section
/-! PROOFS. The pressure samples of IDLE and FILLING circuits. -/

namespace Sys2Proof.Machine

section
variable {s t u w : State} {n : Nest} {c d : Chamber} {set : LeakSet} {p : PressureInput} {x : Int} {k : Circuit} {a : Arbiter} {g : Given}

/-! ### The rule of each state (R100 step 4) -/

theorem State.stateRule_idle (h : (s.circuit n c).state = .idle) : s.stateRule n c x = s := by
  unfold State.stateRule
  rw [h]

theorem State.stateRule_waitingAir (h : (s.circuit n c).state = .waitingAir) : s.stateRule n c x = s.waitRule n c := by
  unfold State.stateRule
  rw [h]

theorem State.stateRule_venting (h : (s.circuit n c).state = .venting) : s.stateRule n c x = s.ventRule n c x := by
  unfold State.stateRule
  rw [h]

theorem State.stateRule_filling (h : (s.circuit n c).state = .filling) (hset : s.leakSetOf n c = some set) :
    s.stateRule n c x = s.fillRule n c set x := by
  unfold State.stateRule
  rw [h, hset]

theorem State.stateRule_settling (h : (s.circuit n c).state = .settling) (hset : s.leakSetOf n c = some set) :
    s.stateRule n c x = s.settleRule n c set x := by
  unfold State.stateRule
  rw [h, hset]

theorem State.stateRule_measuring (h : (s.circuit n c).state = .measuring) (hset : s.leakSetOf n c = some set) :
    s.stateRule n c x = s.measureRule n c set := by
  unfold State.stateRule
  rw [h, hset]

/-! ### The machine with a sample taken (R100 steps 1 and 2) -/

/-- The machine with a sample taken, before its circuit's rule. -/
def State.sampled (s : State) (p : PressureInput) (fault : Bool) : State := s.circuitMoved p.nest p.chamber (s.taken p fault) s.arbiter

theorem State.circuit_sampled {fault : Bool} : (s.sampled p fault).circuit p.nest p.chamber = s.taken p fault := State.circuit_circuitMoved_same

theorem State.state_taken {fault : Bool} : (s.taken p fault).state = (s.circuit p.nest p.chamber).state := rfl

theorem State.leakSetOf_sampled {fault : Bool} : (s.sampled p fault).leakSetOf p.nest p.chamber = s.leakSetOf p.nest p.chamber := by
  rw [State.leakSetOf, State.circuit_sampled]
  rfl

/-- The state count of a sample (R98). -/
theorem State.count_taken {fault : Bool} {m : Nat} (h : (s.circuit p.nest p.chamber).count + 1 = m) (hm : m ≤ 60000) :
    (s.taken p fault).count = m := by
  show min 60000 ((s.circuit p.nest p.chamber).count + 1) = m
  omega

theorem State.measures.leakResultsDone (hm : s.measures n c) (hstage : t.leakStage n = s.leakStage n)
    (hopen : (t.circuit n c).resultGiven = false) : t.leakResultsDone n = false := by
  obtain ⟨-, -, m, ix, hl, hhas⟩ := hm
  exact State.leakResultsDone_of_open (hstage.trans hl) hhas hopen

theorem State.measures.no_next (hm : s.measures n c) (hstage : t.leakStage n = s.leakStage n) :
    ∀ l, t.leakStage n = some l → l.next = none := by
  obtain ⟨-, -, m, ix, hl, -⟩ := hm
  rintro l h
  obtain rfl := Option.some.inj ((h.symm.trans hstage).trans hl)
  rfl

/-! ### A completed fill (R105, R110) -/

/-- The machine of a completed fill, before what follows. -/
def State.filledUp (s : State) (p : PressureInput) : State :=
  s.circuitMoved p.nest p.chamber ((s.taken p false).enter .settling) { s.arbiter with holder := none }

theorem State.stateRule_filled (hfill : (s.circuit p.nest p.chamber).state = .filling) (hset : s.leakSetOf p.nest p.chamber = some set)
    (hx : (set.fillTarget : Int) ≤ s.pressureAt p) (hholder : s.arbiter.holder = some ⟨p.nest, p.chamber⟩)
    (hwait : ⟨p.nest, p.chamber⟩ ∉ s.arbiter.waiting) :
    (s.sampled p false).stateRule p.nest p.chamber (s.pressureAt p) = s.filledUp p := by
  have hstate : ((s.sampled p false).circuit p.nest p.chamber).state = .filling := by rw [State.circuit_sampled, State.state_taken, hfill]
  have hfilter : s.arbiter.waiting.filter (fun y => y ≠ ⟨p.nest, p.chamber⟩) = s.arbiter.waiting :=
    List.filter_eq_self.mpr fun y hy => decide_eq_true fun h => hwait (h ▸ hy)
  have hleave : s.arbiter.without ⟨p.nest, p.chamber⟩ = { s.arbiter with holder := none } := by
    rw [Arbiter.without, if_pos hholder, hfilter]
  rw [State.stateRule_filling hstate (State.leakSetOf_sampled.trans hset), State.fillRule, if_pos hx, State.leaveAir_eq]
  show ({ s.circuitMoved p.nest p.chamber (s.taken p false) (s.arbiter.without ⟨p.nest, p.chamber⟩) with } : State).modCircuit _ _ _ = _
  rw [hleave]
  exact State.modCircuit_circuitMoved _

theorem State.pressureSample_filled (hzero : s.interlock.zero = none) (hrange : pressureInRange p)
    (hfill : (s.circuit p.nest p.chamber).state = .filling) (hset : s.leakSetOf p.nest p.chamber = some set)
    (hx : (set.fillTarget : Int) ≤ s.pressureAt p) (hholder : s.arbiter.holder = some ⟨p.nest, p.chamber⟩)
    (hwait : ⟨p.nest, p.chamber⟩ ∉ s.arbiter.waiting) : s.pressureSample p = (s.filledUp p).afterCircuit p.nest := by
  refine State.pressureSample_moves hzero hrange (State.stateRule_filled hfill hset hx hholder hwait) ?_
  rw [State.filledUp, State.circuit_circuitMoved_same, hfill]
  exact fun h => nomatch h

theorem Chamber.ne_other (c : Chamber) : c ≠ c.other := by cases c <;> decide

theorem Chamber.other_other (c : Chamber) : c.other.other = c := by cases c <;> rfl

/-- The second measured chamber requests air (R107). -/
theorem State.requestNext_eq {m : ChamberSet} {ix : LeakSetIx} (hzero : s.interlock.zero = none)
    (hl : s.leakStage n = some ⟨m, ix, some c.other⟩) (hwait : (s.circuit n c).state ≠ .waitingAir) (hfill : (s.circuit n c).state ≠ .filling) :
    s.requestNext n = (s.setLeakStage n (some ⟨m, ix, none⟩)).circuitMoved n c.other
      { s.circuit n c.other with state := .waitingAir, count := 0, leakSet := some ix }
      { s.arbiter with waiting := s.arbiter.waiting ++ [⟨n, c.other⟩] } := by
  rw [State.requestNext_requests hl (by rw [Chamber.other_other]; exact hwait) (by rw [Chamber.other_other]; exact hfill),
    State.requestAir_of_noZero (s := s.setLeakStage n (some ⟨m, ix, none⟩)) hzero]
  rfl

end

/-- Settles O49: a sample of an IDLE circuit, a completed fill with nothing to grant, with a head to grant, and with a chamber to follow. -/
theorem pressureSampleFillsOrIdles : Obligations.PressureSampleFillsOrIdles := by
  intro p s hzero hrange
  refine ⟨fun hidle => ⟨s.taken p false, ?_, rfl, fun hlen => ?_, fun hlen => ?_⟩, fun set hfill hset hx hholder hwait =>
    ⟨fun hmeasures hnone => ?_, fun hmeasures hlow y rest hhead => ?_, fun m ix c' hl hc' hhas hopen htest hempty => ?_⟩⟩
  · have hstate : ((s.sampled p false).circuit p.nest p.chamber).state = .idle := by rw [State.circuit_sampled, State.state_taken, hidle]
    refine congrArg Host.Outcome.next (State.pressureSample_stays hzero hrange (State.stateRule_idle hstate) ?_)
    exact hstate.trans hidle.symm
  · exact congrArg (· ++ [s.pressureAt p]) (if_neg (Nat.not_le.mpr hlen))
  · exact congrArg (· ++ [s.pressureAt p]) ((if_pos (Nat.le_of_eq hlen.symm)).trans List.drop_one)
  · have hopen := hmeasures.2.1
    have hw : ((s.filledUp p).requestNext p.nest).arbitrate = s.filledUp p := by
      rw [State.requestNext_of_none (s := s.filledUp p) (hmeasures.no_next rfl)]
      exact State.arbitrate_of_none (hnone.elim (fun h => .inr (.inr h)) fun h => .inr (.inl h))
    have hk : (s.filledUp p).circuit p.nest p.chamber = (s.taken p false).enter .settling := State.circuit_circuitMoved_same
    have hafter := State.afterCircuit_of_open hw (hmeasures.leakResultsDone rfl (by rw [hk]; exact hopen))
      (by rw [show (s.filledUp p).dossier p.nest = s.dossier p.nest from rfl, hmeasures.1]; decide)
    refine ⟨s.filledUp p, congrArg Host.Outcome.next ((State.pressureSample_filled hzero hrange hfill hset hx hholder hwait).trans hafter),
      ?_, ?_, rfl, rfl, rfl, rfl⟩
    · rw [hk]
      rfl
    · rw [hk]
      rfl
  · have hopen := hmeasures.2.1
    have hne : ¬(p.nest = y.nest ∧ p.chamber = y.chamber) := by
      rintro ⟨hn, hc⟩
      exact hwait (hhead ▸ List.mem_cons.mpr (.inl (congrArg₂ CircuitId.mk hn hc)))
    have hgrant := State.arbitrate_of_head (s := s.filledUp p) rfl hlow hhead
    generalize hw : (s.filledUp p).arbitrate = w at hgrant
    have hrequest : ((s.filledUp p).requestNext p.nest).arbitrate = w := by
      rw [State.requestNext_of_none (s := s.filledUp p) (hmeasures.no_next rfl), hw]
    have hk : w.circuit p.nest p.chamber = (s.taken p false).enter .settling := by
      rw [hgrant, State.circuit_modCircuit, if_neg hne]
      exact State.circuit_circuitMoved_same
    have hy : (w.circuit y.nest y.chamber) = ((s.filledUp p).circuit y.nest y.chamber).enter .filling := by
      rw [hgrant, State.circuit_modCircuit_same]
      rfl
    have hd : w.dossier p.nest = s.dossier p.nest := by rw [hgrant]; rfl
    have hafter := State.afterCircuit_of_open hrequest (hmeasures.leakResultsDone (by rw [hgrant]; rfl) (by rw [hk]; exact hopen))
      (by rw [hd, hmeasures.1]; decide)
    refine ⟨w, congrArg Host.Outcome.next ((State.pressureSample_filled hzero hrange hfill hset hx hholder hwait).trans hafter), ?_, ?_, ?_, ?_,
      ?_, ?_⟩
    · rw [hk]
      rfl
    · rw [hgrant]
      exact congrArg (Arbiter.mk (some y) rest) hlow
    · rw [hy]
      rfl
    · rw [hy]
      rfl
    · rw [hgrant]
      rfl
    · rw [hgrant]
      rfl
  · subst hc'
    have hk : (s.filledUp p).circuit p.nest p.chamber = (s.taken p false).enter .settling := State.circuit_circuitMoved_same
    have hrequest := State.requestNext_eq (s := s.filledUp p) (n := p.nest) hzero hl (by rw [hk]; exact fun h => nomatch h)
      (by rw [hk]; exact fun h => nomatch h)
    generalize hv : (s.filledUp p).requestNext p.nest = v at hrequest
    have hvc : v.circuit p.nest p.chamber = (s.taken p false).enter .settling := by
      rw [hrequest, State.circuit_circuitMoved, if_neg (fun h => Chamber.ne_other _ h.2)]
      exact hk
    have hvother : v.circuit p.nest p.chamber.other = { (s.filledUp p).circuit p.nest p.chamber.other with
        state := .waitingAir, count := 0, leakSet := some ix } := by
      rw [hrequest]
      exact State.circuit_circuitMoved_same
    have hva : v.arbiter = ⟨none, [⟨p.nest, p.chamber.other⟩], s.arbiter.supplyLow⟩ := by
      rw [hrequest]
      exact congrArg (fun l => Arbiter.mk none (l ++ [_]) s.arbiter.supplyLow) hempty
    have hvl : v.leakStage p.nest = some ⟨m, ix, none⟩ := by
      rw [hrequest]
      exact PerNest.get_set_same ..
    have hvd : v.dossier p.nest = s.dossier p.nest := by rw [hrequest]; rfl
    have hdone (w : State) (hw : v.arbitrate = w) (hc : w.circuit p.nest p.chamber = v.circuit p.nest p.chamber)
        (hstage : w.leakStage p.nest = v.leakStage p.nest) (hd : w.dossier p.nest = v.dossier p.nest) : s.pressureSample p = w := by
      refine (State.pressureSample_filled hzero hrange hfill hset hx hholder hwait).trans (State.afterCircuit_of_open (by rw [hv, hw]) ?_ ?_)
      · exact State.leakResultsDone_of_open (hstage.trans hvl) hhas (by rw [hc, hvc]; exact hopen)
      · rw [hd, hvd, htest]
        decide
    cases hlow : s.arbiter.supplyLow with
    | true =>
      have hw : v.arbitrate = v := State.arbitrate_of_none (.inr (.inl (by rw [hva]; exact hlow)))
      refine ⟨v, congrArg Host.Outcome.next (hdone v hw rfl rfl rfl), ?_, ?_, ?_, hvl, fun h => (nomatch h), fun _ => ⟨?_, ?_⟩⟩
      · rw [hvc]
        rfl
      · rw [hvother]
      · rw [hvother]
      · rw [hvother]
      · rw [hva, hlow]
    | false =>
      have hgrant := State.arbitrate_of_head (s := v) (x := ⟨p.nest, p.chamber.other⟩) (rest := []) (by rw [hva]) (by rw [hva]; exact hlow)
        (by rw [hva])
      generalize hw : v.arbitrate = w at hgrant
      have hwc : w.circuit p.nest p.chamber = v.circuit p.nest p.chamber := by
        rw [hgrant, State.circuit_modCircuit, if_neg (fun h => Chamber.ne_other _ h.2)]
        rfl
      have hwother : w.circuit p.nest p.chamber.other = (v.circuit p.nest p.chamber.other).enter .filling := by
        rw [hgrant, State.circuit_modCircuit_same]
        rfl
      refine ⟨w, congrArg Host.Outcome.next (hdone w hw hwc (by rw [hgrant]; rfl) (by rw [hgrant]; rfl)), ?_, ?_, ?_, ?_, fun _ => ⟨?_, ?_⟩,
        fun h => (nomatch h)⟩
      · rw [hwc, hvc]
        rfl
      · rw [hwother, hvother]
        rfl
      · rw [hwother]
        rfl
      · rw [hgrant]
        exact hvl
      · rw [hwother]
        rfl
      · rw [hgrant]
        exact congrArg (Arbiter.mk _ []) ((congrArg Arbiter.supplyLow hva).trans hlow)

end Sys2Proof.Machine
end

section
/-! PROOFS. The leak results: settling and measuring. -/

namespace Sys2Proof.Machine

section
variable {s t u w : State} {n : Nest} {c d : Chamber} {set : LeakSet} {p : PressureInput} {x : Int} {k : Circuit} {a : Arbiter} {g : Given}

/-! ### A leak record changed, and its circuit moved -/

/-- The machine with a chamber's leak record changed and its circuit replaced. -/
def State.leakStep (s : State) (n : Nest) (c : Chamber) (f : LeakRecord → LeakRecord) (k : Circuit) (a : Arbiter) : State :=
  (s.modLeakRecord n c f).circuitMoved n c k a

theorem State.dossier_leakStep {f : LeakRecord → LeakRecord} : (s.leakStep n c f k a).dossier n =
    { s.dossier n with leaks := (s.dossier n).leaks.map fun r => if r.chamber = c then f r else r } := PerNest.get_set_same ..

theorem State.dossier_leakStep_other {f : LeakRecord → LeakRecord} : (s.leakStep n c f k a).dossier n.other = s.dossier n.other :=
  PerNest.get_set_other ..

theorem State.circuit_leakStep {f : LeakRecord → LeakRecord} : (s.leakStep n c f k a).circuit n c = k := State.circuit_circuitMoved_same

theorem State.circuit_leakStep_other {f : LeakRecord → LeakRecord} : (s.leakStep n c f k a).circuit n c.other = s.circuit n c.other :=
  State.circuit_circuitMoved_other

/-- A leak record given a result. -/
def LeakRecord.givenResult (r : LeakRecord) (g : Given) : LeakRecord := { r with given := giveResult r.given g }

/-- A pending leak record takes its result (R108). -/
theorem State.leakGiven_of_step (hpending : s.leakIsPending n c)
    (ht : (t.dossier n).leaks = (s.dossier n).leaks.map fun r => if r.chamber = c then r.givenResult g else r) : s.leakGiven t n c g := by
  rw [State.leakGiven, ht]
  refine List.map_congr_left fun r hr => ?_
  by_cases hc : r.chamber = c
  · have hnone := hpending r hr hc
    rw [if_pos hc, if_pos ⟨hc, hnone⟩, LeakRecord.givenResult, hnone]
    rfl
  · rw [if_neg hc, if_neg fun h => hc h.1]

/-- The rules give a result and then move the circuit. -/
theorem State.giveLeak_modCircuit {k₀ : Circuit} (f : Circuit → Circuit) :
    ((s.circuitMoved n c k₀ a).giveLeak n c g).modCircuit n c f =
      s.leakStep n c (fun r => r.givenResult g) (f { k₀ with resultGiven := true }) a := by
  have hgive : (s.circuitMoved n c k₀ a).giveLeak n c g =
      ((s.modLeakRecord n c fun r => r.givenResult g).circuitMoved n c k₀ a).modCircuit n c fun k => { k with resultGiven := true } := rfl
  rw [hgive, State.modCircuit_circuitMoved, State.modCircuit_circuitMoved]
  rfl

/-! ### What follows a step of a measured chamber's circuit that is not IDLE after it -/

/-- The stage in progress at a step: the last result vents what is in HOLDING. -/
structure StepFollowed (v t : State) (n : Nest) : Prop where
  circuits : ∀ d, t.circuit n d =
    if v.leakResultsDone n = true ∧ (v.circuit n d).state = .holding then (v.circuit n d).enter .venting else v.circuit n d
  dossiers : t.dossiers = v.dossiers
  channels : t.channels = v.channels
  arbiter : t.arbiter = v.arbiter
  bench : t.bench = v.bench
  interlock : t.interlock = v.interlock

theorem State.afterCircuit_followed (hnext : ∀ l, u.leakStage n = some l → l.next = none)
    (hgrant : u.arbiter.holder ≠ none ∨ u.arbiter.waiting = [] ∨ u.arbiter.supplyLow = true) (hbusy : (u.circuit n c).state ≠ .idle) :
    StepFollowed u (u.afterCircuit n) n := by
  have hw : (u.requestNext n).arbitrate = u := by
    rw [State.requestNext_of_none hnext]
    exact State.arbitrate_of_none (hgrant.imp id Or.symm)
  rw [State.afterCircuit_of_busy hw hbusy]
  by_cases hdone : u.leakResultsDone n = true
  · rw [if_pos hdone]
    obtain ⟨cs, hv⟩ := u.holdingVented_frame n
    refine ⟨fun d => ?_, by rw [hv], by rw [hv], by rw [hv], by rw [hv], by rw [hv]⟩
    rw [State.circuit_holdingVented]
    exact if_congr ⟨fun h => ⟨hdone, h⟩, fun h => h.2⟩ rfl rfl
  · rw [if_neg hdone]
    exact ⟨fun d => (if_neg fun h => hdone h.1).symm, rfl, rfl, rfl, rfl, rfl⟩

/-- A circuit that is not in HOLDING is left as it is. -/
theorem StepFollowed.circuit_eq (h : StepFollowed u t n) (hstate : (u.circuit n c).state ≠ .holding) : t.circuit n c = u.circuit n c :=
  (h.circuits c).trans (if_neg fun hc => hstate hc.2)

/-! ### The end of settling (R111) -/

theorem State.settleRule_low (hx : x < set.floor) : (s.circuitMoved n c k a).settleRule n c set x =
    s.leakStep n c (fun r => r.givenResult (failed .grossLeak)) ({ k with resultGiven := true }.enter .venting) a := by
  rw [State.settleRule, if_pos hx]
  exact State.giveLeak_modCircuit _

theorem State.settleRule_hold (hx : ¬x < set.floor) (hcount : 10 * set.settleTime ≤ k.count) (hclass : s.classOf n = 0 ∨ s.classOf n = 7) :
    (s.circuitMoved n c k a).settleRule n c set x =
      s.leakStep n c (fun r => r.givenResult (notMeasured .tempHold)) ({ k with resultGiven := true }.enter .venting) a := by
  rw [State.settleRule, if_neg hx, State.circuit_circuitMoved_same, if_pos hcount]
  exact (if_pos hclass).trans (State.giveLeak_modCircuit _)

theorem State.settleRule_measure (hx : ¬x < set.floor) (hcount : 10 * set.settleTime ≤ k.count)
    (hclass : ¬(s.classOf n = 0 ∨ s.classOf n = 7)) : (s.circuitMoved n c k a).settleRule n c set x =
      s.leakStep n c (fun r => { r with classAtStart := some (s.classOf n), pStart := some (meanOf k.window) })
        { k.enter .measuring with pStart := some (meanOf k.window), classAtStart := some (s.classOf n) } a := by
  rw [State.settleRule, if_neg hx, State.circuit_circuitMoved_same, if_pos hcount]
  exact (if_neg hclass).trans (State.modCircuit_circuitMoved (s := s.modLeakRecord n c _) _)

/-! ### The end of measuring (R112) -/

theorem State.measureRule_moved (hcount : 10 * set.measureTime ≤ k.count) (hclass : k.classAtStart ≠ some (s.classOf n)) :
    (s.circuitMoved n c k a).measureRule n c set =
      s.leakStep n c (fun r => r.givenResult (notMeasured .tempMoved)) ({ k with resultGiven := true }.enter set.afterState) a := by
  rw [State.measureRule, State.circuit_circuitMoved_same, if_pos hcount]
  exact (congrArg (fun v : State => v.modCircuit n c _) (if_pos hclass)).trans (State.giveLeak_modCircuit _)

/-- A leak record with the figures of a measurement and its result. -/
def LeakRecord.measured (r : LeakRecord) (deltaP deltaPc : Int) (g : Given) : LeakRecord :=
  { r with deltaP := some deltaP, deltaPc := some deltaPc, given := giveResult r.given g }

theorem State.modLeakRecord_modLeakRecord {f h : LeakRecord → LeakRecord} (hf : ∀ r, (f r).chamber = r.chamber) :
    (s.modLeakRecord n c f).modLeakRecord n c h = s.modLeakRecord n c (h ∘ f) := by
  have hleaks : ((s.dossier n).leaks.map fun r => if r.chamber = c then f r else r).map (fun r => if r.chamber = c then h r else r) =
      (s.dossier n).leaks.map fun r => if r.chamber = c then (h ∘ f) r else r := by
    rw [List.map_map]
    refine List.map_congr_left fun r _ => ?_
    by_cases hr : r.chamber = c
    · simp [hr, hf]
    · simp [hr]
  simp only [State.modLeakRecord, State.modDossier, PerNest.mod, PerNest.get_set_same, PerNest.set_set]
  exact congrArg (fun leaks => { s with dossiers := s.dossiers.set n { s.dossier n with leaks := leaks } }) hleaks

theorem State.measureRule_kept {start deltaP deltaPc : Int} (hcount : 10 * set.measureTime ≤ k.count)
    (hclass : k.classAtStart = some (s.classOf n)) (hstart : k.pStart = some start) (hdelta : deltaP = start - meanOf k.window)
    (hcomp : deltaPc = set.compensated (s.classOf n) deltaP) : (s.circuitMoved n c k a).measureRule n c set =
      s.leakStep n c (fun r => r.measured deltaP deltaPc (if deltaPc ≤ set.decayLimit then passed else failed .decay))
        ({ k with resultGiven := true }.enter set.afterState) a := by
  subst hcomp hdelta
  have hget : k.pStart.getD 0 = start := by rw [hstart]; rfl
  rw [State.measureRule, State.circuit_circuitMoved_same, if_pos hcount]
  refine (congrArg (fun v : State => v.modCircuit n c _) (if_neg (not_not_intro hclass))).trans ?_
  rw [hget]
  refine (State.giveLeak_modCircuit (s := s.modLeakRecord n c _) _).trans ?_
  exact congrArg (fun v : State => v.circuitMoved n c _ a) (State.modLeakRecord_modLeakRecord (s := s) (n := n) (c := c)
    (f := fun r => { r with
      deltaP := some (start - meanOf k.window)
      deltaPc := some (set.compensated (s.classOf n) (start - meanOf k.window)) })
    (h := fun r => r.givenResult (if set.compensated (s.classOf n) (start - meanOf k.window) ≤ set.decayLimit then passed else failed .decay))
    fun _ => rfl)

theorem LeakSet.afterState_autoVent (h : set.afterMeasure = .autoVent) : set.afterState = .venting := by rw [LeakSet.afterState, h]

theorem LeakSet.afterState_hold (h : set.afterMeasure = .hold) : set.afterState = .holding := by rw [LeakSet.afterState, h]

theorem LeakSet.afterState_cases (set : LeakSet) : set.afterState = .venting ∨ set.afterState = .holding := by
  cases h : set.afterMeasure with
  | autoVent => exact .inl (LeakSet.afterState_autoVent h)
  | hold => exact .inr (LeakSet.afterState_hold h)

theorem Chamber.eq_or_other (c d : Chamber) : d = c ∨ d = c.other := by cases c <;> cases d <;> decide

/-- The stage's last result. -/
theorem StepFollowed.done_of_last {m : ChamberSet} {ix : LeakSetIx} {st : CircuitState} (hk : u.circuit n c = { k with resultGiven := true }.enter st)
    (hother : u.circuit n c.other = s.circuit n c.other) (hl : u.leakStage n = some ⟨m, ix, none⟩)
    (hlast : m.has c.other = false ∨ (s.circuit n c.other).resultGiven = true) : u.leakResultsDone n = true := by
  refine (State.leakResultsDone_iff hl).mpr fun d hd => ?_
  rcases Chamber.eq_or_other c d with rfl | rfl
  · rw [hk]
    rfl
  · rw [hother]
    exact hlast.resolve_left (Bool.eq_false_iff.not_left.mpr hd)

theorem LeakSet.afterState_ne {st : CircuitState} (hvent : st ≠ .venting) (hhold : st ≠ .holding) : set.afterState ≠ st := by
  rcases set.afterState_cases with h | h
  · rw [h]
    exact Ne.symm hvent
  · rw [h]
    exact Ne.symm hhold

theorem LeakSet.compensationOf_eq {cls : Nat} {comp : Int} (h : set.compensation[cls - 1]? = some comp) : set.compensationOf cls = comp := by
  rw [LeakSet.compensationOf, List.getD_eq_getElem?_getD, h, Option.getD_some]

/-- Where a circuit goes whose measurement has ended (R108, R112, R113). -/
theorem StepFollowed.measuredEnds {f : LeakRecord → LeakRecord} (hv : StepFollowed u t n)
    (hu : u = s.leakStep n c f ({ k with resultGiven := true }.enter set.afterState) a) :
    s.measuredEnds t n c set.afterMeasure := by
  have hk : u.circuit n c = { k with resultGiven := true }.enter set.afterState := by rw [hu, State.circuit_leakStep]
  have hother : u.circuit n c.other = s.circuit n c.other := by rw [hu, State.circuit_leakStep_other]
  have hstage : u.leakStage n = s.leakStage n := by rw [hu]; rfl
  have hgiven : (t.circuit n c).resultGiven = true := by
    rw [hv.circuits c, hk]
    split <;> rfl
  refine ⟨hgiven, fun hauto => ?_, fun m ix hl => ⟨fun hhas hopen => ⟨fun hhold => ?_, ?_⟩, fun hlast => ⟨?_, fun hhold => ?_⟩⟩⟩
  · have hvent := LeakSet.afterState_autoVent hauto
    rw [hv.circuit_eq (by rw [hk, hvent]; exact fun h => nomatch h), hk, hvent]
    rfl
  · have hdone : u.leakResultsDone n = false := State.leakResultsDone_of_open (hstage.trans hl) hhas (by rw [hother]; exact hopen)
    rw [hv.circuits c, if_neg fun h => Bool.eq_false_iff.mp hdone h.1, hk]
    exact LeakSet.afterState_hold hhold
  · have hdone : u.leakResultsDone n = false := State.leakResultsDone_of_open (hstage.trans hl) hhas (by rw [hother]; exact hopen)
    rw [hv.circuits c.other, if_neg fun h => Bool.eq_false_iff.mp hdone h.1, hother]
  · have hdone := StepFollowed.done_of_last hk hother (hstage.trans hl) hlast
    rw [hv.circuits c, hk]
    rcases set.afterState_cases with hstate | hstate
    · rw [hstate, if_neg fun h => nomatch h.2]
      rfl
    · rw [hstate, if_pos ⟨hdone, rfl⟩]
      rfl
  · have hdone := StepFollowed.done_of_last hk hother (hstage.trans hl) hlast
    rw [hv.circuits c.other, hother, if_pos ⟨hdone, hhold⟩]
    rfl

/-- The step of a measured chamber whose circuit goes to another state than IDLE. -/
theorem State.pressureSample_followed {f : LeakRecord → LeakRecord} (hzero : s.interlock.zero = none) (hrange : pressureInRange p)
    (hm : s.measures p.nest p.chamber) (hgrant : a.holder ≠ none ∨ a.waiting = [] ∨ a.supplyLow = true)
    (hrule : (s.sampled p false).stateRule p.nest p.chamber (s.pressureAt p) = s.leakStep p.nest p.chamber f k a)
    (hmoves : k.state ≠ (s.circuit p.nest p.chamber).state) (hbusy : k.state ≠ .idle) :
    StepFollowed (s.leakStep p.nest p.chamber f k a) (s.pressureSample p) p.nest := by
  rw [State.pressureSample_moves hzero hrange hrule (by rw [State.circuit_leakStep]; exact hmoves)]
  exact State.afterCircuit_followed (hm.no_next rfl) hgrant (c := p.chamber) (by rw [State.circuit_leakStep]; exact hbusy)

theorem StepFollowed.dossier_eq (h : StepFollowed u t n) (m : Nest) : t.dossier m = u.dossier m := congrArg (fun ds => PerNest.get ds m) h.dossiers

/-- A result that sends the circuit to VENTING or HOLDING. -/
theorem StepFollowed.leakGiven (h : StepFollowed (s.leakStep n c (fun r => r.givenResult g) k a) t n) (hpending : s.leakIsPending n c) :
    s.leakGiven t n c g :=
  State.leakGiven_of_step hpending (by rw [h.dossier_eq, State.dossier_leakStep])

theorem StepFollowed.circuit_vented {f : LeakRecord → LeakRecord} (h : StepFollowed (s.leakStep n c f (k.enter .venting) a) t n) :
    t.circuit n c = k.enter .venting := by
  rw [h.circuit_eq (by rw [State.circuit_leakStep]; exact fun h => nomatch h), State.circuit_leakStep]

end

/-- Settles O51: the floor, the end of settling and the end of measuring, and where the circuit goes. -/
theorem settlingAndMeasuringEnd : Obligations.SettlingAndMeasuringEnd := by
  rintro p set mean s hrange hzero hmeasures hpending hset hgrant rfl
  have hstate : ((s.sampled p false).circuit p.nest p.chamber).state = (s.circuit p.nest p.chamber).state := by rw [State.circuit_sampled]; rfl
  have hsampled := (State.leakSetOf_sampled (fault := false)).trans hset
  refine ⟨fun hsettling => ⟨fun hlow => ?_, fun hfloor hcount htime => ⟨fun hclass => ?_, fun hclass hclass' => ?_⟩⟩,
    fun start cls hmeasuring hcount htime hstart hcls hcls1 hcls6 hcomp => ⟨fun hmoved => ?_, fun hkept => ?_⟩⟩
  · have hrule := (State.stateRule_settling (hstate.trans hsettling) hsampled).trans (State.settleRule_low (a := s.arbiter) hlow)
    have hfollow := State.pressureSample_followed hzero hrange hmeasures hgrant hrule (by rw [hsettling]; exact fun h => nomatch h)
      (fun h => nomatch h)
    refine ⟨s.pressureSample p, rfl, hfollow.leakGiven hpending, ?_, ?_, hfollow.channels, hfollow.arbiter⟩
    · rw [hfollow.circuit_vented]
      rfl
    · rw [hfollow.circuit_vented]
      rfl
  · have hrule := (State.stateRule_settling (hstate.trans hsettling) hsampled).trans
      (State.settleRule_hold (a := s.arbiter) (Int.not_lt.mpr hfloor) (Nat.le_of_eq (State.count_taken hcount (by omega)).symm) hclass)
    have hfollow := State.pressureSample_followed hzero hrange hmeasures hgrant hrule (by rw [hsettling]; exact fun h => nomatch h)
      (fun h => nomatch h)
    refine ⟨s.pressureSample p, rfl, hfollow.leakGiven hpending, ?_, hfollow.channels, hfollow.arbiter⟩
    rw [hfollow.circuit_vented]
    rfl
  · have hrule := (State.stateRule_settling (hstate.trans hsettling) hsampled).trans
      (State.settleRule_measure (a := s.arbiter) (Int.not_lt.mpr hfloor) (Nat.le_of_eq (State.count_taken hcount (by omega)).symm) (by omega))
    have hfollow := State.pressureSample_followed hzero hrange hmeasures hgrant hrule (by rw [hsettling]; exact fun h => nomatch h)
      (fun h => nomatch h)
    have hk := hfollow.circuit_eq (c := p.chamber) (by rw [State.circuit_leakStep]; exact fun h => nomatch h)
    rw [State.circuit_leakStep] at hk
    refine ⟨s.pressureSample p, rfl, ?_, ?_, ?_, ?_, ?_, hfollow.channels, hfollow.arbiter⟩
    · rw [hfollow.dossier_eq, State.dossier_leakStep]
      rfl
    all_goals rw [hk]
    all_goals rfl
  · have hrule := (State.stateRule_measuring (x := s.pressureAt p) (hstate.trans hmeasuring) hsampled).trans
      (State.measureRule_moved (a := s.arbiter) (Nat.le_of_eq (State.count_taken hcount (by omega)).symm)
        fun h => hmoved (Option.some.inj (h.symm.trans hcls)))
    have hfollow := State.pressureSample_followed hzero hrange hmeasures hgrant hrule
      (by rw [hmeasuring]; exact LeakSet.afterState_ne (by decide) (by decide)) (LeakSet.afterState_ne (by decide) (by decide))
    exact ⟨s.pressureSample p, rfl, hfollow.leakGiven hpending, hfollow.measuredEnds rfl, hfollow.channels, hfollow.arbiter⟩
  · obtain ⟨comp, hget⟩ : ∃ comp, set.compensation[cls - 1]? = some comp := ⟨_, List.getElem?_eq_getElem (by omega)⟩
    have hdpc : max 0 (start - meanOf (s.taken p false).window - comp) =
        set.compensated (s.classOf p.nest) (start - meanOf (s.taken p false).window) := by
      rw [LeakSet.compensated, hkept, LeakSet.compensationOf_eq hget]
    have hrule := (State.stateRule_measuring (x := s.pressureAt p) (hstate.trans hmeasuring) hsampled).trans
      (State.measureRule_kept (a := s.arbiter) (Nat.le_of_eq (State.count_taken hcount (by omega)).symm) (hcls.trans (congrArg some hkept.symm))
        hstart rfl hdpc)
    have hfollow := State.pressureSample_followed hzero hrange hmeasures hgrant hrule
      (by rw [hmeasuring]; exact LeakSet.afterState_ne (by decide) (by decide)) (LeakSet.afterState_ne (by decide) (by decide))
    refine ⟨s.pressureSample p, comp, _, hget, rfl, rfl, ?_, hfollow.measuredEnds rfl, hfollow.channels, hfollow.arbiter⟩
    rw [hfollow.dossier_eq, State.dossier_leakStep]
    refine List.map_congr_left fun r hr => ?_
    by_cases hc : r.chamber = p.chamber
    · rw [if_pos hc, if_pos hc, LeakRecord.measured, hpending r hr hc]
      rfl
    · rw [if_neg hc, if_neg hc]

end Sys2Proof.Machine
end

section
/-! PROOFS. The time limits of the leak circuits and the end of venting. -/

namespace Sys2Proof.Machine

section
variable {s t u w : State} {n : Nest} {c d : Chamber} {set : LeakSet} {p : PressureInput} {x : Int} {k : Circuit} {a : Arbiter} {g : Given}
  {q : Plan} {i : Nat}

/-! ### The rules (R109, R110, R114) -/

theorem State.waitRule_limit (hcount : 3000 ≤ k.count) : (s.circuitMoved n c k a).waitRule n c =
    s.leakStep n c (fun r => r.givenResult (notMeasured .noAir)) ({ k with resultGiven := true }.enterIdle) (a.without ⟨n, c⟩) := by
  rw [State.waitRule, State.circuit_circuitMoved_same, if_pos hcount]
  exact State.giveLeak_modCircuit (s := s) (a := a.without ⟨n, c⟩) _

theorem State.waitRule_waits (hcount : k.count < 3000) : (s.circuitMoved n c k a).waitRule n c = s.circuitMoved n c k a := by
  rw [State.waitRule, State.circuit_circuitMoved_same, if_neg (Nat.not_le.mpr hcount)]

theorem State.fillRule_timeout (hx : ¬(set.fillTarget : Int) ≤ x) (hcount : 10 * set.fillTimeout ≤ k.count) :
    (s.circuitMoved n c k a).fillRule n c set x =
      s.leakStep n c (fun r => r.givenResult (failed .grossLeak)) ({ k with resultGiven := true }.enter .venting) (a.without ⟨n, c⟩) := by
  rw [State.fillRule, if_neg hx, State.circuit_circuitMoved_same, if_pos hcount]
  exact State.giveLeak_modCircuit (s := s) (a := a.without ⟨n, c⟩) _

theorem State.ventLimitRule_reports (hcount : 1000 ≤ k.count) (hnew : k.ventReported = false) :
    (s.circuitMoved n c k a).ventLimitRule n c = (s.circuitMoved n c { k with ventReported := true } a).reportFault n .ventFail := by
  rw [State.ventLimitRule, State.circuit_circuitMoved_same, if_pos ⟨hcount, hnew⟩, State.modCircuit_circuitMoved]

theorem State.ventRule_vented (hx : x < 500) : (s.circuitMoved n c k a).ventRule n c x = s.circuitMoved n c k.enterIdle a := by
  rw [State.ventRule, if_pos hx, State.modCircuit_circuitMoved]

/-! ### The end of venting (R108, R114, R118) -/

/-- The machine with a circuit vented, before what follows. -/
def State.vented (s : State) (p : PressureInput) : State := s.circuitMoved p.nest p.chamber (s.taken p false).enterIdle s.arbiter

theorem State.circuit_vented : (s.vented p).circuit p.nest p.chamber = (s.taken p false).enterIdle := State.circuit_circuitMoved_same

theorem State.circuit_vented_other : (s.vented p).circuit p.nest p.chamber.other = s.circuit p.nest p.chamber.other :=
  State.circuit_circuitMoved_other

theorem State.resultGiven_vented (d : Chamber) : ((s.vented p).circuit p.nest d).resultGiven = (s.circuit p.nest d).resultGiven := by
  rcases Chamber.eq_or_other p.chamber d with rfl | rfl
  · rw [State.circuit_vented]
    rfl
  · rw [State.circuit_vented_other]

theorem State.pressureSample_vented (hzero : s.interlock.zero = none) (hrange : pressureInRange p)
    (hvent : (s.circuit p.nest p.chamber).state = .venting) (hx : s.pressureAt p < 500) :
    s.pressureSample p = (s.vented p).afterCircuit p.nest := by
  have hstate : ((s.sampled p false).circuit p.nest p.chamber).state = .venting := by rw [State.circuit_sampled]; exact hvent
  refine State.pressureSample_moves hzero hrange ((State.stateRule_venting hstate).trans (State.ventRule_vented hx)) ?_
  rw [State.circuit_vented, hvent]
  exact fun h => nomatch h

/-- Without a chamber to follow and a grant to give nothing happens between the change of state and the stage's check. -/
theorem State.afterCircuit_of_no_grant (hnext : ∀ l, u.leakStage n = some l → l.next = none)
    (hgrant : u.arbiter.holder ≠ none ∨ u.arbiter.waiting = [] ∨ u.arbiter.supplyLow = true) :
    u.afterCircuit n = (u.checkLeakStage n).checkStopping n := by
  rw [State.afterCircuit, State.requestNext_of_none hnext, State.arbitrate_of_none (hgrant.imp id Or.symm)]

/-- The stage's end once its results are given and the circuits IDLE (R108). -/
theorem State.checkLeakStage_ends (hdone : s.leakResultsDone n = true) (hidle : ∀ d, (s.circuit n d).state = .idle) :
    s.checkLeakStage n = (s.setLeakStage n none).stageEnded n := by
  have hvented : s.holdingVented n = s := State.holdingVented_of_none fun d => by rw [hidle d]; exact fun h => nomatch h
  refine (if_pos hdone).trans ?_
  show (if (s.holdingVented n).circuitsIdle n = true then ((s.holdingVented n).setLeakStage n none).stageEnded n else s.holdingVented n) = _
  rw [hvented, if_pos (State.circuitsIdle_iff.mpr hidle)]

/-- The end of a LEAK stage: the walk goes on (R22). -/
theorem State.stageEnded_leak {mask : ChamberSet} {ix : LeakSetIx} (hs : s.stageIs n q i (.leak mask ix)) :
    s.stageEnded n = s.walkStages n q (q.stagesAfter i) := by
  obtain ⟨htest, hplan, hindex, hstage⟩ := hs
  have hsame : (s.modDossier n fun e => e.closeStage (.leak mask ix) (q.stagesAfter i)) = s :=
    congrArg (fun ds => { s with dossiers := ds }) (PerNest.set_get s.dossiers n)
  simp only [State.stageEnded, hplan, hindex, if_pos htest, hstage, hsame]

theorem State.hasJob_eq_true (h : ∃ j ∈ s.engine.queue, j.owner = n) : s.hasJob n = true := by
  obtain ⟨j, hj, howner⟩ := h
  exact Bool.or_eq_true_iff.mpr (.inl (List.any_eq_true.mpr ⟨j, hj, decide_eq_true howner⟩))

theorem State.hasJob_eq_false (hqueue : ∀ j ∈ s.engine.queue, j.owner ≠ n) (hcurrent : ∀ j, s.engine.current = some j → j.owner ≠ n) :
    s.hasJob n = false := by
  refine Bool.or_eq_false_iff.mpr ⟨List.any_eq_false.mpr fun j hj h => hqueue j hj (of_decide_eq_true h), ?_⟩
  have hno : s.engine.current.any (fun j => decide (j.owner = n)) = false := by
    cases hc : s.engine.current with
    | none => rfl
    | some j => exact decide_eq_false (hcurrent j hc)
  rw [hno, Bool.and_false]

/-- The machine whose LEAK stage a vented circuit ends, the walk through the stage list still to go on. -/
theorem State.pressureSample_ends {l : LeakStage} {mask : ChamberSet} (hzero : s.interlock.zero = none) (hrange : pressureInRange p)
    (hvent : (s.circuit p.nest p.chamber).state = .venting) (hx : s.pressureAt p < 500)
    (hother : (s.circuit p.nest p.chamber.other).state = .idle) (hl : s.leakStage p.nest = some l) (hnext : l.next = none)
    (hall : ∀ c, l.measured.has c = true → (s.circuit p.nest c).resultGiven = true)
    (hgrant : s.arbiter.holder ≠ none ∨ s.arbiter.waiting = [] ∨ s.arbiter.supplyLow = true) (hs : s.stageIs p.nest q i (.leak mask l.set)) :
    s.pressureSample p =
      (((s.vented p).setLeakStage p.nest none).walkStages p.nest q (q.stagesAfter i)).checkStopping p.nest := by
  have hdone : (s.vented p).leakResultsDone p.nest = true := (State.leakResultsDone_iff (s := s.vented p) hl).mpr fun d hd =>
    (State.resultGiven_vented d).trans (hall d hd)
  have hidle (d : Chamber) : ((s.vented p).circuit p.nest d).state = .idle := by
    rcases Chamber.eq_or_other p.chamber d with rfl | rfl
    · rw [State.circuit_vented]
      rfl
    · rw [State.circuit_vented_other, hother]
  have hno : ∀ l', (s.vented p).leakStage p.nest = some l' → l'.next = none := fun l' h => by
    obtain rfl := Option.some.inj (hl.symm.trans h)
    exact hnext
  rw [State.pressureSample_vented hzero hrange hvent hx, State.afterCircuit_of_no_grant hno hgrant, State.checkLeakStage_ends hdone hidle,
    State.stageEnded_leak (s := (s.vented p).setLeakStage p.nest none) hs]

/-- The machine with the last stage of a list ended, before the check of R28. -/
def State.listEnded (s : State) (p : PressureInput) : State :=
  ((s.vented p).setLeakStage p.nest none).modDossier p.nest fun e => { e with stageIndex := none }

theorem State.dossier_listEnded : (s.listEnded p).dossier p.nest = { s.dossier p.nest with stageIndex := none } := PerNest.get_set_same ..

theorem State.leakStage_listEnded : (s.listEnded p).leakStage p.nest = none := PerNest.get_set_same ..

/-- A vented circuit ends the last stage of the list: the dossier is JUDGED, or waits for its analysis jobs. -/
theorem State.pressureSample_ends_list {l : LeakStage} {mask : ChamberSet} (hs : s.stageIs p.nest q i (.leak mask l.set))
    (hlast : i + 1 = q.stages.length)
    (h : s.pressureSample p = (((s.vented p).setLeakStage p.nest none).walkStages p.nest q (q.stagesAfter i)).checkStopping p.nest) :
    s.pressureSample p = if s.hasJob p.nest = true then s.listEnded p else (s.listEnded p).enterJudged p.nest := by
  obtain ⟨htest, -, -, -⟩ := hs
  have hd := State.dossier_listEnded (s := s) (p := p)
  have hwalk : ((s.vented p).setLeakStage p.nest none).walkStages p.nest q (q.stagesAfter i) =
      if s.hasJob p.nest = true then s.listEnded p else (s.listEnded p).enterJudged p.nest := by
    rw [Plan.stagesAfter_last hlast]
    show (s.listEnded p).checkTested p.nest = _
    have hjob : (s.listEnded p).hasJob p.nest = s.hasJob p.nest := rfl
    by_cases hbusy : s.hasJob p.nest = true
    · rw [if_pos hbusy]
      exact if_neg fun hc => Bool.eq_false_iff.mp (hjob.symm.trans hc.2.2) hbusy
    · rw [if_neg hbusy]
      exact if_pos ⟨by rw [hd]; exact htest, by rw [hd], hjob.trans (Bool.eq_false_iff.mpr hbusy)⟩
  rw [h, hwalk]
  refine State.checkStopping_of_not_stopping ?_
  split
  · rw [hd]
    exact fun h => nomatch htest.symm.trans h
  · obtain ⟨st, number, pending, plans, reports, causes, hst, hj⟩ := State.enterJudged_eq (s.listEnded p) p.nest
    rw [hj, State.dossier, PerNest.get_set_same]
    exact fun h => by rcases hst with rfl | rfl <;> exact nomatch h

end

end Sys2Proof.Machine
end

section
/-! PROOFS. The pressure sensor fault rule. -/

namespace Sys2Proof.Machine

section
variable {s t u v w : State} {n : Nest} {c d : Chamber} {p : PressureInput} {x : Int} {k : Circuit} {a a' : Arbiter} {g : Given}

/-! ### What the air supply and the LEAK stage do to the circuits -/

/-- From `s` to `t` the arbiter, the circuits and the LEAK stages alone may have changed, no circuit's sensor level and none to IDLE. -/
structure AirStep (s t : State) : Prop where
  frame : ∃ arbiter circuits leakStages, t = { s with arbiter := arbiter, circuits := circuits, leakStages := leakStages }
  fault : ∀ m d, (t.circuit m d).latestFault = (s.circuit m d).latestFault
  busy : ∀ m d, (s.circuit m d).state ≠ .idle → (t.circuit m d).state ≠ .idle

theorem AirStep.refl (s : State) : AirStep s s := ⟨⟨_, _, _, rfl⟩, fun _ _ => rfl, fun _ _ => id⟩

theorem AirStep.trans (h : AirStep s t) (h' : AirStep t u) : AirStep s u := by
  obtain ⟨a, cs, ls, rfl⟩ := h.frame
  obtain ⟨a', cs', ls', rfl⟩ := h'.frame
  exact ⟨⟨_, _, _, rfl⟩, fun m d => (h'.fault m d).trans (h.fault m d), fun m d => h'.busy m d ∘ h.busy m d⟩

/-- A circuit replaced by one with the same sensor level that is not IDLE. -/
theorem State.modCircuit_air {f : Circuit → Circuit} (hfault : (f (s.circuit n c)).latestFault = (s.circuit n c).latestFault)
    (hbusy : (f (s.circuit n c)).state ≠ .idle) : AirStep s (s.modCircuit n c f) := by
  refine ⟨⟨_, _, _, rfl⟩, fun m d => ?_, fun m d h => ?_⟩
  · rw [State.circuit_modCircuit]
    split
    · next heq =>
      obtain ⟨rfl, rfl⟩ := heq
      exact hfault
    · rfl
  · rw [State.circuit_modCircuit]
    split
    · next heq =>
      obtain ⟨rfl, rfl⟩ := heq
      exact hbusy
    · exact h

theorem State.modArbiter_air (f : Arbiter → Arbiter) : AirStep s (s.modArbiter f) := ⟨⟨_, _, _, rfl⟩, fun _ _ => rfl, fun _ _ => id⟩

theorem State.setLeakStage_air (l : Option LeakStage) : AirStep s (s.setLeakStage n l) := ⟨⟨_, _, _, rfl⟩, fun _ _ => rfl, fun _ _ => id⟩

theorem State.arbitrate_air : AirStep s s.arbitrate := by
  rcases arbitrate_cases s with ⟨y, rest, -, -, -, h⟩ | ⟨-, h⟩
  · rw [h]
    exact (State.modArbiter_air _).trans (State.modCircuit_air rfl fun h => nomatch h)
  · rw [h]
    exact AirStep.refl s

theorem State.requestAir_air {ix : LeakSetIx} (hzero : s.interlock.zero = none) : AirStep s (s.requestAir n c ix) := by
  rw [State.requestAir_of_noZero hzero]
  exact (State.modCircuit_air (f := fun k => { k.enter .waitingAir with leakSet := some ix }) rfl fun h => nomatch h).trans
    (State.modArbiter_air _)

theorem State.requestNext_air (hzero : s.interlock.zero = none) : AirStep s (s.requestNext n) := by
  unfold State.requestNext
  split
  · next m ix d hl =>
    extract_lets first
    split
    · exact AirStep.refl s
    · exact (State.setLeakStage_air (s := s) (n := n) (some ⟨m, ix, none⟩)).trans (State.requestAir_air hzero)
  · exact AirStep.refl s

theorem State.holdingVented_air : AirStep s (s.holdingVented n) := by
  have hvent (s : State) (c : Chamber) : AirStep s (s.ventHolding n c) := by
    unfold State.ventHolding
    split
    · exact State.modCircuit_air rfl fun h => nomatch h
    · exact AirStep.refl s
  exact (hvent s .c0).trans (hvent _ .c1)

theorem State.afterCircuit_air (hzero : s.interlock.zero = none) (hbusy : (s.circuit n c).state ≠ .idle) : AirStep s (s.afterCircuit n) := by
  have hgrant : AirStep s (s.requestNext n).arbitrate := (State.requestNext_air hzero).trans State.arbitrate_air
  rw [State.afterCircuit_of_busy rfl (hgrant.busy n c hbusy)]
  split
  · exact hgrant.trans State.holdingVented_air
  · exact hgrant

/-! ### A circuit that the arbiter does not grant -/

/-- A circuit that is not in the list, not in HOLDING and not to follow keeps its state, and gets no grant. -/
theorem State.afterCircuit_leaves (hnext : ∀ l, u.leakStage n = some l → l.next = none) (hbusy : (u.circuit n c).state ≠ .idle)
    (hhold : (u.circuit n c).state ≠ .holding) (hwait : ⟨n, c⟩ ∉ u.arbiter.waiting) :
    (u.afterCircuit n).circuit n c = u.circuit n c ∧ ⟨n, c⟩ ∉ (u.afterCircuit n).arbiter.waiting ∧
      (u.arbiter.holder ≠ some ⟨n, c⟩ → (u.afterCircuit n).arbiter.holder ≠ some ⟨n, c⟩) := by
  have hcircuit : u.arbitrate.circuit n c = u.circuit n c := (State.circuit_arbitrate u n c).resolve_right fun h => hwait h.1
  have harbiter : ⟨n, c⟩ ∉ u.arbitrate.arbiter.waiting ∧
      (u.arbiter.holder ≠ some ⟨n, c⟩ → u.arbitrate.arbiter.holder ≠ some ⟨n, c⟩) := by
    rcases arbitrate_cases u with ⟨y, rest, -, -, hhead, h⟩ | ⟨-, h⟩
    · rw [h]
      rw [hhead, List.mem_cons, not_or] at hwait
      exact ⟨hwait.2, fun _ hy => hwait.1 (Option.some.inj hy).symm⟩
    · rw [h]
      exact ⟨hwait, id⟩
  have hw : (u.requestNext n).arbitrate = u.arbitrate := by rw [State.requestNext_of_none hnext]
  rw [State.afterCircuit_of_busy hw (c := c) (by rw [hcircuit]; exact hbusy)]
  split
  · obtain ⟨cs, hv⟩ := u.arbitrate.holdingVented_frame n
    refine ⟨?_, ?_⟩
    · rw [State.circuit_holdingVented, hcircuit, if_neg hhold]
    · rw [hv]
      exact harbiter
  · exact ⟨hcircuit, harbiter⟩

/-! ### Fault lists only grow at a report (R175) -/

theorem FaultReported.prefix_causes {f : FaultCause} (h : FaultReported s t n f) : (s.faultList n).causes <+: (t.faultList n).causes := by
  by_cases hmem : f ∈ (s.faultList n).causes
  · rw [h.held hmem]
  · rcases Nat.lt_or_ge (s.faultList n).causes.length 4 with hroom | hfull
    · rw [(h.room hmem hroom).1]
      exact List.prefix_append ..
    · rw [(h.full hmem hfull).1]

theorem State.isPending_reportFault {f : FaultCause} {cause : AttentionCause} (h : s.bench.isPending cause = true) :
    (s.reportFault n f).bench.isPending cause = true := by
  rcases reportFault_cases s n f with ⟨hs, -⟩ | ⟨-, -, hs⟩ | ⟨-, -, -, hs⟩
  · rw [hs]
    exact h
  · rw [hs]
    exact isPending_raise_of (s.setFaultList n _) cause (.nestFault n) h
  · rw [hs]
    exact isPending_raise_of (s.setFaultList n _) cause (.nestFault n) h

/-! ### The rule of each state (R117) -/

/-- A circuit of a stage in progress vents, with a result for a pending record; it has left the air supply. -/
theorem State.sensorRule_gives (hst : k.state = .waitingAir ∨ k.state = .filling ∨ k.state = .settling ∨ k.state = .measuring) :
    ∃ a', ((k.state = .waitingAir ∨ k.state = .filling) ∧ a' = a.without ⟨n, c⟩ ∨ k.state ≠ .waitingAir ∧ k.state ≠ .filling ∧ a' = a) ∧
      (s.circuitMoved n c k a).sensorRule n c =
        if s.leakPending n c = true then
          s.leakStep n c (fun r => r.givenResult (notMeasured .sensor)) ({ k with resultGiven := true }.enter .venting) a'
        else s.circuitMoved n c (k.enter .venting) a' := by
  have hgive (a' : Arbiter) : (if (s.circuitMoved n c k a').leakPending n c = true then
      (s.circuitMoved n c k a').giveLeak n c (notMeasured .sensor) else s.circuitMoved n c k a').modCircuit n c (fun k => k.enter .venting) =
        if s.leakPending n c = true then
          s.leakStep n c (fun r => r.givenResult (notMeasured .sensor)) ({ k with resultGiven := true }.enter .venting) a'
        else s.circuitMoved n c (k.enter .venting) a' := by
    have hsame : (s.circuitMoved n c k a').leakPending n c = s.leakPending n c := rfl
    rw [hsame]
    split
    · exact State.giveLeak_modCircuit _
    · exact State.modCircuit_circuitMoved _
  have hstate : ((s.circuitMoved n c k a).circuit n c).state = k.state := by rw [State.circuit_circuitMoved_same]
  unfold State.sensorRule
  extract_lets vent give
  rcases hst with h | h | h | h
  · refine ⟨a.without ⟨n, c⟩, .inl ⟨.inl h, rfl⟩, ?_⟩
    rw [hstate, h]
    exact hgive _
  · refine ⟨a.without ⟨n, c⟩, .inl ⟨.inr h, rfl⟩, ?_⟩
    rw [hstate, h]
    exact hgive _
  · refine ⟨a, .inr ⟨by rw [h]; decide, by rw [h]; decide, rfl⟩, ?_⟩
    rw [hstate, h]
    exact hgive _
  · refine ⟨a, .inr ⟨by rw [h]; decide, by rw [h]; decide, rfl⟩, ?_⟩
    rw [hstate, h]
    exact hgive _

theorem State.sensorRule_idle (hst : k.state = .idle) : (s.circuitMoved n c k a).sensorRule n c = s.circuitMoved n c k a := by
  have hstate : ((s.circuitMoved n c k a).circuit n c).state = .idle := by rw [State.circuit_circuitMoved_same, hst]
  unfold State.sensorRule
  rw [hstate]

theorem State.sensorRule_holding (hst : k.state = .holding) :
    (s.circuitMoved n c k a).sensorRule n c = s.circuitMoved n c (k.enter .venting) a := by
  have hstate : ((s.circuitMoved n c k a).circuit n c).state = .holding := by rw [State.circuit_circuitMoved_same, hst]
  unfold State.sensorRule
  rw [hstate]
  exact State.modCircuit_circuitMoved _

theorem State.sensorRule_venting (hst : k.state = .venting) :
    (s.circuitMoved n c k a).sensorRule n c = (s.circuitMoved n c k a).ventLimitRule n c := by
  have hstate : ((s.circuitMoved n c k a).circuit n c).state = .venting := by rw [State.circuit_circuitMoved_same, hst]
  unfold State.sensorRule
  rw [hstate]

/-! ### A faulty sample as a whole (R100, R165) -/

/-- The machine with a sensor fault reported and the faulty sample taken, before its circuit's rule. -/
def State.faultTaken (s : State) (p : PressureInput) : State :=
  (s.reportFault p.nest .sensorPressure).circuitMoved p.nest p.chamber (s.taken p true) s.arbiter

theorem pressureFault_eq_true (h : ¬pressureInRange p) : pressureFault p.raw = true := by
  by_contra hno
  refine h ?_
  rw [pressureFault, Bool.or_eq_true, decide_eq_true_iff, decide_eq_true_iff, not_or] at hno
  exact ⟨Int.not_lt.mp hno.1, Int.not_lt.mp hno.2⟩

theorem State.pressureSample_faulty (hzero : s.interlock.zero = none) (hrange : ¬pressureInRange p)
    (hv : (s.faultTaken p).sensorRule p.nest p.chamber = v) :
    s.pressureSample p = if (v.circuit p.nest p.chamber).state = (s.circuit p.nest p.chamber).state then v else v.afterCircuit p.nest := by
  have hfault := pressureFault_eq_true hrange
  obtain ⟨i, b, hr⟩ := s.reportFault_frame p.nest .sensorPressure
  subst hv
  rw [State.faultTaken, hr]
  simp only [State.pressureSample, State.zeroSample_of_none hzero, hfault, if_true, State.circuitSample, hr]
  rfl

theorem State.zero_reportFault {f : FaultCause} : (s.reportFault n f).interlock.zero = s.interlock.zero := by
  rcases reportFault_cases s n f with ⟨h, -⟩ | ⟨-, -, h⟩ | ⟨-, -, -, h⟩ <;> rw [h] <;> rfl

theorem State.circuit_faultTaken : (s.faultTaken p).circuit p.nest p.chamber = s.taken p true := State.circuit_circuitMoved_same

/-- What the reports and the circuit moves of a faulty sample keep of the machine that has taken it. -/
structure SensorNoted (s t : State) (n : Nest) (c : Chamber) : Prop where
  latest : (t.circuit n c).latestFault = (s.circuit n c).latestFault
  causes : (s.faultList n).causes <+: (t.faultList n).causes
  pending : ∀ cause, s.bench.isPending cause = true → t.bench.isPending cause = true

theorem SensorNoted.refl (s : State) (n : Nest) (c : Chamber) : SensorNoted s s n c := ⟨rfl, List.prefix_refl _, fun _ => id⟩

theorem SensorNoted.trans (h : SensorNoted s t n c) (h' : SensorNoted t u n c) : SensorNoted s u n c :=
  ⟨h'.latest.trans h.latest, h.causes.trans h'.causes, fun cause => h'.pending cause ∘ h.pending cause⟩

theorem AirStep.noted (h : AirStep s t) : SensorNoted s t n c := by
  obtain ⟨⟨arbiter, circuits, leakStages, rfl⟩, hfault, -⟩ := h
  exact ⟨hfault n c, List.prefix_refl _, fun _ => id⟩

theorem State.ventLimitRule_noted : SensorNoted s (s.ventLimitRule n c) n c := by
  unfold State.ventLimitRule
  split
  · have hreport := (s.modCircuit n c fun k => { k with ventReported := true }).reportFault_reported n .ventFail
    refine ⟨?_, hreport.prefix_causes, fun cause h => State.isPending_reportFault h⟩
    rw [State.circuit, hreport.circuits]
    exact (congrArg Circuit.latestFault (State.circuit_modCircuit_same s n c fun k => { k with ventReported := true })).trans rfl
  · exact SensorNoted.refl s n c

/-- A faulty sample of a circuit of a stage in progress: the circuit vents, and the stage and the supply follow. -/
theorem State.pressureSample_vents (hzero : s.interlock.zero = none) (hrange : ¬pressureInRange p)
    (hst : (s.circuit p.nest p.chamber).state = .waitingAir ∨ (s.circuit p.nest p.chamber).state = .filling ∨
      (s.circuit p.nest p.chamber).state = .settling ∨ (s.circuit p.nest p.chamber).state = .measuring) :
    ∃ a' v, (((s.circuit p.nest p.chamber).state = .waitingAir ∨ (s.circuit p.nest p.chamber).state = .filling) ∧
        a' = s.arbiter.without ⟨p.nest, p.chamber⟩ ∨
      (s.circuit p.nest p.chamber).state ≠ .waitingAir ∧ (s.circuit p.nest p.chamber).state ≠ .filling ∧ a' = s.arbiter) ∧
      s.pressureSample p = v.afterCircuit p.nest ∧
      v = if s.leakPending p.nest p.chamber = true then
          (s.reportFault p.nest .sensorPressure).leakStep p.nest p.chamber (fun r => r.givenResult (notMeasured .sensor))
            ({ s.taken p true with resultGiven := true }.enter .venting) a'
        else (s.reportFault p.nest .sensorPressure).circuitMoved p.nest p.chamber ((s.taken p true).enter .venting) a' := by
  obtain ⟨i, b, hr⟩ := s.reportFault_frame p.nest .sensorPressure
  have hpending : (s.reportFault p.nest .sensorPressure).leakPending p.nest p.chamber = s.leakPending p.nest p.chamber := by rw [hr]; rfl
  obtain ⟨a', ha', hrule⟩ := State.sensorRule_gives (s := s.reportFault p.nest .sensorPressure) (n := p.nest) (c := p.chamber)
    (a := s.arbiter) (k := s.taken p true) hst
  rw [hpending] at hrule
  refine ⟨a', _, ha', ?_, rfl⟩
  rw [State.pressureSample_faulty hzero hrange hrule]
  refine if_neg ?_
  have hne : CircuitState.venting ≠ (s.circuit p.nest p.chamber).state := by rcases hst with h | h | h | h <;> rw [h] <;> decide
  split
  · rw [State.circuit_leakStep]
    exact hne
  · rw [State.circuit_circuitMoved_same]
    exact hne

theorem State.pressureSample_vents_held (hzero : s.interlock.zero = none) (hrange : ¬pressureInRange p)
    (hst : (s.circuit p.nest p.chamber).state = .holding) : s.pressureSample p =
      ((s.reportFault p.nest .sensorPressure).circuitMoved p.nest p.chamber ((s.taken p true).enter .venting) s.arbiter).afterCircuit p.nest := by
  rw [State.pressureSample_faulty hzero hrange (State.sensorRule_holding (k := s.taken p true) hst), State.circuit_circuitMoved_same, hst]
  exact if_neg fun h => nomatch h

theorem State.pressureSample_faulty_idle (hzero : s.interlock.zero = none) (hrange : ¬pressureInRange p)
    (hst : (s.circuit p.nest p.chamber).state = .idle) : s.pressureSample p = s.faultTaken p := by
  rw [State.pressureSample_faulty hzero hrange (State.sensorRule_idle (k := s.taken p true) hst)]
  exact if_pos (congrArg Circuit.state State.circuit_faultTaken)

theorem State.circuits_ventLimitRule_state (s : State) (n : Nest) (c : Chamber) :
    ((s.ventLimitRule n c).circuit n c).state = (s.circuit n c).state := by
  unfold State.ventLimitRule
  split
  · have hreport := (s.modCircuit n c fun k => { k with ventReported := true }).reportFault_reported n .ventFail
    rw [State.circuit, hreport.circuits]
    exact (congrArg Circuit.state (State.circuit_modCircuit_same s n c fun k => { k with ventReported := true })).trans rfl
  · rfl

theorem State.pressureSample_faulty_venting (hzero : s.interlock.zero = none) (hrange : ¬pressureInRange p)
    (hst : (s.circuit p.nest p.chamber).state = .venting) : s.pressureSample p = (s.faultTaken p).ventLimitRule p.nest p.chamber := by
  rw [State.pressureSample_faulty hzero hrange (State.sensorRule_venting (k := s.taken p true) hst)]
  exact if_pos ((State.circuits_ventLimitRule_state (s.faultTaken p) p.nest p.chamber).trans (congrArg Circuit.state State.circuit_faultTaken))

/-- Whatever state a circuit is in, a faulty sample is noted in it and its report stands. -/
theorem State.pressureSample_noted (hzero : s.interlock.zero = none) (hrange : ¬pressureInRange p) :
    SensorNoted (s.faultTaken p) (s.pressureSample p) p.nest p.chamber := by
  have hzero' : (s.reportFault p.nest .sensorPressure).interlock.zero = none := State.zero_reportFault.trans hzero
  have hlatest : ((s.faultTaken p).circuit p.nest p.chamber).latestFault = true := by rw [State.circuit_faultTaken]; rfl
  have hgive (h : (s.circuit p.nest p.chamber).state = .waitingAir ∨ (s.circuit p.nest p.chamber).state = .filling ∨
      (s.circuit p.nest p.chamber).state = .settling ∨ (s.circuit p.nest p.chamber).state = .measuring) :
      SensorNoted (s.faultTaken p) (s.pressureSample p) p.nest p.chamber := by
    obtain ⟨a', v, -, hv, hdef⟩ := State.pressureSample_vents hzero hrange h
    have hk : (v.circuit p.nest p.chamber).state ≠ .idle ∧ (v.circuit p.nest p.chamber).latestFault = true ∧
        v.interlock = (s.faultTaken p).interlock ∧ v.bench = (s.faultTaken p).bench := by
      rw [hdef]
      split
      · rw [State.circuit_leakStep]
        exact ⟨nofun, rfl, rfl, rfl⟩
      · rw [State.circuit_circuitMoved_same]
        exact ⟨nofun, rfl, rfl, rfl⟩
    obtain ⟨hbusy, hfault, hinterlock, hbench⟩ := hk
    rw [hv]
    refine SensorNoted.trans ⟨hfault.trans hlatest.symm, ?_, ?_⟩ (State.afterCircuit_air ?_ hbusy).noted
    · rw [State.faultList, State.faultList, hinterlock]
    · rw [hbench]
      exact fun _ => id
    · rw [hinterlock]
      exact hzero'
  cases hst : (s.circuit p.nest p.chamber).state with
  | idle =>
    rw [State.pressureSample_faulty_idle hzero hrange hst]
    exact SensorNoted.refl ..
  | waitingAir => exact hgive (.inl hst)
  | filling => exact hgive (.inr (.inl hst))
  | settling => exact hgive (.inr (.inr (.inl hst)))
  | measuring => exact hgive (.inr (.inr (.inr hst)))
  | holding =>
    rw [State.pressureSample_vents_held hzero hrange hst]
    generalize hu : (s.reportFault p.nest .sensorPressure).circuitMoved p.nest p.chamber ((s.taken p true).enter .venting) s.arbiter = u
    have hk : u.circuit p.nest p.chamber = (s.taken p true).enter .venting := by rw [← hu, State.circuit_circuitMoved_same]
    have hnoted : SensorNoted (s.faultTaken p) u p.nest p.chamber := by
      refine ⟨by rw [hk, hlatest]; rfl, ?_, ?_⟩
      · rw [← hu]
        exact List.prefix_refl _
      · rw [← hu]
        exact fun _ => id
    exact hnoted.trans (State.afterCircuit_air (by rw [← hu]; exact hzero') (by rw [hk]; exact nofun)).noted
  | venting =>
    rw [State.pressureSample_faulty_venting hzero hrange hst]
    exact State.ventLimitRule_noted

end

end Sys2Proof.Machine
end

section
/-! PROOFS. The time limits, the vent and the sensor fault of a leak circuit. -/

namespace Sys2Proof.Machine

section
variable {s t u v w : State} {n : Nest} {c d : Chamber} {set : LeakSet} {p : PressureInput} {k : Circuit} {a : Arbiter}

/-! ### The air wait and the fill timeout (R109, R110) -/

/-- The air wait ends without air while the other chamber is still measured. -/
theorem State.pressureSample_noAir (hzero : s.interlock.zero = none) (hrange : pressureInRange p)
    (hwait : (s.circuit p.nest p.chamber).state = .waitingAir) (hm : s.measures p.nest p.chamber) {m : ChamberSet} {ix : LeakSetIx}
    (hl : s.leakStage p.nest = some ⟨m, ix, none⟩) (hother : m.has p.chamber.other = true)
    (hopen : (s.circuit p.nest p.chamber.other).resultGiven = false) (hholder : s.arbiter.holder ≠ none)
    (hnot : s.arbiter.holder ≠ some ⟨p.nest, p.chamber⟩) (hcount : (s.circuit p.nest p.chamber).count = 2999) :
    s.pressureSample p = s.leakStep p.nest p.chamber (fun r => r.givenResult (notMeasured .noAir))
      ({ s.taken p false with resultGiven := true }.enterIdle) (s.arbiter.without ⟨p.nest, p.chamber⟩) := by
  have hstate : ((s.sampled p false).circuit p.nest p.chamber).state = .waitingAir := by rw [State.circuit_sampled]; exact hwait
  have hlimit : 3000 ≤ (s.taken p false).count := Nat.le_of_eq (State.count_taken (by omega) (by omega)).symm
  have hrule := (State.stateRule_waitingAir (x := s.pressureAt p) hstate).trans (State.waitRule_limit (s := s) (a := s.arbiter) hlimit)
  rw [State.pressureSample_moves hzero hrange hrule (by rw [State.circuit_leakStep, hwait]; exact nofun)]
  generalize hu : s.leakStep p.nest p.chamber (fun r => r.givenResult (notMeasured .noAir))
    ({ s.taken p false with resultGiven := true }.enterIdle) (s.arbiter.without ⟨p.nest, p.chamber⟩) = u
  have hstage : u.leakStage p.nest = s.leakStage p.nest := by rw [← hu]; rfl
  have hgrant : (u.requestNext p.nest).arbitrate = u := by
    rw [State.requestNext_of_none (hm.no_next hstage)]
    refine State.arbitrate_of_none (.inl ?_)
    rw [← hu]
    show (if s.arbiter.holder = some ⟨p.nest, p.chamber⟩ then none else s.arbiter.holder) ≠ none
    rw [if_neg hnot]
    exact hholder
  refine State.afterCircuit_of_open hgrant (State.leakResultsDone_of_open (hstage.trans hl) hother ?_) ?_
  · rw [← hu, State.circuit_leakStep_other]
    exact hopen
  · rw [← hu, State.dossier_leakStep]
    exact fun h => nomatch hm.1.symm.trans h

theorem State.pressureSample_waits (hzero : s.interlock.zero = none) (hrange : pressureInRange p)
    (hwait : (s.circuit p.nest p.chamber).state = .waitingAir) (hcount : (s.circuit p.nest p.chamber).count < 2999) :
    s.pressureSample p = s.sampled p false := by
  have hstate : ((s.sampled p false).circuit p.nest p.chamber).state = .waitingAir := by rw [State.circuit_sampled]; exact hwait
  have hbelow : (s.taken p false).count < 3000 := by rw [State.count_taken rfl (by omega)]; omega
  exact State.pressureSample_stays hzero hrange ((State.stateRule_waitingAir hstate).trans (State.waitRule_waits hbelow))
    (hstate.trans hwait.symm)

theorem Arbiter.without_of_empty {id : CircuitId} (hholder : a.holder = some id) (hempty : a.waiting = []) :
    a.without id = { a with holder := none } := by
  rw [Arbiter.without, if_pos hholder, hempty]
  rfl

theorem State.pressureSample_timeout (hzero : s.interlock.zero = none) (hrange : pressureInRange p)
    (hfill : (s.circuit p.nest p.chamber).state = .filling) (hset : s.leakSetOf p.nest p.chamber = some set)
    (hm : s.measures p.nest p.chamber) (hx : s.pressureAt p < set.fillTarget)
    (hcount : (s.circuit p.nest p.chamber).count + 1 = 10 * set.fillTimeout) (htime : 10 * set.fillTimeout ≤ 6000)
    (hholder : s.arbiter.holder = some ⟨p.nest, p.chamber⟩) (hempty : s.arbiter.waiting = []) :
    StepFollowed (s.leakStep p.nest p.chamber (fun r => r.givenResult (failed .grossLeak))
      ({ s.taken p false with resultGiven := true }.enter .venting) { s.arbiter with holder := none }) (s.pressureSample p) p.nest := by
  have hstate : ((s.sampled p false).circuit p.nest p.chamber).state = .filling := by rw [State.circuit_sampled]; exact hfill
  have hlimit : 10 * set.fillTimeout ≤ (s.taken p false).count := Nat.le_of_eq (State.count_taken hcount (by omega)).symm
  have hrule := (State.stateRule_filling hstate (State.leakSetOf_sampled.trans hset)).trans
    (State.fillRule_timeout (s := s) (a := s.arbiter) (Int.not_le.mpr hx) hlimit)
  rw [Arbiter.without_of_empty hholder hempty] at hrule
  exact State.pressureSample_followed hzero hrange hm (.inr (.inl hempty)) hrule (by rw [hfill]; exact nofun) nofun

/-! ### The vent limit (R114) -/

theorem State.pressureSample_ventLimit (hzero : s.interlock.zero = none) (hrange : pressureInRange p)
    (hvent : (s.circuit p.nest p.chamber).state = .venting) (hx : 500 ≤ s.pressureAt p) (hcount : (s.circuit p.nest p.chamber).count = 999)
    (hnew : (s.circuit p.nest p.chamber).ventReported = false) : s.pressureSample p =
      (s.circuitMoved p.nest p.chamber { s.taken p false with ventReported := true } s.arbiter).reportFault p.nest .ventFail := by
  have hstate : ((s.sampled p false).circuit p.nest p.chamber).state = .venting := by rw [State.circuit_sampled]; exact hvent
  have hlimit : 1000 ≤ (s.taken p false).count := Nat.le_of_eq (State.count_taken (by omega) (by omega)).symm
  have hventRule : (s.sampled p false).ventRule p.nest p.chamber (s.pressureAt p) = (s.sampled p false).ventLimitRule p.nest p.chamber :=
    if_neg (Int.not_lt.mpr hx)
  refine State.pressureSample_stays hzero hrange ((State.stateRule_venting hstate).trans (hventRule.trans
    (State.ventLimitRule_reports hlimit hnew))) ?_
  have hreport := State.reportFault_reported (s.circuitMoved p.nest p.chamber { s.taken p false with ventReported := true } s.arbiter) p.nest .ventFail
  rw [State.circuit, hreport.circuits]
  exact (congrArg Circuit.state (State.circuit_circuitMoved_same (s := s) (n := p.nest) (c := p.chamber)
    (k := { s.taken p false with ventReported := true }) (a := s.arbiter))).trans rfl

/-- A vented circuit of a nest without a LEAK stage: the condition of R27 alone is looked at. -/
theorem State.pressureSample_stopping (hzero : s.interlock.zero = none) (hrange : pressureInRange p)
    (hvent : (s.circuit p.nest p.chamber).state = .venting) (hx : s.pressureAt p < 500) (hl : s.leakStage p.nest = none)
    (hgrant : s.arbiter.holder ≠ none ∨ s.arbiter.waiting = [] ∨ s.arbiter.supplyLow = true) :
    s.pressureSample p = (s.vented p).checkStopping p.nest := by
  have hstage : (s.vented p).leakStage p.nest = none := hl
  have hopen : (s.vented p).leakResultsDone p.nest = false := by simp only [State.leakResultsDone, hstage]
  rw [State.pressureSample_vented hzero hrange hvent hx, State.afterCircuit_of_no_grant (fun l h => nomatch hstage.symm.trans h) hgrant,
    State.checkLeakStage_of_open hopen]

/-! ### The sensor fault of a measured chamber (R117) -/

theorem State.leakPending_of_pending (hpending : s.leakIsPending n c) (hsome : ∃ r ∈ (s.dossier n).leaks, r.chamber = c) :
    s.leakPending n c = true := by
  obtain ⟨r, hr, hc⟩ := hsome
  cases hfind : s.leakRecord n c with
  | none => exact absurd (decide_eq_true hc) (List.find?_eq_none.mp hfind r hr)
  | some r' =>
    have hnone := hpending r' (List.mem_of_find?_eq_some hfind) 
      (of_decide_eq_true (List.find?_some (p := fun r : LeakRecord => decide (r.chamber = c)) hfind))
    simp only [State.leakPending, hfind, hnone, Option.isNone_none]

theorem State.measures.vents_at_fault (hm : s.measures p.nest p.chamber) (hzero : s.interlock.zero = none) (hrange : ¬pressureInRange p)
    (hst : (s.circuit p.nest p.chamber).state = .waitingAir ∨ (s.circuit p.nest p.chamber).state = .filling ∨
      (s.circuit p.nest p.chamber).state = .settling ∨ (s.circuit p.nest p.chamber).state = .measuring)
    (hpending : s.leakIsPending p.nest p.chamber) (hlist : s.listSound p.nest)
    (hsome : ∃ r ∈ (s.dossier p.nest).leaks, r.chamber = p.chamber) :
    (s.pressureSample p).circuit p.nest p.chamber = { s.taken p true with resultGiven := true }.enter .venting ∧
      s.leakGiven (s.pressureSample p) p.nest p.chamber ⟨.notMeasured, .sensor⟩ ∧
      (((s.circuit p.nest p.chamber).state = .waitingAir ∨ (s.circuit p.nest p.chamber).state = .filling) →
        ⟨p.nest, p.chamber⟩ ∉ (s.pressureSample p).arbiter.waiting ∧ (s.pressureSample p).arbiter.holder ≠ some ⟨p.nest, p.chamber⟩) := by
  obtain ⟨i, b, hr⟩ := s.reportFault_frame p.nest .sensorPressure
  obtain ⟨a', v, ha', ht, hv⟩ := State.pressureSample_vents hzero hrange hst
  rw [if_pos (State.leakPending_of_pending hpending hsome), hr] at hv
  have hk : v.circuit p.nest p.chamber = { s.taken p true with resultGiven := true }.enter .venting := by rw [hv, State.circuit_leakStep]
  have hva : v.arbiter = a' := by rw [hv]; rfl
  have hzero' : v.interlock.zero = none := by
    rw [hv]
    exact (congrArg (fun u : State => u.interlock.zero) hr).symm.trans (State.zero_reportFault.trans hzero)
  have hwait : ⟨p.nest, p.chamber⟩ ∉ v.arbiter.waiting := by
    rw [hva]
    rcases ha' with ⟨-, h⟩ | ⟨hnot, -, h⟩
    · rw [h]
      exact fun hmem => of_decide_eq_true (List.mem_filter.mp hmem).2 rfl
    · rw [h]
      exact fun hmem => hnot (hlist p.chamber hmem)
  have hstage : v.leakStage p.nest = s.leakStage p.nest := by rw [hv]; rfl
  obtain ⟨hcircuit, hfree, hholder⟩ := State.afterCircuit_leaves (hm.no_next hstage) (c := p.chamber) (by rw [hk]; exact nofun)
    (by rw [hk]; exact nofun) hwait
  have hair := State.afterCircuit_air hzero' (n := p.nest) (c := p.chamber) (by rw [hk]; exact nofun)
  rw [ht]
  refine ⟨hcircuit.trans hk, State.leakGiven_of_step hpending ?_, fun hair' => ⟨hfree, hholder ?_⟩⟩
  · obtain ⟨arbiter, circuits, stages, hframe⟩ := hair.frame
    rw [hframe]
    show (v.dossier p.nest).leaks = _
    rw [hv, State.dossier_leakStep]
    rfl
  · rw [hva]
    rcases ha' with ⟨-, h⟩ | ⟨hnot, hnot', -⟩
    · rw [h]
      show (if s.arbiter.holder = some ⟨p.nest, p.chamber⟩ then none else s.arbiter.holder) ≠ _
      split
      · exact nofun
      · next hne => exact hne
    · exact absurd hair' (not_or.mpr ⟨hnot, hnot'⟩)

theorem State.held_vents_at_fault (hzero : s.interlock.zero = none) (hrange : ¬pressureInRange p)
    (hst : (s.circuit p.nest p.chamber).state = .holding) (hlist : s.listSound p.nest) (hnext : ∀ l, s.leakStage p.nest = some l → l.next = none) :
    (s.pressureSample p).circuit p.nest p.chamber = (s.taken p true).enter .venting ∧ (s.pressureSample p).dossiers = s.dossiers := by
  have hreport := s.reportFault_reported p.nest .sensorPressure
  obtain ⟨i, b, hr⟩ := s.reportFault_frame p.nest .sensorPressure
  rw [State.pressureSample_vents_held hzero hrange hst]
  generalize hu : (s.reportFault p.nest .sensorPressure).circuitMoved p.nest p.chamber ((s.taken p true).enter .venting) s.arbiter = u
  have hk : u.circuit p.nest p.chamber = (s.taken p true).enter .venting := by rw [← hu, State.circuit_circuitMoved_same]
  have hstage : u.leakStage p.nest = s.leakStage p.nest := by rw [← hu, hr]; rfl
  have hwait : ⟨p.nest, p.chamber⟩ ∉ u.arbiter.waiting := by
    rw [← hu]
    exact fun hmem => nomatch hst.symm.trans (hlist p.chamber hmem)
  obtain ⟨hcircuit, -, -⟩ := State.afterCircuit_leaves (u := u) (fun l h => hnext l (hstage.symm.trans h)) (c := p.chamber)
    (by rw [hk]; exact nofun) (by rw [hk]; exact nofun) hwait
  obtain ⟨arbiter, circuits, stages, hframe⟩ := (State.afterCircuit_air (s := u) (n := p.nest) (c := p.chamber)
    (by rw [← hu]; exact State.zero_reportFault.trans hzero) (by rw [hk]; exact nofun)).frame
  refine ⟨hcircuit.trans hk, ?_⟩
  rw [hframe, ← hu]
  exact hreport.dossiers

theorem State.ventLimitRule_frame (s : State) (n : Nest) (c : Chamber) :
    ∃ i b cs, s.ventLimitRule n c = { s with interlock := i, bench := b, circuits := cs } := by
  unfold State.ventLimitRule
  split
  · obtain ⟨i, b, h⟩ := (s.modCircuit n c fun k => { k with ventReported := true }).reportFault_frame n .ventFail
    exact ⟨i, b, _, h⟩
  · exact ⟨s.interlock, s.bench, s.circuits, rfl⟩

end

/-- Settles O50: the air wait, the fill timeout, the vent limit, the end of venting and what it completes, and the sensor fault rule. -/
theorem leakTimeLimitsAct : Obligations.LeakTimeLimitsAct := by
  refine ⟨fun p s hzero hrange => ⟨fun hwait hm hpending ⟨m, ix, hl, hother⟩ hopen hholder hnot => ⟨fun hcount => ?_, fun hcount => ?_⟩,
    fun set hfill hset hm hpending hx hcount htime hholder hempty => ?_, fun hvent hx hcount hnew => ?_,
    fun hvent hx htest ⟨m, ix, c, hl, hhas, hopen⟩ hgrant => ?_, fun l q i mask hvent hx hother hl hnext hall hgrant hs => ⟨fun hlast => ?_,
      fun a as hstage hskip hattempts => ?_⟩, fun hvent hx hstop hl hgrant => ⟨fun hbusy => ?_, fun hother henable hset hstopped => ?_⟩⟩,
    fun p s hzero hrange => ?_⟩
  · refine ⟨s.pressureSample p, rfl, ?_⟩
    rw [State.pressureSample_noAir hzero hrange hwait hm hl hother hopen hholder hnot hcount]
    refine ⟨State.leakGiven_of_step hpending (by rw [State.dossier_leakStep]; rfl), ?_, ?_, ?_, rfl, State.dossier_leakStep_other, rfl⟩
    all_goals rw [State.circuit_leakStep]
    all_goals rfl
  · exact congrArg Host.Outcome.next (State.pressureSample_waits hzero hrange hwait hcount)
  · have hfollow := State.pressureSample_timeout hzero hrange hfill hset hm hx hcount htime hholder hempty
    refine ⟨s.pressureSample p, rfl, hfollow.leakGiven hpending, ?_, ?_, ?_, hfollow.arbiter, ?_, hfollow.channels⟩
    · rw [hfollow.circuit_vented]
      rfl
    · rw [hfollow.circuit_vented]
      rfl
    · rw [hfollow.circuit_vented]
      rfl
    · rw [hfollow.dossier_eq, State.dossier_leakStep_other]
  · have heq := State.pressureSample_ventLimit hzero hrange hvent hx hcount hnew
    generalize hu : s.circuitMoved p.nest p.chamber { s.taken p false with ventReported := true } s.arbiter = u at heq
    have hreport := u.reportFault_reported p.nest .ventFail
    obtain ⟨i, b, hframe⟩ := u.reportFault_frame p.nest .ventFail
    have hlist : u.faultList p.nest = s.faultList p.nest := by rw [← hu]; rfl
    refine ⟨s.pressureSample p, rfl, ?_⟩
    rw [heq]
    refine ⟨?_, fun hfresh hroom => ?_, ?_, ?_, ?_⟩
    · rw [State.circuit, hreport.circuits, ← hu]
      exact State.circuit_circuitMoved_same
    · rw [← hlist] at hfresh hroom ⊢
      exact hreport.room hfresh hroom
    · rw [hreport.dossiers, ← hu]
      rfl
    · rw [hframe, ← hu]
      rfl
    · rw [hreport.channels, ← hu]
      rfl
  · have hno : ∀ l, (s.vented p).leakStage p.nest = some l → l.next = none := fun l' h => by
      obtain rfl := Option.some.inj (hl.symm.trans h)
      rfl
    have hopen' : (s.vented p).leakResultsDone p.nest = false :=
      State.leakResultsDone_of_open (s := s.vented p) hl hhas ((State.resultGiven_vented c).trans hopen)
    have heq : s.pressureSample p = s.vented p := by
      rw [State.pressureSample_vented hzero hrange hvent hx, State.afterCircuit_of_no_grant hno hgrant, State.checkLeakStage_of_open hopen']
      exact State.checkStopping_of_not_stopping fun h => nomatch htest.symm.trans h
    refine ⟨s.pressureSample p, rfl, ?_⟩
    rw [heq, State.circuit_vented]
    exact ⟨rfl, rfl, rfl, rfl, rfl, rfl, rfl, rfl⟩
  · have hends := State.pressureSample_ends hzero hrange hvent hx hother hl hnext hall hgrant hs
    have heq := State.pressureSample_ends_list hs hlast hends
    have hd := State.dossier_listEnded (s := s) (p := p)
    refine ⟨s.pressureSample p, rfl, ?_⟩
    by_cases hjob : s.hasJob p.nest = true
    · rw [heq, if_pos hjob]
      refine ⟨congrArg Circuit.state (State.circuit_vented (s := s)), State.leakStage_listEnded, by rw [hd], by rw [hd], fun hqueue hcurrent => ?_,
        fun _ => ?_⟩
      · exact absurd hjob (Bool.eq_false_iff.mp (State.hasJob_eq_false hqueue hcurrent))
      · rw [hd]
        exact hs.1
    · obtain ⟨st, number, pending, plans, reports, causes, hst, hj⟩ := State.enterJudged_eq (s.listEnded p) p.nest
      have htd : ((s.listEnded p).enterJudged p.nest).dossier p.nest =
          { ((s.listEnded p).dossier p.nest).enterJudged (s.listEnded p).reports.clock ((s.listEnded p).classOf p.nest) with
            state := st, reportNumber := number, filingPending := pending } := by
        rw [hj, State.dossier, PerNest.get_set_same]
      rw [heq, if_neg hjob]
      refine ⟨?_, ?_, ?_, ?_, fun _ _ => ⟨?_, ?_⟩, fun hbusy => absurd (State.hasJob_eq_true hbusy) hjob⟩
      · rw [hj]
        exact congrArg Circuit.state (State.circuit_vented (s := s))
      · rw [hj]
        exact State.leakStage_listEnded (s := s)
      · rw [htd, hd]
        rfl
      · rw [htd, hd]
        rfl
      · rw [htd]
        exact hst
      · rw [htd]
        exact fun h => nomatch h
  · have hends := State.pressureSample_ends hzero hrange hvent hx hother hl hnext hall hgrant hs
    obtain ⟨htest, -, -, -⟩ := hs
    generalize hv : (((s.vented p).setLeakStage p.nest none).modDossier p.nest fun e =>
      { e with stageIndex := some (i + 1), lastBegun := some (i + 1) }) = v
    have hbegin := State.beginStage_engage (s := v) (n := p.nest) hattempts
    generalize hw : ({ v with
      dossiers := v.dossiers.set p.nest { v.dossier p.nest with runIn := (v.dossier p.nest).runIn.map fun r => { r with attemptUsed := 0 } }
      channels := v.channels.set p.nest ((v.channel p.nest).engageBegun v.interlock.permitLive a) } : State) = w at hbegin
    have hwalk : ((s.vented p).setLeakStage p.nest none).walkStages p.nest q (q.stagesAfter i) = w := by
      rw [Plan.stagesAfter_cons hstage]
      exact State.walkStages_begins (s := (s.vented p).setLeakStage p.nest none) hskip (by rw [hv]; exact hbegin)
    have hd : w.dossier p.nest = { s.dossier p.nest with
        stageIndex := some (i + 1), lastBegun := some (i + 1), runIn := (s.dossier p.nest).runIn.map fun r => { r with attemptUsed := 0 } } := by
      have hvd : v.dossier p.nest = { s.dossier p.nest with stageIndex := some (i + 1), lastBegun := some (i + 1) } := by
        rw [← hv]
        exact PerNest.get_set_same ..
      rw [← hw, State.dossier, PerNest.get_set_same, hvd]
    have heq : s.pressureSample p = w := by
      rw [hends, hwalk]
      exact State.checkStopping_of_not_stopping (by rw [hd]; exact fun h => nomatch htest.symm.trans h)
    refine ⟨s.pressureSample p, rfl, ?_⟩
    rw [heq]
    refine ⟨?_, ?_, ?_, hd⟩
    · rw [← hw, ← hv]
      exact congrArg Circuit.state (State.circuit_vented (s := s))
    · rw [← hw, ← hv]
      exact PerNest.get_set_same ..
    · rw [← hw, State.channel, PerNest.get_set_same, ← hv]
      rfl
  · have heq := State.pressureSample_stopping hzero hrange hvent hx hl hgrant
    have hstay : (s.vented p).checkStopping p.nest = s.vented p := by
      refine State.checkStopping_of_busy _ _ fun ⟨_, hrest, hidle⟩ => ?_
      have hdrive : ((s.channel p.nest).enable = false ∧ (s.channel p.nest).setPoint = 0) := by
        have hboth : (!(s.channel p.nest).enable && ((s.channel p.nest).setPoint == 0)) = true := hrest
        rw [Bool.and_eq_true, Bool.not_eq_true', beq_iff_eq] at hboth
        exact hboth
      rcases hbusy with h | h | h
      · exact h ((congrArg Circuit.state State.circuit_vented_other).symm.trans (State.circuitsIdle_iff.mp hidle p.chamber.other))
      · exact Bool.eq_false_iff.mp hdrive.1 h
      · exact h hdrive.2
    refine ⟨s.pressureSample p, rfl, ?_⟩
    rw [heq, hstay, State.circuit_vented]
    exact ⟨rfl, rfl, rfl⟩
  · have heq := State.pressureSample_stopping hzero hrange hvent hx hl hgrant
    have hidle (d : Chamber) : ((s.vented p).circuit p.nest d).state = .idle := by
      rcases Chamber.eq_or_other p.chamber d with rfl | rfl
      · rw [State.circuit_vented]
        rfl
      · rw [State.circuit_vented_other, hother]
    obtain ⟨hstate, hverdict, hcause, -, hresults, hpending, -, hdossier, -, -, hcircuits, -⟩ :=
      State.checkStopping_judges (s := s.vented p) (n := p.nest) hstop hstopped henable hset hidle
    refine ⟨s.pressureSample p, rfl, ?_⟩
    rw [heq]
    refine ⟨?_, hstate, hverdict, hcause, hresults, hpending, hdossier⟩
    rw [State.circuit, hcircuits]
    exact congrArg Circuit.state (State.circuit_vented (s := s))
  · have hreport := s.reportFault_reported p.nest .sensorPressure
    obtain ⟨hlatest, hcauses, hpend⟩ := State.pressureSample_noted hzero hrange
    have hdossiers : (s.faultTaken p).dossiers = s.dossiers := hreport.dossiers
    have hstart : (s.faultTaken p).faultList p.nest = (s.reportFault p.nest .sensorPressure).faultList p.nest := rfl
    rw [hstart] at hcauses
    refine ⟨s.pressureSample p, rfl, hlatest.trans (by rw [State.circuit_faultTaken]; rfl), fun hmem => ?_, fun hnew hroom => ?_, fun hidle => ?_,
      fun hst hm hpending hlist hsome => ?_, fun hholding hlist hnext => ?_, fun hvent => ⟨?_, ?_, ?_, fun hcount hnot hempty => ?_⟩⟩
    · rw [hreport.held hmem] at hcauses
      exact hcauses.subset hmem
    · obtain ⟨hjoined, hraised⟩ := hreport.room hnew hroom
      rw [hjoined] at hcauses
      exact ⟨hcauses, hpend _ hraised⟩
    · rw [State.pressureSample_faulty_idle hzero hrange hidle]
      exact ⟨State.circuit_faultTaken, hdossiers, rfl⟩
    · obtain ⟨hcircuit, hgiven, hair⟩ := hm.vents_at_fault hzero hrange hst hpending hlist hsome
      rw [hcircuit]
      exact ⟨rfl, rfl, rfl, hgiven, hair⟩
    · obtain ⟨hcircuit, hsame⟩ := State.held_vents_at_fault hzero hrange hholding hlist hnext
      rw [hcircuit]
      exact ⟨rfl, hsame⟩
    · rw [State.pressureSample_faulty_venting hzero hrange hvent, State.circuits_ventLimitRule_state, State.circuit_faultTaken]
      exact hvent
    · obtain ⟨i, b, cs, h⟩ := (s.faultTaken p).ventLimitRule_frame p.nest p.chamber
      rw [State.pressureSample_faulty_venting hzero hrange hvent, h]
      exact hdossiers
    · obtain ⟨i, b, cs, h⟩ := (s.faultTaken p).ventLimitRule_frame p.nest p.chamber
      rw [State.pressureSample_faulty_venting hzero hrange hvent, h]
      rfl
    · have hlimit : 1000 ≤ (s.taken p true).count := Nat.le_of_eq (State.count_taken (by omega) (by omega)).symm
      have heq := State.ventLimitRule_reports (s := s.reportFault p.nest .sensorPressure) (n := p.nest) (c := p.chamber) (k := s.taken p true)
        (a := s.arbiter) hlimit hnot
      obtain ⟨hjoined, -⟩ := hreport.room (by rw [hempty]; exact nofun) (by rw [hempty]; decide)
      rw [State.pressureSample_faulty_venting hzero hrange hvent, State.faultTaken, heq]
      generalize hu : (s.reportFault p.nest .sensorPressure).circuitMoved p.nest p.chamber { s.taken p true with ventReported := true } s.arbiter = u
      have hvent' := u.reportFault_reported p.nest .ventFail
      have hlist : (u.faultList p.nest).causes = [.sensorPressure] := by
        rw [← hu]
        refine (congrArg FaultList.causes hjoined).trans ?_
        rw [hempty]
        rfl
      obtain ⟨hboth, -⟩ := hvent'.room (by rw [hlist]; decide) (by rw [hlist]; decide)
      refine ⟨?_, by rw [hboth, hlist]; rfl⟩
      rw [State.circuit, hvent'.circuits, ← hu]
      exact (congrArg Circuit.ventReported (State.circuit_circuitMoved_same (s := s.reportFault p.nest .sensorPressure))).trans rfl

end Sys2Proof.Machine
end

section
/-! PROOFS. The samples of a ZERO and the events that end it early. -/

namespace Sys2Proof.Machine

section
variable {s t u v : State} {n : Nest} {c : Chamber} {p : PressureInput} {z : ZeroInProgress} {target : ZeroTarget} {raw : Int} {fault : Bool}

/-! ### The samples (R167) -/

/-- A ZERO with one more sample. -/
def ZeroInProgress.sampled (z : ZeroInProgress) (raw : Int) : ZeroInProgress := { z with taken := z.taken + 1, sum := z.sum + raw }

/-- The machine with the ZERO ended and answered (R167, R179). -/
def State.zeroEnded (s : State) (reply : Word) : State := { s with
  interlock := { s.interlock with zero := none }
  bench := { s.bench with reply := some ⟨[reply], 0⟩, replyReady := true, held := none } }

theorem State.endZero_accepted : s.endZero .accepted = s.zeroEnded 0x0900 := rfl

theorem State.endZero_zeroRange : s.endZero .zeroRange = s.zeroEnded 0x0917 := rfl

theorem State.endZero_wrongState : s.endZero .wrongState = s.zeroEnded 0x090D := rfl

theorem State.zeroSample_of_target (hz : s.interlock.zero = some z) (hn : z.nest = n) (ht : z.target = target) :
    s.zeroSample n target raw fault =
      if fault = true then s.endZero .zeroRange
      else if z.length.samples ≤ z.taken + 1 then s.completeZero (z.sampled raw)
      else { s with interlock := { s.interlock with zero := some (z.sampled raw) } } := by
  simp only [State.zeroSample, hz, if_pos (And.intro hn ht)]
  rfl

theorem State.zeroSample_counts (hz : s.interlock.zero = some z) (hn : z.nest = n) (ht : z.target = target)
    (hmore : z.taken + 1 < z.length.samples) :
    s.zeroSample n target raw false = { s with interlock := { s.interlock with zero := some (z.sampled raw) } } := by
  rw [State.zeroSample_of_target hz hn ht, if_neg Bool.false_ne_true, if_neg (Nat.not_le.mpr hmore)]

theorem State.zeroSample_completes (hz : s.interlock.zero = some z) (hn : z.nest = n) (ht : z.target = target)
    (hlast : z.taken + 1 = z.length.samples) : s.zeroSample n target raw false = s.completeZero (z.sampled raw) := by
  rw [State.zeroSample_of_target hz hn ht, if_neg Bool.false_ne_true, if_pos (Nat.le_of_eq hlast.symm)]

theorem State.zeroSample_faulty (hz : s.interlock.zero = some z) (hn : z.nest = n) (ht : z.target = target) :
    s.zeroSample n target raw true = s.zeroEnded 0x0917 := by
  rw [State.zeroSample_of_target hz hn ht, if_pos rfl, State.endZero_zeroRange]

theorem ZeroTarget.within_iff {x : Int} {m : Nat} (hlimit : target.limit = m) : (-target.limit ≤ x ∧ x ≤ target.limit) ↔ x.natAbs ≤ m := by
  rw [hlimit]
  omega

theorem State.completeZero_within {m : Nat} (hlimit : z.target.limit = m) (h : (z.sum.tdiv z.length.samples).natAbs ≤ m) :
    s.completeZero z = (s.setOffset z.nest z.target (z.sum.tdiv z.length.samples)).zeroEnded 0x0900 :=
  (if_pos ((ZeroTarget.within_iff hlimit).mpr h)).trans State.endZero_accepted

theorem State.completeZero_beyond {m : Nat} (hlimit : z.target.limit = m) (h : m < (z.sum.tdiv z.length.samples).natAbs) :
    s.completeZero z = s.zeroEnded 0x0917 :=
  (if_neg fun hw => absurd ((ZeroTarget.within_iff hlimit).mp hw) (Nat.not_le.mpr h)).trans State.endZero_zeroRange

/-! ### The torque sample of an IDLE channel -/

/-- What a ZERO's sample leaves alone. -/
theorem State.zeroSample_frame (s : State) (n : Nest) (target : ZeroTarget) (raw : Int) (fault : Bool) :
    ∃ i b, s.zeroSample n target raw fault = { s with interlock := i, bench := b } := by
  have hoffset (s : State) (z : ZeroInProgress) (x : Int) : ∃ i, s.setOffset z.nest z.target x = { s with interlock := i } := by
    cases ht : z.target with
    | torque => exact ⟨_, rfl⟩
    | chamber c => exact ⟨_, rfl⟩
  rcases zeroSample_cases s n target raw fault with ⟨-, h⟩ | ⟨z, -, -, -, ⟨-, h⟩ | ⟨-, -, h⟩ | ⟨-, -, h⟩⟩
  · exact ⟨_, _, h⟩
  · exact ⟨_, _, h⟩
  · unfold State.completeZero at h
    extract_lets x at h
    split at h
    · obtain ⟨i, hi⟩ := hoffset s { z with taken := z.taken + 1, sum := z.sum + raw } x
      rw [hi] at h
      exact ⟨_, _, h⟩
    · exact ⟨_, _, h⟩
  · exact ⟨_, _, h⟩

theorem State.channelUpdate_idle {torque : Int} {seated : Bool} (hstop : (s.channel n).stopping = false) (hact : (s.channel n).activity = .idle) :
    s.channelUpdate n torque seated = s := by
  rw [State.channelUpdate, hstop, hact]
  cases s.planOf n <;> rfl

theorem State.driveUpdate_idle {input : UpdateInput} (hact : (s.channel input.nest).activity = .idle)
    (hstop : (s.channel input.nest).stopping = false) (hunit : s.captureUnit input.nest = .idle) :
    s.driveUpdate input = s.zeroSample input.nest .torque input.rawTorque false := by
  obtain ⟨i, b, h⟩ := s.zeroSample_frame input.nest .torque input.rawTorque false
  rw [State.driveUpdate, h]
  rw [State.raisePeak_of_other (s := { s with interlock := i, bench := b }) (fun c hc => nomatch hact.symm.trans hc),
    State.channelUpdate_idle (s := { s with interlock := i, bench := b }) hstop hact,
    State.lookForSlot_of_idle (s := { s with interlock := i, bench := b }) hunit]

/-! ### The pressure sample of an IDLE circuit -/

theorem State.circuitSample_idle {x : Int} (hidle : (s.circuit n c).state = .idle) :
    s.circuitSample n c x fault = s.circuitMoved n c ((s.circuit n c).takeSample x fault) s.arbiter := by
  have hmoved : (s.modCircuit n c fun k => k.takeSample x fault) = s.circuitMoved n c ((s.circuit n c).takeSample x fault) s.arbiter := rfl
  have hstate : ((s.circuitMoved n c ((s.circuit n c).takeSample x fault) s.arbiter).circuit n c).state = .idle := by
    rw [State.circuit_circuitMoved_same]
    exact hidle
  unfold State.circuitSample
  extract_lets v
  rw [show v = s.circuitMoved n c ((s.circuit n c).takeSample x fault) s.arbiter from hmoved]
  split
  · exact State.sensorRule_idle (k := (s.circuit n c).takeSample x fault) hidle
  · exact State.stateRule_idle hstate

theorem State.pressureSample_idle (hidle : (s.circuit p.nest p.chamber).state = .idle) (hfault : pressureFault p.raw = fault)
    (ht : (if fault = true then (s.zeroSample p.nest (.chamber p.chamber) p.raw fault).reportFault p.nest .sensorPressure
      else s.zeroSample p.nest (.chamber p.chamber) p.raw fault) = t) :
    s.pressureSample p = t.circuitMoved p.nest p.chamber (s.taken p fault) s.arbiter := by
  have hframe : ∃ i b, t = { s with interlock := i, bench := b } := by
    obtain ⟨i, b, h⟩ := s.zeroSample_frame p.nest (.chamber p.chamber) p.raw fault
    obtain ⟨i', b', h'⟩ := (s.zeroSample p.nest (.chamber p.chamber) p.raw fault).reportFault_frame p.nest .sensorPressure
    rw [← ht]
    split
    · exact ⟨i', b', h'.trans (by rw [h])⟩
    · exact ⟨i, b, h⟩
  obtain ⟨i, b, hstate⟩ := hframe
  have hcircuit : t.circuit p.nest p.chamber = s.circuit p.nest p.chamber := by rw [hstate]; rfl
  have harbiter : t.arbiter = s.arbiter := by rw [hstate]
  have hsample := State.circuitSample_idle (s := t) (x := s.pressureAt p) (fault := fault) (by rw [hcircuit]; exact hidle)
  rw [hcircuit, harbiter] at hsample
  unfold State.pressureSample
  extract_lets fault' x v w before u
  obtain rfl : fault = fault' := hfault.symm
  have hw : w = t := ht
  have hu : u = t.circuitMoved p.nest p.chamber (s.taken p fault') s.arbiter := by
    show w.circuitSample p.nest p.chamber x fault' = _
    rw [hw]
    exact hsample
  have hbefore : before = .idle := by
    show (w.circuit p.nest p.chamber).state = .idle
    rw [hw, hcircuit, hidle]
  rw [hu, hbefore]
  refine if_pos ?_
  rw [State.circuit_circuitMoved_same]
  exact hidle

/-! ### The enable ends a ZERO of torque (R62, R167) -/

/-- The criteria of an attempt's first update: neither seated nor jammed for long enough. -/
theorem State.attemptCriteria_first {q : Plan} {torque : Int} {seated : Bool} {a : Attempt} :
    ∃ act, s.attemptCriteria n q torque ((EngageCounters.fresh a).seat seated) = s.setActivity n act := by
  have hrun (met : Bool) : countRun 0 met ≤ 1 := by cases met <;> decide
  have hseat : ¬10 ≤ ((EngageCounters.fresh a).seat seated).seatedRun := by
    have hone : ((EngageCounters.fresh a).seat seated).seatedRun ≤ 1 := hrun seated
    omega
  have hjam : ¬(3 ≤ (((EngageCounters.fresh a).seat seated).jam q.jamTorque torque).jamRun ∨
      1500 ≤ (((EngageCounters.fresh a).seat seated).jam q.jamTorque torque).updates) := by
    rintro (h | h)
    · have hone : (((EngageCounters.fresh a).seat seated).jam q.jamTorque torque).jamRun ≤ 1 := hrun _
      omega
    · exact absurd h (by decide : ¬1500 ≤ 0 + 1)
  exact ⟨_, (if_neg hseat).trans (if_neg hjam)⟩

theorem State.zeroTargets_of_some (hz : s.interlock.zero = some z) (hn : z.nest = n) (ht : z.target = target) :
    s.zeroTargets n target = true := by
  simp only [State.zeroTargets, hz, Bool.and_eq_true, beq_iff_eq]
  exact ⟨hn, ht⟩

theorem State.turnOn_ends_zero {x : Int} (hz : s.interlock.zero = some z) (hn : z.nest = n) (ht : z.target = .torque) :
    s.turnOn n x = (s.modChannel n fun ch => ch.enableWith x).zeroEnded 0x090D := by
  have htargets : (s.modChannel n fun ch => ch.enableWith x).zeroTargets n .torque = true :=
    State.zeroTargets_of_some (s := s.modChannel n fun ch => ch.enableWith x) hz hn ht
  rw [State.turnOn, State.endZeroOnEnable, if_pos htargets, State.endZero_wrongState]

/-- The first update of an attempt ends a ZERO of its nest's torque. -/
theorem State.driveUpdate_ends_zero {input : UpdateInput} {q : Plan} {i : Nat} {a : Attempt} (hz : s.interlock.zero = some z)
    (hn : z.nest = input.nest) (ht : z.target = .torque) (hmore : z.taken + 1 < z.length.samples) (hs : s.stageIs input.nest q i .engage)
    (hact : (s.channel input.nest).activity = .engaging (EngageCounters.fresh a)) (hstop : (s.channel input.nest).stopping = false)
    (hunit : s.captureUnit input.nest = .idle) (hallowed : s.enableAllowed input.nest) (hclass : s.classOf input.nest ≠ 7) :
    ∃ act, s.driveUpdate input = ((s.modChannel input.nest fun ch => ch.enableWith (a.setPoint 1)).zeroEnded 0x090D).setActivity input.nest act := by
  generalize hv : ({ s with interlock := { s.interlock with zero := some (z.sampled input.rawTorque) } } : State) = v
  have hsample : s.zeroSample input.nest .torque input.rawTorque false = v := (State.zeroSample_counts hz hn ht hmore).trans hv
  have hvact : (v.channel input.nest).activity = .engaging (EngageCounters.fresh a) := by rw [← hv]; exact hact
  have hwork (torque : Int) : ∃ act, v.channelUpdate input.nest torque input.seated =
      ((s.modChannel input.nest fun ch => ch.enableWith (a.setPoint 1)).zeroEnded 0x090D).setActivity input.nest act := by
    have hon := State.turnOn_ends_zero (s := v) (z := z.sampled input.rawTorque) (n := input.nest) (x := a.setPoint 1) (by rw [← hv]) hn ht
    obtain ⟨act, hcriteria⟩ := State.attemptCriteria_first (s := v.turnOn input.nest (a.setPoint 1)) (n := input.nest) (q := q) (torque := torque)
      (seated := input.seated) (a := a)
    refine ⟨act, ?_⟩
    rw [State.channelUpdate_engaging (by rw [← hv]; exact hstop) (by rw [← hv]; exact hs.2.1) hvact,
      State.engageUpdate_granted (by rw [← hv]; exact hallowed) (by rw [← hv]; exact hclass), hcriteria, hon, ← hv]
    rfl
  obtain ⟨act, hact'⟩ := hwork (conditionTorque (s.interlock.torqueOffset.get input.nest) input.rawTorque)
  refine ⟨act, ?_⟩
  generalize hend : ((s.modChannel input.nest fun ch => ch.enableWith (a.setPoint 1)).zeroEnded 0x090D).setActivity input.nest act = w at hact' ⊢
  have hidle : w.captureUnit input.nest = .idle := by
    rw [← hend]
    exact hunit
  have hpeak (torque : Int) : v.raisePeak input.nest torque = v := State.raisePeak_of_other fun c hc => nomatch hvact.symm.trans hc
  rw [State.driveUpdate, hsample, hpeak, hact']
  exact State.lookForSlot_of_idle hidle

/-! ### The request for air ends a ZERO of the chamber (R102, R167) -/

theorem State.requestAir_ends_zero {ix : LeakSetIx} (hz : s.interlock.zero = some z) (hn : z.nest = n) (ht : z.target = .chamber c) :
    s.requestAir n c ix = (s.zeroEnded 0x090D).requestAir n c ix := by
  have htargets : ((s.modCircuit n c fun k => { k.enter .waitingAir with leakSet := some ix }).modArbiter fun a =>
      { a with waiting := a.waiting ++ [⟨n, c⟩] }).zeroTargets n (.chamber c) = true :=
    State.zeroTargets_of_some (s := (s.modCircuit n c fun k => { k.enter .waitingAir with leakSet := some ix }).modArbiter fun a =>
      { a with waiting := a.waiting ++ [⟨n, c⟩] }) hz hn ht
  rw [State.requestAir_of_noZero (s := s.zeroEnded 0x090D) rfl, State.requestAir, State.endZeroOnLeavingIdle, if_pos htargets]
  rfl

theorem State.leakPrepared_zeroEnded {m : ChamberSet} {ix : LeakSetIx} {reply : Word} :
    (s.zeroEnded reply).leakPrepared n m ix = (s.leakPrepared n m ix).zeroEnded reply := by
  obtain ⟨c0, c1⟩ := m
  cases c0 <;> cases c1 <;> rfl

/-- A LEAK stage that begins with the chamber of a ZERO in progress. -/
theorem State.beginLeak_ends_zero {mask m : ChamberSet} {ix : LeakSetIx} (hm : mask.inter (s.dossier n).leakScope = m) (hc : m.has c = true)
    (hfirst : c = .c1 → m.c0 = false) (hz : s.interlock.zero = some z) (hn : z.nest = n) (ht : z.target = .chamber c) :
    LeakBegun (s.zeroEnded 0x090D) (s.beginLeak n mask ix) n m ix c := by
  have hprepared : (s.leakPrepared n m ix).interlock.zero = some z := by
    obtain ⟨cs, h⟩ := State.leakPrepared_frame (s := s) (n := n) m ix
    rw [h]
    exact hz
  have hsame : s.beginLeak n mask ix = (s.zeroEnded 0x090D).beginLeak n mask ix := by
    rw [State.beginLeak_eq hm hc hfirst, State.beginLeak_eq (s := s.zeroEnded 0x090D) hm hc hfirst, State.leakPrepared_zeroEnded,
      State.requestAir_ends_zero hprepared hn ht]
  rw [hsame]
  exact State.beginLeak_begun (s := s.zeroEnded 0x090D) hm hc hfirst rfl ix

end

/-- Settles O20: the samples of a ZERO of torque and of a chamber, and the enable and the auto-start that end it. -/
theorem zeroSamplesSetTheOffset : Obligations.ZeroSamplesSetTheOffset := by
  refine ⟨fun input z s hz hn ht hact hstop hunit => ?_, fun p z s hz hn ht hidle => ?_,
    fun input z q i a s hz hn ht hmore hs hact hstop hunit hallowed hclass => ?_, fun b n z q m ix rest c s hb hlink hst hclamped hplan hauto
      hestop hfaults hstages hfirst hhas hz hn ht => ?_⟩
  · have heq := State.driveUpdate_idle (input := input) hact hstop hunit
    refine ⟨fun hmore => ?_, fun hlast hwithin => ?_, fun hlast hbeyond => ?_⟩
    · exact congrArg Host.Outcome.next (heq.trans (State.zeroSample_counts hz hn ht hmore))
    · have hlimit : (z.sampled input.rawTorque).target.limit = (2000 : Nat) := congrArg ZeroTarget.limit ht
      have hoffset (x : Int) : s.setOffset (z.sampled input.rawTorque).nest (z.sampled input.rawTorque).target x = s.setOffset input.nest .torque x :=
        congrArg₂ (fun m target => s.setOffset m target x) hn ht
      have hdone := heq.trans ((State.zeroSample_completes hz hn ht hlast).trans (State.completeZero_within hlimit hwithin))
      rw [hoffset] at hdone
      exact congrArg Host.Outcome.next hdone
    · have hlimit : (z.sampled input.rawTorque).target.limit = (2000 : Nat) := congrArg ZeroTarget.limit ht
      exact congrArg Host.Outcome.next
        (heq.trans ((State.zeroSample_completes hz hn ht hlast).trans (State.completeZero_beyond hlimit hbeyond)))
  · have hlimit : (z.sampled p.raw).target.limit = (5000 : Nat) := congrArg ZeroTarget.limit ht
    have hsound {t : State} (hrange : pressureInRange p) (h : s.zeroSample p.nest (.chamber p.chamber) p.raw false = t) :=
      State.pressureSample_idle hidle (pressureFault_eq_false hrange) ((if_neg Bool.false_ne_true).trans h)
    refine ⟨fun hmore hrange => ?_, fun hlast hrange hwithin => ?_, fun hbad => ?_⟩
    · exact congrArg Host.Outcome.next (hsound hrange (State.zeroSample_counts hz hn ht hmore))
    · have hoffset (x : Int) : s.setOffset (z.sampled p.raw).nest (z.sampled p.raw).target x = s.setOffset p.nest (.chamber p.chamber) x :=
        congrArg₂ (fun m target => s.setOffset m target x) hn ht
      have hdone := (State.zeroSample_completes hz hn ht hlast).trans (State.completeZero_within hlimit hwithin)
      rw [hoffset] at hdone
      exact congrArg Host.Outcome.next (hsound hrange hdone)
    · rcases hbad with ⟨hlast, hrange, hbeyond⟩ | hrange
      · have hdone := (State.zeroSample_completes hz hn ht hlast).trans (State.completeZero_beyond hlimit hbeyond)
        exact ⟨_, congrArg Host.Outcome.next (hsound hrange hdone), rfl, rfl, rfl, rfl, rfl, rfl, rfl⟩
      · have hfaulty := State.zeroSample_faulty (raw := p.raw) hz hn ht
        have hreported {t : State} (h : (s.zeroEnded 0x0917).reportFault p.nest .sensorPressure = t) :=
          State.pressureSample_idle hidle (pressureFault_eq_true hrange)
            ((if_pos rfl).trans ((congrArg (fun v : State => v.reportFault p.nest .sensorPressure) hfaulty).trans h))
        rcases reportFault_cases (s.zeroEnded 0x0917) p.nest .sensorPressure with ⟨h, -⟩ | ⟨-, -, h⟩ | ⟨-, -, -, h⟩
        · exact ⟨_, congrArg Host.Outcome.next (hreported h), rfl, rfl, rfl, rfl, rfl, rfl, rfl⟩
        · exact ⟨_, congrArg Host.Outcome.next (hreported h), rfl, rfl, rfl, rfl, rfl, rfl, rfl⟩
        · exact ⟨_, congrArg Host.Outcome.next (hreported h), rfl, rfl, rfl, rfl, rfl, rfl, rfl⟩
  · obtain ⟨act, h⟩ := State.driveUpdate_ends_zero hz hn ht hmore hs hact hstop hunit hallowed hclass
    refine ⟨_, congrArg Host.Outcome.next h, ?_, rfl, rfl⟩
    rw [State.channel_setActivity]
    exact congrArg Channel.enable (State.channel_modChannel_same ..)
  · generalize hu : ({ s with dossiers := s.dossiers.set n { s.dossier n with clamped := true } } : State) = u
    have hd : u.dossier n = { s.dossier n with clamped := true } := by
      rw [← hu]
      exact PerNest.get_set_same ..
    have hp : u.planOf n = some q := by
      rw [← hplan, State.planOf, hd, ← hu]
      rfl
    have hholds : u.autoStartHolds n = true := by
      rw [State.autoStartHolds_iff hp, hd, ← hu]
      exact ⟨hst, rfl, hauto, hestop, hfaults⟩
    have heff : clampedRequest b s = (u.startDossier n, .accepted) := by
      rw [clampedRequest, withNest_of_some hb, if_neg (not_not_intro hst), if_neg (Bool.eq_false_iff.mp hclamped)]
      exact congrArg (·, ReplyCode.accepted) ((congrArg (fun v : State => v.autoStart n) hu).trans (if_pos hholds))
    have hsecond : c = .c1 → m.c0 = false := fun hc => Bool.eq_false_iff.mpr fun hm => by
      rw [if_pos hm, hc] at hfirst
      exact nomatch hfirst
    have hbegun := State.beginLeak_ends_zero (s := u.startRecorded n q) (ix := ix)
      (State.inter_leakScope_startRecorded (by rw [hstages]; exact List.mem_cons_self)) hhas hsecond (by rw [← hu]; exact hz) hn ht
    rw [← State.startDossier_eq_beginLeak hp hstages hhas] at hbegun
    obtain ⟨a, cs, hframe⟩ := hbegun.frame
    refine ⟨_, exec_clamped_of_linkFree hlink heff (by rw [hframe, ← hu]; rfl), ?_, ?_, ?_⟩
    · rcases hbegun.state with h | h
      · exact fun hidle => nomatch h.symm.trans hidle
      · exact fun hidle => nomatch h.symm.trans hidle
    · rw [hframe, ← hu]
      rfl
    · rw [hframe, ← hu]
      rfl

end Sys2Proof.Machine
end
